-- ==== Sys2Proof/Word.lean ====
section
/-! DEFINITION. The bit-vector types the manual's quantities are written in. Every helper on them that a test could show
wrong (bit fields, binary32 arithmetic, CRCs) stands in `Sys2Proof/Machine`. -/

namespace Sys2Proof

/-- One byte of a record, frame or crossing (R7). -/
abbrev Byte := BitVec 8

/-- A 16-bit field: a tag, an index, a parameter ID, a BAR0 offset, an event code. -/
abbrev Half := BitVec 16

/-- A 32-bit word of BAR0, BAR2 or a record. -/
abbrev Word := BitVec 32

/-- The bits of an IEEE 754 binary32 value (R8). -/
abbrev F32 := BitVec 32

/-- Electrical angle as a 16-bit turn fraction (R9). -/
abbrev Angle := BitVec 16

/-- Device time: a 64-bit count of 2.5 ns ticks (R10). -/
abbrev Time := BitVec 64

/-- One 32-byte ring entry, byte 0 in bits [7:0] (R349). -/
abbrev Entry := BitVec 256

end Sys2Proof
end

