-- ==== Sys2Proof/Syntax.lean ====
section
/-! DEFINITION. The commands of the Volkin SW8 as a block: one constructor of `Instr` per row of spec/opcode_table.json,
with the operands the rules give the row. The names of the units come first. -/

namespace Sys2Proof

/-- The seven regions, in code order (R11, R25). -/
inductive RegionId
  | sup | hst | tra | trb | spn | chg | act
deriving DecidableEq, Repr

/-- The 27 bridge clusters (R25, R27, R28), the 17 high-voltage ones first, in the order of their index b. -/
inductive BridgeId
  | ta1 | ta2 | ta3 | tb1 | tb2 | tb3 | sp1 | sp2 | sp3 | sp4
  | pf1 | pf2 | pf3 | dp1 | dp2 | ds1 | ds2 | bch
  | g1u | g1v | g1w | g2u | g2v | g2w | g3u | g3v | g3w
deriving DecidableEq, Repr

/-- The two traction sides: TRA drives the left machine, TRB the right (07). -/
inductive Side
  | a | b
deriving DecidableEq, Repr

/-- A port through which BAR0 is reached (R61, R185, R341). -/
inductive Port
  | pcie | spi
deriving DecidableEq, Repr

/-- A law engine `LAW00` to `LAW15` (R23). -/
abbrev LawId := Fin 16
/-- A gate side; number n stands for `GS(n+1)` (R27). -/
abbrev GsId := Fin 35
/-- A sense cluster `SNS00` to `SNS11` (R26). -/
abbrev SnsId := Fin 12
/-- An analog input, and its window monitor (R175). -/
abbrev WinId := Fin 48
/-- A converted channel: 0 to 47 are `AIN00` to `AIN47`, 48 to 53 the shunt channels 1A, 1B, 2A, 2B, 3A, 3B (R175). -/
abbrev ChanId := Fin 54
/-- A CAN controller (R416). -/
abbrev CanId := Fin 3
/-- A check-value unit (R430). -/
abbrev ChkId := Fin 8
/-- Actuator a is number a - 1 (R291). -/
abbrev ActId := Fin 3
/-- A replica of a law cluster (R110). -/
abbrev RepId := Fin 3
/-- A ring (R348). -/
abbrev RingId := Fin 16
/-- A transaction slot (R369). -/
abbrev SlotId := Fin 4

/-- The common header of a host-to-device ring entry, without its `TYPE` (R349). -/
structure RecHdr where
  flags  : Byte
  tag    : Half
  atTide : Word
deriving DecidableEq, Repr

/-- One slot of a SETPOINT record (R355). -/
structure SpSlot where
  law   : Byte
  index : Byte
  value : F32
deriving DecidableEq, Repr

/-- The three pin samples of a law cluster's replicas for one input, replica 0 first (R119). -/
structure Tri (α : Type) where
  r0 : α
  r1 : α
  r2 : α
deriving DecidableEq, Repr

/-- What one replica of a law cluster samples at its pins at the start of a run (R119, R291, R94, R218). -/
structure PinSample where
  /-- quadrature count of the region's encoder, and whether an index pulse has been seen since reset -/
  encCount  : Half
  encIndex  : Bool
  /-- both tracks changed between two samples since the last run (R219) -/
  encFault  : Bool
  /-- last complete period and last high time of `SETP0` and `SETP1`, in 2.5 ns cycles; 0 for none (R94) -/
  sp0Period : Word
  sp0High   : Word
  sp1Period : Word
  sp1High   : Word
  /-- time since the last rising edge of `SETP0` and `SETP1`, in 2.5 ns cycles (R95) -/
  sp0Since  : Word
  sp1Since  : Word
  /-- levels of the actuator's three hall inputs, U in bit 0 (R291) -/
  hall      : BitVec 3
  /-- time between the last two hall edges, and since the last edge, in 2.5 ns cycles (R293) -/
  edgeTicks : Word
  sinceEdge : Word
deriving DecidableEq, Repr

/-- How one replica's crossing of the sample set and its agreement round went: taken; taken, but its pin samples had not reached the others
by cycle 31 (R120); or not acknowledged within 8 sender cycles (R113). -/
inductive Ack
  | taken | mute | late
deriving DecidableEq, Repr

/-- What the voter receives from one replica (R114): the bundle of a fault-free run, another one with the output words and the signature it
carries, or none. -/
inductive Bundle
  | good | odd (outs : List Word) (sig : Word) | missing
deriving DecidableEq, Repr

/-- What a replica's storage reads back while a check signature is formed over its words: every word as written, or the word at one position
as another value (R122, R132). -/
abbrev Readback := Option (Half × Word)

/-- What the two voter copies see at the end of a run (R111, R114). -/
structure VoteObs where
  bundles     : Tri Bundle
  copiesAgree : Bool
deriving DecidableEq, Repr

/-- The entry of a sense sequence that ends (R177, R181). -/
inductive ScanEntry
  /-- sequence entry e with its raw code and over-range flag -/
  | seq (e : Fin 16) (raw : Half) (ovr : Bool)
  /-- the converter check at VREF/4 (low) or 3 VREF/4 -/
  | check (low : Bool) (raw : Half)
  /-- the readback of the DAC whose turn it is -/
  | readback (raw : Half)
deriving DecidableEq, Repr

/-- Which read of host memory is meant (R336). -/
inductive HostRead
  | manifest | ring (n : RingId)
deriving DecidableEq, Repr

/-- A received TLP that is discarded (R336). -/
inductive BadTlp
  | completion (r : HostRead) | other
deriving DecidableEq, Repr

/-- The causes of a PCIe reset (R337). -/
inductive PcieResetKind
  | fundamental | hot | linkDown | d3hot
deriving DecidableEq, Repr

/-- The configuration-space fields the device obeys (R334, R335). -/
structure PcieConfig where
  busMaster  : Bool
  extTag     : Bool
  msixEnable : Bool
  msixMask   : Bool
  /-- Max_Payload_Size in bytes -/
  maxPayload : Half
  /-- Max_Read_Request_Size in bytes -/
  maxRead    : Half
deriving DecidableEq, Repr

/-- The context registers of a check-value unit (R433). -/
inductive ChkReg
  | value | alive | length
deriving DecidableEq, Repr

/-- The two comparators of a window monitor (R23). -/
inductive Comp
  | hi | lo
deriving DecidableEq, Repr

/-- A switch of a half-bridge. -/
inductive Sw
  | high | low
deriving DecidableEq, Repr

/-- The header of a hawser crossing as received, and the CRC that ends it (R392, R393). `KIND` and `LENGTH` follow from the row and its
payload. -/
structure CrossHdr where
  alive    : Byte
  flags    : Byte
  mark     : Byte
  markId   : Word
  markTide : Word
  tide     : Word
  epoch    : Word
  crc      : Word
deriving DecidableEq, Repr

/-- The payload of a HELLO (R397). -/
structure HelloBody where
  strap     : Bool
  tideTicks : Word
  ratios    : Vector Half 7
  dabMult   : Byte
  share     : F32
  serial    : Time
  /-- the mate has an armed bridge, by which R399 chooses who adopts; no field of the payload (log 103) -/
  armed     : Bool
deriving DecidableEq, Repr

/-- A TIMING crossing: the payload's two instants, when it left the sender and when the sender's last one from here arrived there, and the
instant of its arrival as this device measures it; all in units of 312.5 ps (R398). -/
structure TimingBody where
  departed : Time
  arrived  : Time
  here     : Time
deriving DecidableEq, Repr

/-- The payload of a HEALTH crossing (R401). -/
structure HealthBody where
  regions   : Vector Byte 7
  brake     : Byte
  pair      : Byte
  actModes  : Half
  idStatus  : Word
  share     : F32
deriving DecidableEq, Repr

/-- The payload of a MIRROR crossing: its region, period number, sample instant and words (R401). -/
structure MirrorBody where
  region : RegionId
  period : Word
  sample : Time
  words  : List Word
deriving DecidableEq, Repr

/-- A CAN frame on the bus (R426, R427). `ident` holds the identifier in [28:0], IDE in [29], RTR in [30], ESI in [31]. -/
structure CanFrame where
  ident : Word
  fdf   : Bool
  brs   : Bool
  dlc   : BitVec 4
  data  : List Byte
deriving DecidableEq, Repr

/-- How a transmission attempt ends without success (R424). -/
inductive TxFail
  | arbitration | error (lec : BitVec 3)
deriving DecidableEq, Repr

/-- The first three bytes of a setup SPI frame as the host sends them (R341): the command and the offset. -/
structure SpiHead where
  cmd    : Byte
  offset : Half
deriving DecidableEq, Repr

/-- The straps sampled at T0 (R16, R482). -/
structure Straps where
  pair     : Bool
  spiw     : Bool
  testmode : Bool
deriving DecidableEq, Repr

/-- How the gate-power rail fails (R461, R462). -/
inductive GpFault
  | notReady | outOfWindow | overvoltage
deriving DecidableEq, Repr

/-- The kinds of crossing (R392). -/
inductive CrossKind
  | idle | hello | timing | mirror | health | farewell
deriving DecidableEq, Repr

/-- The throttle channels A to R, in the order of the status registers (R327, R332). -/
inductive ThrCh
  | a | b | s | p | d | c | r
deriving DecidableEq, Repr

/-- What a JTAG instruction addresses (R44, R478). -/
inductive JtagOp
  | bypass | idcode | sample | extest | trim
deriving DecidableEq, Repr

/-- What is measured about one edge of an armed bridge's switch node and gate, for the dead-time and slew loops
(R146, R151): no transition seen, or its end after the turn-off command and the peak of its displacement current. -/
inductive NodeObs
  | none
  /-- time from the turn-off command to the end of the transition in 312.5 ps units, and the peak displacement current in A -/
  | seen (tMeas : Half) (peak : F32)
deriving DecidableEq, Repr

/-- What a commanded self-test reports of one unit it tested (R472). -/
structure UnitTest where
  /-- row number of R473 -/
  kind     : Byte
  unit     : Byte
  /-- the signatures obtained from the logic test and from March C−, where the unit has them -/
  logic    : Word
  mem      : Word
  /-- the first failing word of March C−, 0xFFFF for none -/
  failAddr : Half
  micros   : Word
deriving DecidableEq, Repr

/-- The commands: one constructor per row of spec/opcode_table.json, in the table's order. -/
inductive Instr
  -- ring 0 command records (R355), each at the instant it applies
  | nop (h : RecHdr)
  | setMode (h : RecHdr) (region actuator mode : Byte)
  | setpoint (h : RecHdr) (s0 s1 s2 : SpSlot)
  | arm (h : RecHdr) (region : Byte) (mask : Word)
  | disarm (h : RecHdr) (region : Byte) (mask : Word)
  | resetCluster (h : RecHdr) (region cluster : Byte)
  | resetRegion (h : RecHdr) (region : Byte)
  | brakeApply (h : RecHdr)
  | brakeRelease (h : RecHdr)
  | brakeTest (h : RecHdr)
  | setPosition (h : RecHdr) (actuator : Byte) (value : F32)
  | canRecover (h : RecHdr) (ctrl : Byte)
  | selftest (h : RecHdr) (kind region cluster replica : Byte)
  -- ring 1 transaction records (R356), each as it is read
  | begin (h : RecHdr) (slot flags : Byte) (txid target : Word)
  | stage (h : RecHdr) (slot count : Byte) (i0 : Half) (v0 : Word) (i1 : Half) (v1 : Word) (i2 : Half) (v2 : Word)
  | commit (h : RecHdr) (slot : Byte) (seq expect : Word)
  | rollback (h : RecHdr) (slot : Byte)
  -- instants of the tide and of the law engines
  | voteInstant
  /-- whether the states of blocking nets A and B that the bridges report match the lands (R312) -/
  | tideBoundary (netA netB : Bool)
  | timingMark
  | regionPeriodStart (r : RegionId)
  | sampleInstant (law : LawId) (pins : Tri PinSample) (acks : Tri Ack)
  | law14Pass (k : Fin 4)
  | vote (law : LawId) (obs : VoteObs)
  | applyInstant (law : LawId) (late : Bool)
  | loadPoint (b : BridgeId) (peak : Bool) (copiesAgree : Bool)
  -- the host link
  | manifestFetch
  | manifestReadComplete (bytes : BitVec 1024)
  | descriptorReadComplete (ring : RingId) (entries : List Entry)
  | hostReadTimeout (read : HostRead)
  | tlpDiscard (tlp : BadTlp)
  | pcieReset (kind : PcieResetKind)
  -- registers
  | registerWrite (port : Port) (offset : Half) (be : BitVec 4) (value : Word)
  | rcRead (port : Port) (offset : Half) (be : BitVec 4) (setNow : Word)
  | w1cWrite (port : Port) (offset : Half) (be : BitVec 4) (value : Word) (setNow : Word)
  | devtimeCapture (port : Port)
  | accCapture (port : Port) (chan : ChanId)
  | lqDataRead (port : Port) (sns : SnsId)
  | timingSetupWrite (port : Port) (offset : Half) (value : Word)
  | hstRunSet (port : Port) (value : Word)
  | hstRunClear (port : Port) (value : Word)
  | spiRead (head : SpiHead) (bytes : List Byte)
  | spiWrite (head : SpiHead) (bytes : List Byte)
  -- debug
  | dbgHalt
  | dbgStep (pins : Tri PinSample) (obs : VoteObs)
  | dbgResume (back : Tri Readback)
  | dbgDataWrite (value : Word)
  | dbgRegHalt
  /-- what the replicas of the region's law clusters read back, in cluster order (R45, R132) -/
  | dbgRegResume (back : Tri (Tri Readback))
  | dbgBrgHalt
  | dbgBrgResume
  -- check-value units
  | chkFeedB (port : Port) (n : ChkId) (value : Byte)
  | chkFeedH (port : Port) (n : ChkId) (value : Half)
  | chkFeedW (port : Port) (n : ChkId) (value : Word)
  | chkRestart (port : Port) (n : ChkId)
  | chkContextWrite (port : Port) (n : ChkId) (reg : ChkReg) (value : Word)
  -- sensing and windows
  | scanEntryComplete (sns : SnsId) (entry : ScanEntry)
  | windowCrossing (win : WinId) (comp : Comp) (level : Bool) (samples : Byte)
  | tripInChange (input : Fin 2) (level : Bool)
  | tripWindowEnd (b : BridgeId)
  | standinCheckStep (wst : Fin 3) (ok steady : Bool)
  -- gate sides and bridges
  | desaturation (gs : GsId)
  | desat (gs : GsId) (fell : Bool)
  | gsLost (gs : GsId)
  | pairlinkLost (gs : GsId)
  | shootGs (b : BridgeId) (sw : Sw) (withdrawn : Bool)
  | gsVpUv (gs : GsId) (vp : F32)
  | gsVnUv (gs : GsId) (vn : F32)
  | gsReady (gs : GsId)
  | gsDriveFault (gs : GsId)
  | vdsAct (b : BridgeId) (sw : Sw)
  | bstUv (b : BridgeId) (volts : F32)
  | cpFault (volts : F32)
  | cpRecovery
  | dtAtLimit (b : BridgeId) (sw : Sw)
  | dvdtAtLimit (b : BridgeId) (sw : Sw) (turnOn : Bool)
  -- torque-off and brake
  | safeEnFall (land : Fin 2)
  | safeEnRelease
  | safeEnDiscrepancy
  | brkStoDelay
  /-- `BRK_FB`, `BRK_ISNS` and the level of `VSUP` that the readback is judged against, in volts (R301, R304) -/
  | brakeConversion (fb isns vsup : F32)
  | brkTestPulse
  | pullInEnd
  -- supplies and start
  | vsupWarn (volts : F32)
  | vsupResumed (volts : F32)
  | vsupReset
  | vioFault (volts : F32)
  | vrefFault (volts : F32)
  | vmUv (volts : F32)
  | vmOv (volts : F32)
  | gpRailFault (kind : GpFault) (volts : F32)
  | powerOn (straps : Straps)
  | resetNRelease (straps : Straps)
  | startCheck (region : RegionId) (cluster : BitVec 4) (gs : Option GsId) (ok : Bool)
  | dieALost (celsius : F32)
  | dieCFault (celsius : F32)
  | refLost
  -- timing
  | islandUnlock (region : RegionId) (cluster : BitVec 4) (ppm : F32)
  | markLost
  /-- the instant of the edge in device time, in 312.5 ps units (R77) -/
  | syncInEdge (edge : Time)
  | syncInLost
  | syncOutPulse
  /-- the instant of the edge in device time, in 312.5 ps units (R253) -/
  | extclkEdge (edge : Time)
  | extSyncLost
  -- hawser
  | hello (h : CrossHdr) (body : HelloBody)
  | timing (h : CrossHdr) (body : TimingBody)
  | mirror (h : CrossHdr) (body : MirrorBody)
  | health (h : CrossHdr) (body : HealthBody)
  | farewell (h : CrossHdr)
  | idle (h : CrossHdr)
  | timingSend
  | idleSend
  | linkLost
  | laneAlignmentLost (lane : Fin 2)
  | matePresChange (level : Bool)
  | matePresFault
  -- CAN
  | canTxLoad (c : CanId)
  | frameSent (c : CanId) (buf : Fin 3) (stamp : Word)
  | txAttemptFailed (c : CanId) (buf : Fin 3) (how : TxFail)
  | canFrameReceived (c : CanId) (frame : CanFrame) (stamp : Word)
  | fdfReceived (c : CanId)
  | canBusOff (c : CanId)
  | canRecovered (c : CanId)
  | canErrPassive (c : CanId)
  -- charger
  | pilotPeriod (periodTicks highTicks : Word)
  | ppConversion (volts : F32)
  | sourceValid
  | chgTimerExpired
  | peerRaiseTimeout
  | chargeDone
  | batteryAbsent
  -- set-points and following error
  | spSourceLost (law : LawId)
  | spSourceBack (law : LawId)
  | followErr (law : LawId)
  -- traction
  | rotorLost (side : Side)
  | rotorCaught (side : Side)
  | catchFailed (side : Side)
  | fluxLow (side : Side)
  | fluxHigh (side : Side)
  -- actuators, chopper, discharge, thermal, host loss
  | actParked (a : ActId)
  | chopperOpen
  | chopperConducts
  | disTimeout
  | sensBroken (k : Fin 8)
  | throttleStep (ch : ThrCh)
  | hostLost
  -- darning, wash, self-test
  | darningStart (law : LawId)
  | darnDone (law : LawId) (back : Readback)
  | washSlot (law : LawId) (shadowOk : Bool)
  | washTestEnd (logic mem : Word) (failAddr : Half) (micros : Word)
  | selftestEnd (units : List UnitTest)
  -- edges, gate power, reset, JTAG, PCIe, the rest
  | carrierEdge (b : BridgeId) (sw : Sw) (on : Bool) (copiesAgree : Bool) (node : NodeObs)
  | gpRailReady (volts : F32)
  | gpHalfCycle (edgeSeen : Bool)
  | gpCurrentLimit
  | resetNAssert (lowTicks : Word)
  | jtagInstruction (op : JtagOp) (pins : List Bool)
  | pcieLinkUp
  | pcieConfigWrite (cfg : PcieConfig)
  | hostEndpointFault
  | hawserFault
  | canFault (c : CanId)
  | safeEnRise (land : Fin 2)
  | laneAligned
  | crossingSent (kind : CrossKind)
  | brkTestPulseEnd
  | windowHoldRelease (win : WinId)
  | errorFrame (c : CanId) (lec : BitVec 3)
deriving DecidableEq, Repr

end Sys2Proof
end

