-- ==== Sys2Proof/Config.lean ====
section
/-! DEFINITION. The values the manual leaves open: constants with no body, so that nothing can be proved of them beyond what
the definitions that use them force. Each is named in the assumption log. -/

namespace Sys2Proof.Config

/-- Position of a reciprocal inside the one unit in the last place that R83 allows, read modulo 3: 0 exact rounding, 1 one
unit up, 2 one unit down. Applied to the operand. Log 3. -/
opaque recipUlp : F32 → Nat

/-- The same for the square root (R83). Log 3. -/
opaque sqrtUlp : F32 → Nat

/-- The value of the sine table and its interpolation at an angle (R83); `Float.sinA` keeps it within 5e-6 of the sine. Log 3. -/
opaque sinCode : Angle → F32

/-- Factory trim of a channel at a gain: the offset o of R178, in codes. Log 4. -/
opaque trimOffset : Nat → Nat → Int

/-- Factory trim of a channel at a gain: the gain factor k of R178, in units of 2^-16. Log 4. -/
opaque trimGain : Nat → Nat → Nat

/-- The unit serial number, factory trim (R340). Log 4. -/
opaque serial : BitVec 64

/-- The Vendor ID registered to Ozgoend (R3). Log 4. -/
opaque vendorId : BitVec 16

/-- A free 32-bit value: the state's counter of free values picks a fresh one at each use. Log 2. -/
opaque freeWord : Nat → BitVec 32

/-- A free bit, picked like `freeWord`. Log 2. -/
opaque freeBit : Nat → Bool

/-- The results that the multiply-adds and the function units of an engine's run give, in sequencer order, picked like `freeWord`: R117 folds
them into the signature, and the sequences are not given. Log 77. -/
opaque datapath : Nat → Nat → List (BitVec 32)

/-- The grid PLL's angle and angular speed: R103 names `grid_pll` and its gain and gives no equations. Applied to the three
grid voltages, the gain, the previous angle and speed. Log 5. -/
opaque gridAngle : F32 → F32 → F32 → F32 → Angle → F32 → Angle

/-- The angular speed that `gridAngle`'s PLL finds (R103). Log 5. -/
opaque gridSpeed : F32 → F32 → F32 → F32 → Angle → F32 → F32

/-- The hold angle of the 64-entry overmodulation table at a modulation, as an angle (R210). Log 5. -/
opaque holdAngle : F32 → Angle

end Sys2Proof.Config
end

