-- ==== Sys2Proof/Machine/Float.lean ====
section
/-! DEFINITION. The arithmetic of a law replica (R82, R83): binary32 with one rounding per fused multiply-add, to nearest
with ties to even, subnormals replaced by zero of the same sign; reciprocal and square root within one unit in the last
place; sine and cosine within 5e-6; angle conversion to the nearest code. -/

namespace Sys2Proof.F

/-- A binary32 value taken apart: `fin n m e` is (-1)^n m 2^e. -/
inductive FVal
  | fin (neg : Bool) (man : Nat) (exp : Int)
  | inf (neg : Bool)
  | nan
deriving DecidableEq, Repr

/-- Subnormal operands are read as zero (R82). -/
def decode (x : F32) : FVal :=
  let neg := x.getLsbD 31
  let e := (x.toNat / 0x800000) % 256
  let m := x.toNat % 0x800000
  if e = 255 then (if m = 0 then .inf neg else .nan)
  else if e = 0 then .fin neg 0 0
  else .fin neg (m + 0x800000) (Int.ofNat e - 150)

/-- Sign bit. -/
def signBit (neg : Bool) : Nat := if neg then 0x80000000 else 0

/-- The quiet NaN that stands for every NaN result. -/
def nan : F32 := 0x7FC00000

def infinity (neg : Bool) : F32 := BitVec.ofNat 32 (signBit neg + 0x7F800000)

/-- Round to nearest even the value num 2^exp, plus an amount below num's last bit when `sticky`. A result below the normal
range is a zero of the same sign (R82). -/
def roundPack (neg : Bool) (num : Nat) (exp : Int) (sticky : Bool) : F32 :=
  if num = 0 then BitVec.ofNat 32 (signBit neg)
  else
    let len := Nat.log2 num
    let q :=
      if len ≤ 23 then num * 2 ^ (23 - len)
      else
        let sh := len - 23
        let q := num / 2 ^ sh
        let r := num % 2 ^ sh
        let half := 2 ^ (sh - 1)
        if half < r then q + 1
        else if r = half then (if sticky || q % 2 = 1 then q + 1 else q)
        else q
    let top := if q = 0x1000000 then 1 else 0
    let man := if q = 0x1000000 then 0x800000 else q
    let be : Int := exp + Int.ofNat len + top + 127
    if 255 ≤ be then infinity neg
    else if be ≤ 0 then BitVec.ofNat 32 (signBit neg)
    else BitVec.ofNat 32 (signBit neg + be.toNat * 0x800000 + (man - 0x800000))

/-- Magnitude with its sign. -/
def signed (neg : Bool) (m : Nat) : Int := if neg then - Int.ofNat m else Int.ofNat m

/-- Exact sum of two finite values, rounded once. An exact zero is +0 unless both are negative. -/
def addFin (n1 : Bool) (m1 : Nat) (e1 : Int) (n2 : Bool) (m2 : Nat) (e2 : Int) : F32 :=
  let e := min e1 e2
  let a := signed n1 (m1 * 2 ^ (e1 - e).toNat)
  let b := signed n2 (m2 * 2 ^ (e2 - e).toNat)
  let s := a + b
  if s = 0 then BitVec.ofNat 32 (signBit (n1 && n2))
  else roundPack (decide (s < 0)) s.natAbs e false

/-- The fused multiply-add a b + c (R82). -/
def fma (a b c : F32) : F32 :=
  match decode a, decode b, decode c with
  | .nan, _, _ => nan
  | _, .nan, _ => nan
  | _, _, .nan => nan
  | .fin na ma ea, .fin nb mb eb, .fin nc mc ec => addFin (na != nb) (ma * mb) (ea + eb) nc mc ec
  | .fin _ _ _, .fin _ _ _, .inf n => infinity n
  | .inf na, .fin nb mb _, .inf nc => if mb = 0 || (na != nb) != nc then nan else infinity nc
  | .fin na ma _, .inf nb, .inf nc => if ma = 0 || (na != nb) != nc then nan else infinity nc
  | .inf na, .inf nb, .inf nc => if (na != nb) != nc then nan else infinity nc
  | .inf na, .fin nb mb _, .fin _ _ _ => if mb = 0 then nan else infinity (na != nb)
  | .fin na ma _, .inf nb, .fin _ _ _ => if ma = 0 then nan else infinity (na != nb)
  | .inf na, .inf nb, .fin _ _ _ => infinity (na != nb)

def one : F32 := 0x3F800000
def zero : F32 := 0x00000000

def neg (a : F32) : F32 := a ^^^ 0x80000000
def abs (a : F32) : F32 := a &&& 0x7FFFFFFF
def add (a b : F32) : F32 := fma a one b
def sub (a b : F32) : F32 := fma a one (neg b)
def mul (a b : F32) : F32 := fma a b 0x80000000

/-- Neither NaN nor infinity (R85, R371). -/
def isFinite (a : F32) : Bool := decide ((a.toNat / 0x800000) % 256 ≠ 255)

/-- Comparison of finite values on a common exponent. -/
def cmpFin (n1 : Bool) (m1 : Nat) (e1 : Int) (n2 : Bool) (m2 : Nat) (e2 : Int) : Int :=
  let e := min e1 e2
  signed n1 (m1 * 2 ^ (e1 - e).toNat) - signed n2 (m2 * 2 ^ (e2 - e).toNat)

/-- a < b as binary32 numbers; false where either is a NaN. -/
def lt (a b : F32) : Bool :=
  match decode a, decode b with
  | .nan, _ => false
  | _, .nan => false
  | .fin n1 m1 e1, .fin n2 m2 e2 => decide (cmpFin n1 m1 e1 n2 m2 e2 < 0)
  | .inf n1, .inf n2 => n1 && !n2
  | .inf n1, .fin _ _ _ => n1
  | .fin _ _ _, .inf n2 => !n2

/-- a = b as binary32 numbers, so that +0 and -0 are equal (R502); false where either is a NaN. -/
def eq (a b : F32) : Bool :=
  match decode a, decode b with
  | .nan, _ => false
  | _, .nan => false
  | .fin n1 m1 e1, .fin n2 m2 e2 => decide (cmpFin n1 m1 e1 n2 m2 e2 = 0)
  | .inf n1, .inf n2 => n1 == n2
  | .inf _, .fin _ _ _ => false
  | .fin _ _ _, .inf _ => false

def le (a b : F32) : Bool := lt a b || eq a b

def max (a b : F32) : F32 := if lt a b then b else a
def min (a b : F32) : F32 := if lt b a then b else a

/-- R499: the lower bound governs where the bounds cross. -/
def clamp (x lo hi : F32) : F32 :=
  if lt hi lo then lo else if lt x lo then lo else if lt hi x then hi else x

/-- Sign as -1, 0 or 1. -/
def sign (a : F32) : F32 := if lt a zero then neg one else if lt zero a then one else zero

/-- The binary32 nearest to a rational num/den. -/
def ofRat (num : Int) (den : Nat) : F32 :=
  let m := num.natAbs
  let sh := 64 + Nat.log2 den + 1 - Nat.log2 (m + 1)
  let q := m * 2 ^ sh / den
  let r := m * 2 ^ sh % den
  roundPack (decide (num < 0)) (2 * q + (if r = 0 then 0 else 1)) (-(Int.ofNat sh) - 1) false

def ofInt (n : Int) : F32 := roundPack (decide (n < 0)) n.natAbs 0 false
def ofNat (n : Nat) : F32 := roundPack false n 0 false

/-- The decimal m 10^e. -/
def dec (m : Int) (e : Int) : F32 :=
  if 0 ≤ e then ofInt (m * 10 ^ e.toNat) else ofRat m (10 ^ (-e).toNat)

/-- The integer nearest to num/den, ties to even. -/
def nearest (num : Int) (den : Nat) : Int :=
  let q := num / Int.ofNat den
  let r := 2 * (num % Int.ofNat den)
  if Int.ofNat den < r then q + 1 else if r = Int.ofNat den then (if q % 2 = 0 then q else q + 1) else q

/-- A finite value as a quotient of integers; a NaN or infinity counts as zero. -/
def toRat (a : F32) : Int × Nat :=
  match decode a with
  | .fin n m e => if 0 ≤ e then (signed n (m * 2 ^ e.toNat), 1) else (signed n m, 2 ^ (-e).toNat)
  | _ => (0, 1)

/-- The nearest integer of a finite value. -/
def toInt (a : F32) : Int := nearest (toRat a).1 (toRat a).2

/-- The integral part toward minus infinity. -/
def floor (a : F32) : Int := (toRat a).1 / Int.ofNat (toRat a).2

/-- The value as a natural number, nearest; negative counts as 0. -/
def toNat (a : F32) : Nat := (toInt a).toNat

/-- Integral, as an integer or enumeration word must be (R86). -/
def isIntegral (a : F32) : Bool := isFinite a && decide ((toRat a).1 % Int.ofNat (toRat a).2 = 0)

/-- A result within one unit in the last place of the exact one (R83), as the free choice says: the correctly rounded one, or its neighbour
on the side where the exact magnitude lies: `up` and `down` say that it does not lie below, or above, that of `r`. A result flushed to zero
or beyond the range stays. -/
def nudge (r : F32) (up down : Bool) (choice : Nat) : F32 :=
  if (abs r).toNat < 0x00800000 ∨ !isFinite r then r
  else if choice % 3 = 1 && up && isFinite (r + 1) then r + 1
  else if choice % 3 = 2 && down && decide (0x00800000 < (abs r).toNat) then r - 1
  else r

/-- 1/x within one unit in the last place (R83). The forms clamp x away from zero (R85); at zero the result is infinite. -/
def recip (x : F32) : F32 :=
  match decode x with
  | .nan => nan
  | .inf n => BitVec.ofNat 32 (signBit n)
  | .fin n m e =>
    if m = 0 then infinity n
    else
      let q := if 0 ≤ e then (1, m * 2 ^ e.toNat) else (2 ^ (-e).toNat, m)
      let p := ofRat (Int.ofNat q.1) q.2
      let v := toRat p
      -- the exact magnitude q.1 / q.2 against the rounded one
      nudge (p ||| BitVec.ofNat 32 (signBit n)) (decide (v.1 * Int.ofNat q.2 ≤ Int.ofNat (q.1 * v.2)))
        (decide (Int.ofNat (q.1 * v.2) ≤ v.1 * Int.ofNat q.2)) (Config.recipUlp x)

def div (a b : F32) : F32 := mul a (recip b)

/-- Integer square root, bit by bit from bit `k` down. -/
def isqrt (n : Nat) : Nat → Nat → Nat
  | 0, acc => acc
  | k + 1, acc =>
    let t := acc + 2 ^ k
    if t * t ≤ n then isqrt n k t else isqrt n k acc

/-- Square root within one unit in the last place (R83). -/
def sqrt (x : F32) : F32 :=
  match decode x with
  | .nan => nan
  | .inf n => if n then nan else infinity false
  | .fin n m e =>
    if m = 0 then BitVec.ofNat 32 (signBit n)
    else if n then nan
    else
      let odd := e % 2
      let big := m * 2 ^ (if odd = 0 then 40 else 41)
      let r := isqrt big 36 0
      let p := roundPack false (2 * r + (if r * r = big then 0 else 1)) ((e - odd - 40) / 2 - 1) false
      let v := toRat p
      let w := toRat x
      -- the exact square against that of the rounded root
      nudge p (decide (v.1 * v.1 * Int.ofNat w.2 ≤ w.1 * Int.ofNat (v.2 * v.2)))
        (decide (w.1 * Int.ofNat (v.2 * v.2) ≤ v.1 * v.1 * Int.ofNat w.2)) (Config.sqrtUlp x)

/-- Pi times 2^64, rounded down. -/
def pi64 : Nat := 57952155664616982739

/-- Terms of the sine and cosine series at x 2^-64, from the term `t` whose order is n. -/
def series (x2 : Int) : Nat → Int → Int → Int
  | 0, _, _ => 0
  | k + 1, t, n => t + series x2 k (-(t * x2 / 2 ^ 64) / ((n + 1) * (n + 2))) (n + 2)

/-- Sine of a 16-bit angle times 2^64, to far more places than R83 asks. -/
def sinRef (a : Angle) : Int :=
  let q := a.toNat / 16384
  let x : Int := Int.ofNat (a.toNat % 16384 * pi64 / 32768)
  let x2 := x * x / 2 ^ 64
  let s := series x2 12 x 1
  let c := series x2 12 (2 ^ 64) 0
  if q = 0 then s else if q = 1 then c else if q = 2 then -s else -c

/-- Within 5e-6 of a reference given times 2^64. -/
def within5u (v : F32) (ref : Int) : Bool :=
  let (n, d) := toRat v
  isFinite v && decide (((n * 2 ^ 64 - ref * Int.ofNat d).natAbs) * 200000 ≤ 2 ^ 64 * d)

/-- Sine of an angle: the device's table value where it meets the bound of R83, which it always does. -/
def sinA (a : Angle) : F32 :=
  if within5u (Config.sinCode a) (sinRef a) then Config.sinCode a else ofRat (sinRef a) (2 ^ 64)

def cosA (a : Angle) : F32 := sinA (a + 0x4000)

/-- Radians to the nearest 16-bit turn fraction, wrapping (R83). -/
def toAngle (rad : F32) : Angle :=
  let (n, d) := toRat rad
  BitVec.ofInt 16 (nearest (n * 2 ^ 79) (d * pi64))

/-- A 16-bit turn fraction as radians from 0 to 2 pi (R83). -/
def ofAngle (a : Angle) : F32 := ofRat (Int.ofNat (a.toNat * pi64)) (2 ^ 79)

/-- The signed difference of two angles in radians, from -pi to pi. -/
def angleDiff (a b : Angle) : F32 := ofRat ((a - b).toInt * Int.ofNat pi64) (2 ^ 79)

def pi : F32 := 0x40490FDB
def sqrt2 : F32 := 0x3FB504F3
def sqrt3 : F32 := 0x3FDDB3D7
def two : F32 := 0x40000000
def half : F32 := 0x3F000000

/-- Is a above zero? -/
def pos (a : F32) : Bool := lt zero a
def isZero (a : F32) : Bool := eq a zero

/-- A first-order step: y + (x - y) t / max(tau, t), the whole step where tau is at most t (R95). -/
def filter (y x t tau : F32) : F32 := if le tau t then x else fma (sub x y) (div t (max tau t)) y

/-- Move y toward x by at most `step` (R242). -/
def slew (y x step : F32) : F32 := add y (clamp (sub x y) (neg step) step)

/-- Linear interpolation between a and b. -/
def lerp (a b u : F32) : F32 := fma (sub b a) u a

end Sys2Proof.F
end

