-- ==== Sys2Proof/Machine/State.lean ====
section
/-! DEFINITION. The state of the SW8 as plain data, the reasons a step can stop, and the state right after reset. The rule
that names each piece of state stands beside it; the reset values are those of the Reset columns, and where the manual gives
none the assumption log names the value (log 1). -/

namespace Sys2Proof.Machine

/-- Why a command can fault. -/
inductive Fault
  /-- Raised by the entry point of a command whose operands name something the device does not have (WellFormed.lean).
  Safe: no rule says anything of such a command. -/
  | noSuchUnit
deriving DecidableEq, Repr

/-- Why a command can be refused. -/
inductive Refusal
  /-- Raised by the arm of a command that has no meaning yet. Safe: nothing is claimed of it. -/
  | notModelled (mnemonic : String)
deriving DecidableEq, Repr

/-- A sparse map from keys to words: strictly rising keys, no entry equal to the key's reset value (`RegMap.wf`). -/
abbrev RegMap := List (Nat × Word)

/-! ### Events (ch. 16) -/

/-- Reaction classes in the order of R443, weakest first. -/
inductive RClass
  | note | limit | isolate | regionSafe | handover | deviceSafe
deriving DecidableEq, Repr

/-- An event record of ring 3 (R357), with the reaction class it took. -/
structure Event where
  code    : Half
  cls     : RClass
  time    : Time
  tide    : Word
  cluster : Byte
  unit    : Byte
  refTag  : Half
  epoch   : Word
  d0      : Word
  d1      : Word
  dropped : Bool
deriving DecidableEq, Repr

/-! ### Supply and start (ch. 17) -/

/-- Where the device stands between supply and service (R457, R464, R465). -/
inductive Phase
  | inReset | starting | ready
deriving DecidableEq, Repr

/-- Which push-pull output of the gate-power stage is high (R461). -/
inductive Gpr
  | none | ga | gb
deriving DecidableEq, Repr

structure Power where
  phase     : Phase := .inReset
  /-- the straps sampled at T0 (R340) -/
  straps    : Straps := ⟨false, false, false⟩
  /-- `PWR.STATUS.START_STEP`, `PWR.RESET_CAUSE`, `PWR.START_TIME` (R479) -/
  startStep : BitVec 4 := 0
  cause     : BitVec 2 := 0
  startTime : Word := 0
  /-- supply status bits and brownout hold (R459, R460, R479) -/
  vsupOk    : Bool := false
  brownout  : Bool := false
  vioOk     : Bool := false
  vrefOk    : Bool := false
  vmOk      : Bool := false
  gpReady   : Bool := false
  gpStopped : Bool := true
  gpLocked  : Bool := false
  /-- readings (R479, R496), binary32 -/
  vsupNow   : F32 := 0
  vmNow     : F32 := 0
  gpNow     : F32 := 0
  tjC       : F32 := 0
  tjA       : F32 := 0
  /-- the push-pull stage: which phase is on, which comes next, cycles without an `EXTCLK_IN` edge (R461) -/
  gpr       : Gpr := .none
  gprNext   : Gpr := .ga
  gpMissed  : Nat := 0
  /-- device time at which the rail became ready (R465) -/
  railAt    : Time := 0
  /-- an `EXTCLK_IN` edge has come since the last half-cycle (R461) -/
  gpEdge    : Bool := false
  /-- test state (R477), DEVICE-SAFE and the code that caused it (R39, R442), `OK_OUT` (R465) -/
  test      : Bool := false
  devSafe   : Bool := false
  devCause  : Half := 0
  okOut     : Bool := false
  /-- die A lost or overheated (R38, R496) -/
  dieALost  : Bool := false
  /-- the clusters of each region whose start check is complete, bit per cluster number (R466) -/
  checked   : Vector (BitVec 16) 7 := Vector.replicate 7 0
  /-- the gate sides whose readiness check failed at the start (R466) -/
  gsFailed  : BitVec 35 := 0
  /-- the last accepted JTAG instruction, and the outputs driven by boundary scan in the test state (R44) -/
  jtag      : JtagOp := .idcode
  scan      : List Bool := []
deriving DecidableEq, Repr

/-! ### Timing (ch. 02) -/

structure Timing where
  /-- device time (R61, R63) -/
  devTime   : Time := 0
  /-- device time of the last timing mark and of the last tide boundary -/
  lastMark  : Time := 0
  tideStart : Time := 0
  tideIndex : Word := 0
  /-- `TIM.STATUS` and `TIM.REFUSED_OFFSET` (R80) -/
  refOk     : Bool := false
  syncLocked : Bool := false
  steering  : Bool := false
  refused   : Bool := false
  refusedOfs : Half := 0
  /-- the clusters out of lock, bit per cluster number, region by region: `ALL_LOCKED` and `UNLOCK_MAP` show them (R54, R80) -/
  unlocked  : Vector (BitVec 16) 7 := Vector.replicate 7 0
  /-- captures of device time per port (R61) -/
  capPcie   : Time := 0
  capSpi    : Time := 0
  /-- outstanding steering in 312.5 ps units (R77, R253, R398), and the free-running states -/
  steer     : Int := 0
  syncLost  : Bool := false
  /-- the marked value to which the islands are aligned, and whether they hold it and run free (R55, R58, R60) -/
  aligned   : Time := 0
  freeRun   : Bool := false
  /-- a `SYNC_IN` edge within 1 us of its expected instant has come in this tide, and the tides in a row without one (R78) -/
  syncNear  : Bool := false
  syncMiss  : Nat := 0
  /-- pulses given on `SYNC_OUT`, whether this tide's has been given, and device time of the last one's start (R76) -/
  syncOut   : Nat := 0
  syncDone  : Bool := false
  syncAt    : Time := 0
deriving DecidableEq, Repr

/-- What every region has (R32, R45, R68). -/
structure Region where
  /-- REGION-SAFE and the code of its cause (R32) -/
  safe     : Bool := false
  cause    : Half := 0
  /-- the keeper of P: a cluster number, or 0xF for the tide master (R68); none before the first period start -/
  keeper   : Option (BitVec 4) := none
  /-- periods begun in this tide (R65) -/
  periods  : Word := 0
  /-- region halt: in force, requested, and its resume requested (R45) -/
  halted   : Bool := false
  haltReq  : Bool := false
  resumeReq : Bool := false
  /-- REGION-SAFE falls at the next period start, for the event with this code (R116) -/
  safeDue  : Option Half := none
  /-- device time at which its cluster 0 starts; cluster n follows n x 10 us later (R33) -/
  startAt  : Time := 0
deriving DecidableEq, Repr

/-! ### Law clusters (ch. 03, 04) -/

/-- Run states of a law engine (R89). -/
inductive RunState
  | stopped | tracking | running
deriving DecidableEq, Repr

/-- Replica states (R112), in the order of `TRI.REP_STATE`. -/
inductive RepState
  | active | darning | washed | retired
deriving DecidableEq, Repr

structure Replica where
  st     : RepState := .active
  /-- `TRI.ODD_COUNT` and `TRI.SIGn` (R133) -/
  odd    : Byte := 0
  sig    : Word := 0
  /-- device times at which it was made odd, newest first, at most two (R125) -/
  oddAt  : List Time := []
  /-- consecutive runs with a spread per input: encoder, `SETP0`, `SETP1`, hall (R121) -/
  sprEnc : Nat := 0
  sprSp0 : Nat := 0
  sprSp1 : Nat := 0
  sprHall : Nat := 0
  /-- dropped from the crossing of the run in flight (R113); its pin samples were missing at cycle 31 of it (R120) -/
  late   : Bool := false
  mute   : Bool := false
  /-- darned and ACTIVE from the next S (R124) -/
  joins  : Bool := false
  /-- its own run-state words by word number, in the layout of Machine/RunWords.lean; an unlisted word has its start value (R110, R131) -/
  run    : RegMap := []
  /-- its own copies of the cluster's active and shadow parameter banks by ID; an unlisted word has its Reset value (R110, R366) -/
  bank   : RegMap := []
  shadow : RegMap := []
deriving DecidableEq, Repr

/-- A darning in progress (R122 to R124). -/
structure Darn where
  target  : RepId
  source  : RepId
  /-- checks failed so far -/
  fails   : Nat := 0
  /-- a commit has applied to the cluster since the copy began: it starts again (R123) -/
  restart : Bool := false
deriving DecidableEq, Repr

/-- The pin inputs of a run after the agreement round (R120). -/
structure Agreed where
  encCount  : Half := 0
  encIndex  : Bool := false
  encFault  : Bool := false
  sp0Period : Word := 0
  sp0High   : Word := 0
  sp1Period : Word := 0
  sp1High   : Word := 0
  sp0Since  : Word := 0
  sp1Since  : Word := 0
  hall      : BitVec 3 := 0
  edgeTicks : Word := 0
  sinceEdge : Word := 0
deriving DecidableEq, Repr

/-- A value of a strobed sample set: channel, physical value, over-range flag, and the full-scale value on its side (R179, R183, R227). -/
structure SetVal where
  chan : ChanId
  val  : F32
  ovr  : Bool
  full : F32
deriving DecidableEq, Repr

/-- What a run in flight has taken: the values visible at S, the agreed pins, the sample set so far (R72, R74, R119). -/
structure RunIn where
  /-- latest values, full-scale values and over-range flags of the channels, the outputs of the 16 engines, the filtered `WIN12.HI` -/
  vals   : List F32 := []
  fulls  : List F32 := []
  ovrs   : BitVec 54 := 0
  outs   : List (List F32) := []
  winOv  : Bool := false
  /-- ring set-points visible at S (R96) -/
  sp     : F32 := 0
  mz     : F32 := 0
  agreed : Agreed := {}
  pins   : Tri PinSample
  set    : List SetVal := []
  /-- S in 312.5 ps units of device time (R70), and the shared sets of strobes at or before it that still convert (R183) -/
  units  : Time := 0
  waits  : List (SnsId × Nat) := []
  /-- a strobe collided: no set reaches this run (R201) -/
  noSet  : Bool := false
  /-- its output was not latched before A: it is not passed on (R75) -/
  dead   : Bool := false
  /-- device time of S, and A in 312.5 ps units of device time, under the timing in force at S (R70, R75) -/
  at_    : Time := 0
  applyAt : Time := 0
  /-- S lies in the first period of the region in its tide (R241, R246, R248) -/
  first  : Bool := false
  /-- k_gen and k_mot as they count at S (R245) -/
  kGen   : F32 := 0
  kMot   : F32 := 0
  /-- the chopper was commanded on throughout the sample time of `AIN19` in this run's set (R243) -/
  chop   : Bool := false
  /-- the parameters in force at S, once a commit has replaced them (R87) -/
  old    : Option RegMap := none
deriving DecidableEq, Repr

/-- A voted output that waits for its A, in 312.5 ps units of device time; `drives` says that its values reach bridges (R73, R75, R89). -/
structure Held where
  outs   : List F32
  at_    : Time
  drives : Bool
deriving DecidableEq, Repr

structure Law where
  /-- run state (R89), and the run state it takes at its region's next period start, where one waits (R89) -/
  state   : RunState := .stopped
  next    : Option RunState := none
  /-- the three replicas (R110), and a darning in progress (R122) -/
  reps    : Vector Replica 3 := Vector.replicate 3 {}
  darn    : Option Darn := none
  /-- darnings ordered by a vote and not begun (R122) -/
  darnDue : Option RepId := none
  /-- halt of the cluster in force, and requested (R129) -/
  halted  : Bool := false
  haltReq : Bool := false
  /-- cycle index of the halted run (R128) -/
  cycle   : Nat := 0
  /-- `TRI.DARN_COUNT`, `TRI.SPREAD_COUNT` and `TRI.LAST_ODD_TIDE` (R133) -/
  darnCount   : Half := 0
  spreadCount : Half := 0
  lastOddTide : Word := 0
  /-- the last run ended with three agreeing bundles; or its vote made a replica odd (R127) -/
  clean   : Bool := false
  madeOdd : Bool := false
  /-- the set values of the last strobe it owned, kept for an engine that shares them (R183) -/
  lastSet : List SetVal := []
  /-- the inputs of the run in flight (R72) -/
  flight  : Option RunIn := none
  /-- the voted outputs latched and waiting for A, oldest first (R73, R75) -/
  held    : List Held := []
  /-- the output visible to consumers, the one before it, and the A at which it became visible (R74) -/
  out     : List F32 := []
  prev    : List F32 := []
  shownAt : Option Time := none
  /-- a voted output exists since the engine's cluster started (R245), and device time of the sample instant of the last voted run (R401) -/
  voted   : Bool := false
  sampled : Time := 0
  /-- ring set-points: primary and m_z (R96, R355) -/
  ringSp  : F32 := 0
  ringMz  : F32 := 0
  /-- external set-point input lost (R95); invalid time and time-out of a source that a commit replaced in the run in which it was lost (R96) -/
  spLost  : Bool := false
  spOld   : Option (F32 × F32) := none
  /-- no run begins before this device time, after a RESUME (R132) -/
  resumeAt : Time := 0
deriving DecidableEq, Repr

/-! ### Bridges and gate sides (ch. 05) -/

/-- Arm states in the order of `BRG.ARM_STATE` (R135, R173). -/
inductive ArmState
  | disarmed | armed | isolated | halted
deriving DecidableEq, Repr

/-- Region output states of a bridge (R144). -/
inductive OutSel
  | pwm | off | lowOn | highOn
deriving DecidableEq, Repr

/-- A pending, holding or compare value: high-side duty d, shift delta as a fraction of Tc, and the phase shift of the DAB
secondaries (R140), binary32. -/
structure Duty where
  d     : F32 := 0
  delta : F32 := 0
  phi   : F32 := 0
deriving DecidableEq, Repr

/-- The dead time of one direction and its adaptation, in 312.5 ps units (R146, R147). -/
structure DeadTime where
  now    : Nat := 0
  target : Nat := 0
  atMax  : Nat := 0
  told   : Bool := false
deriving DecidableEq, Repr

/-- The slew loop of one transition type (R152). -/
structure Slew where
  str    : Nat := 0
  /-- the last measured dv/dt in V/s (R151) -/
  dvdt   : F32 := 0
  /-- measured since the last arming -/
  fresh  : Bool := false
  above  : Nat := 0
  told   : Bool := false
deriving DecidableEq, Repr

structure Bridge where
  /-- arm state (R135) -/
  arm      : ArmState := .disarmed
  /-- the arm state to return to after a halt (R171), and whether the halt came from a region halt (R45) -/
  before   : ArmState := .disarmed
  resume   : Bool := false
  /-- `BRG.ISO_CAUSE` (R169, R173) -/
  isoCause : BitVec 10 := 0
  /-- the isolating cause recovers by region reset only (R450) -/
  isoHard  : Bool := false
  /-- output selected by the region, the value held for it, and the pending and compare values (R140, R144) -/
  sel      : OutSel := .off
  hold     : Option Duty := none
  pend     : Duty := {}
  cmp      : Duty := {}
  /-- a value of a RUNNING engine has entered the compare registers since the last selection (R206) -/
  loaded   : Bool := false
  /-- a value of a RUNNING engine has become pending since the last selection (R206) -/
  fresh    : Bool := false
  /-- the levels that the two timer copies command together (R140, R142) -/
  cmdHi    : Bool := false
  cmdLo    : Bool := false
  /-- the switches as commanded at the gates -/
  hiOn     : Bool := false
  loOn     : Bool := false
  /-- the carrier phase in use (R138, R250), and while a carrier moves the end of its running period and its new origin (R250) -/
  phase    : F32 := 0
  gap      : Option (Time × Time) := none
  /-- a value limited under CP_FAULT has entered the compare registers (R145, R168) -/
  cpPwm    : Bool := false
  /-- the instant of the last arming and the tag of its record (R174) -/
  armedAt  : Option (Time × Half) := none
  /-- the instant of ISOLATE, and the switches that were on then (R155) -/
  isoAt    : Option Time := none
  wasHi    : Bool := false
  wasLo    : Bool := false
  /-- soft turn-off in progress per switch (R157) -/
  softHi   : Bool := false
  softLo   : Bool := false
  /-- `BRG.DESAT_COUNT` (R173) -/
  desats   : Half := 0
  /-- `DT_INIT` in force since the last arming (R17, R137) and the two dead times -/
  dtInit   : F32 := 0
  dtHl     : DeadTime := {}
  dtLh     : DeadTime := {}
  /-- slew loops: high on, high off, low on, low off (R150, R173) -/
  slew     : Vector Slew 4 := Vector.replicate 4 {}
  /-- trips (R159, R160): an action 1 trip holds the switches off; an action 3 trip is latched; slot inputs as last seen -/
  cbc      : Bool := false
  asc      : Bool := false
  slots    : BitVec 4 := 0
  trips    : Nat := 0
  winLeft  : Nat := 0
  counted  : Bool := false
  /-- bootstrap at least 8.0 V (R136, R167) -/
  bst      : Bool := false
deriving DecidableEq, Repr

structure Gate where
  /-- a gate side: VP and VN in range, ready, pair link up, die lost (R37, R162, R173) -/
  powered : Bool := false
  ready   : Bool := false
  link    : Bool := false
  lost    : Bool := false
deriving DecidableEq, Repr

/-! ### Sensing (ch. 06) -/

/-- Accumulators of a channel (R184). -/
structure Acc where
  sum   : BitVec 48 := 0
  count : BitVec 24 := 0
  lo    : Half := 0
  hi    : Half := 0
  ovr   : Bool := false
deriving DecidableEq, Repr

structure Chan where
  /-- corrected code, physical value, over-range flag, and the full-scale value on its side, of the last conversion (R178, R179, R227) -/
  code   : Half := 0
  val    : F32 := 0
  ovr    : Bool := false
  full   : F32 := 0
  /-- accumulators, their snapshot at the window end, and the captures of it per port (R184, R185) -/
  acc    : Acc := {}
  snap   : Acc := {}
  capPcie : Acc := {}
  capSpi  : Acc := {}
  /-- SNS_OVERRANGE raised in the window (R179); the band check armed and its run inside (R186) -/
  told   : Bool := false
  band   : Bool := true
  inside : Nat := 0
deriving DecidableEq, Repr

structure Sns where
  /-- the strobed set that converts, 0 for none (R180, `SNS.SET_BUSY`) -/
  busy    : Nat := 0
  /-- the entry of the running set, and of the scan round, that ends next: positions in table order, the scan's automatic entries last (R180,
  R181, R501) -/
  setPos  : Nat := 0
  scanPos : Nat := 0
  /-- the next converter check converts 3 VREF/4 (R196) -/
  high    : Bool := false
  /-- the legacy queue, its overflow bit and whether the overflow was raised in the window (R188) -/
  lqOvf   : Bool := false
  lqTold  : Bool := false
  lq      : List Word := []
  /-- scan rounds since the last push, length of the running round in ns, `SNS.ROUND_MAX` (R188, R199) -/
  rounds  : Nat := 0
  roundNs : Nat := 0
  roundMax : Half := 0
  /-- converter check: deviation, failures in a row, next DAC to read back, tide of the last window end (R196, R197, R199) -/
  checkDev : Half := 0
  fails   : Nat := 0
  dacPos  : Nat := 0
  snapTide : Word := 0
  /-- sequence and accumulators stopped by a region halt (R45) -/
  stopped : Bool := false
  /-- after a region resume the accumulators of the tide window (bit 0) and of the region window (bit 1) wait for their next start (R45) -/
  accWait : BitVec 2 := 0
  /-- a fault of this cluster has put its region into REGION-SAFE (R30, R228) -/
  fault   : Bool := false
deriving DecidableEq, Repr

/-- One comparator of a window monitor (R189, R191). -/
structure CompSt where
  /-- unfiltered output, filter history, filtered output, latch, threshold code of the DAC, failed readbacks (R189, R191, R197) -/
  out    : Bool := false
  hist   : BitVec 15 := 0
  filt   : Bool := false
  latch  : Bool := false
  code   : BitVec 10 := 0
  dacBad : Nat := 0
deriving DecidableEq, Repr

structure Win where
  hi     : CompSt := {}
  lo     : CompSt := {}
  /-- outputs held after a commit (R193) -/
  hold   : Bool := false
  /-- `WIN.CHECK_FAIL`, `WIN.DAC_FAIL`, `WIN.CHECK_DONE` (R200) -/
  failed : Bool := false
  dacFail : Bool := false
  done   : Bool := false
deriving DecidableEq, Repr

/-- A stand-in pair of bank T (R194, R195): 0 idle, 1 checking, 2 standing in, 3 failed or stopped. -/
structure Wst where
  /-- state, monitor stood in for, and step (R194, R200) -/
  state : BitVec 2 := 0
  mon   : BitVec 6 := 0
  step  : Nat := 0
  /-- a step 2 failure that still needs steps 3 to 5, and the memory of a first one, whose check is repeated (R195) -/
  bad2  : Bool := false
  again : Bool := false
  /-- the check was abandoned and begins again, not at the boundary at which it was (R195) -/
  redo  : Bool := false
  wait  : Bool := false
deriving DecidableEq, Repr

/-! ### Traction (ch. 07) -/

inductive TrMode
  | off | free | hold | torque | speed | asc | catch
deriving DecidableEq, Repr

inductive Choice
  | none | asc | free | ascPartial
deriving DecidableEq, Repr

/-- Angle sources in the order of `TR.ANGLE_SRC` (R233). -/
inductive AngleSrc
  | observer | encoder | mate | lowSpeed
deriving DecidableEq, Repr

structure Traction where
  /-- `TR.MODE` (R203, R233) -/
  mode     : TrMode := .off
  /-- CATCH: its target and the mode it was entered from (R205, R224) -/
  target   : TrMode := .free
  catchAsc : Bool := false
  /-- a decision of R222 falls at the next period start; CATCH follows after `toCatch` period starts, 0 for none -/
  decide   : Bool := false
  toCatch  : Nat := 0
  /-- lock or standstill ends CATCH at the next period start (R224) -/
  locked   : Bool := false
  still    : Bool := false
  /-- tag of the record whose mode CATCH pursues, for MODE_REFUSED after a standstill -/
  tag      : Half := 0
  /-- the decision in force in the safe state (R222) -/
  choice   : Choice := .none
  /-- angle source, confidence, and the EMF and link voltage of the last confident run (R222, R233) -/
  src      : AngleSrc := .observer
  conf     : F32 := 0
  eLast    : F32 := 0
  vLast    : F32 := 0
  /-- a confident observer run has occurred since arming (R222) -/
  good     : Bool := false
  /-- psi_filt, and whether it has taken `PSI_PM` (R226) -/
  psi      : F32 := 0
  psiSet   : Bool := false
  /-- speed and torque reference (R233) -/
  speed    : F32 := 0
  tRef     : F32 := 0
  /-- measured torque-producing current of the last run, and the agreed encoder count -/
  iq       : F32 := 0
  enc      : Half := 0
  /-- `TR.ANGLE`, `TR.QUIET_MISS` and whether the miss was told (R211, R233) -/
  angle    : Angle := 0
  quiet    : Half := 0
  quietTold : Bool := false
  /-- consecutive-run counts (R219, R221, R224, R227, R228) -/
  nLost    : Nat := 0
  nLock    : Nat := 0
  nStill   : Nat := 0
  nEnc     : Nat := 0
  nOvr     : Nat := 0
  nLink    : Nat := 0
  /-- link voltage out of range for the decision (R228), and the encoder out of use (R219) -/
  linkBad  : Bool := false
  encOut   : Bool := false
  /-- runs left in which the own observer must confirm the mate's angle (R225) -/
  mateRuns : Nat := 0
  /-- CATCH time in ticks (R224) -/
  catchT   : Nat := 0
  /-- low-speed start in progress, and the blend runs left (R220) -/
  start    : Bool := false
  blend    : Nat := 0
  /-- flux timers (R226) -/
  fluxLoT  : Nat := 0
  fluxHiT  : Nat := 0
  fluxInT  : Nat := 0
  loTold   : Bool := false
  hiTold   : Bool := false
  /-- episodes reported once (R214, R217, R455) -/
  revHeld  : Bool := false
  vecLost  : Bool := false
  /-- device time at which this side's limits were refreshed last (R217) -/
  limAt    : Time := 0
  clampTold : Bool := false
  /-- isolated bridges already answered (R229) -/
  isoSeen  : BitVec 3 := 0
  /-- LOW_ON or HIGH_ON kept until the first loads (R206) -/
  keep     : Bool := false
deriving DecidableEq, Repr

/-! ### Span (ch. 08) -/

inductive SpMode
  | off | standby | regulate | bypass | discharge
deriving DecidableEq, Repr

/-- The start test of R239: the commanded mode, its record's tag, whether it probes, and the phase under test. -/
structure StartTest where
  goal  : SpMode
  tag   : Half
  probe : Bool
  phase : Nat
  begun : Bool
  fails : BitVec 4
deriving DecidableEq, Repr

structure Span where
  /-- mode, and the start test that runs (R236, R239) -/
  mode     : SpMode := .off
  test     : Option StartTest := none
  /-- active phases (R264) -/
  active   : BitVec 4 := 0
  /-- a shed ramp runs: the outgoing phase, its share, and its abort (R248, R249) -/
  shedding : Bool := false
  out      : Nat := 0
  sOut     : F32 := 0
  abort    : Bool := false
  /-- tides below `SHED_I`, and every run of this tide was below (R248) -/
  shedTides : Nat := 0
  shedOk   : Bool := true
  /-- every run of this tide asked for STANDBY; a burst runs, upward; requested or ended for the next period start; its
  ticks (R238) -/
  burstOk  : Bool := true
  burst    : Bool := false
  burstUp  : Bool := false
  burstReq : Bool := false
  burstEnd : Bool := false
  burstTicks : Nat := 0
  /-- BYPASS: commanded, its exit due, its entry due at the next period start (R246) -/
  bypReq   : Bool := false
  bypExit  : Bool := false
  bypDue  : Bool := false
  /-- v_target, v_ref, k_gen, k_mot, chopper duty (R242 to R245, R255, R264) -/
  vTarget  : F32 := 0
  vRef     : F32 := 0
  kGen     : F32 := 0
  kMot     : F32 := 0
  duty     : F32 := 0
  /-- values of the last `LAW07` and `LAW06` runs: link and battery voltage, battery current, its reference, load power
  (R242, R243) -/
  vLink    : F32 := 0
  vBat     : F32 := 0
  iBat     : F32 := 0
  iRef     : F32 := 0
  pLoad    : F32 := 0
  /-- `SPN.OV_LEVEL` (R258, R264) -/
  level    : BitVec 2 := 0
  /-- `SPN.HS_SHORT_MAP` and the count of aborted sheds (R240, R249, R264) -/
  hsShort  : BitVec 4 := 0
  aborts   : Half := 0
  /-- overvoltage excursion (R258): running, OV_1 told, ticks below `OV_W`, OV_TRIP told -/
  excursion : Bool := false
  ov1Told  : Bool := false
  below    : Nat := 0
  ovTrip   : Bool := false
  /-- LINK_SAG told in this excursion (R244) -/
  sagTold  : Bool := false
  /-- chopper checks failed in a row, open and conducting; the chopper stopped (R256, R257) -/
  chOpen   : Nat := 0
  chCond   : Nat := 0
  chStop   : Bool := false
  /-- DISCHARGE time in ticks, and its end reached (R254) -/
  disT     : Nat := 0
  disEnd   : Bool := false
  /-- no `LAW07` run has ended since its cluster started (R241) -/
  first    : Bool := true
  /-- the instant of the last accepted mode command, which governs over an automatic trigger of the same period start (R238), and begins no
  start test in it (R239) -/
  cmdAt    : Option Time := none
  /-- `SPN.SYNC` status (R253, R263) -/
  extLocked : Bool := false
  extSusp  : Bool := false
  extLost  : Bool := false
  /-- an `EXTCLK_IN` edge within 1 us of its expected instant has come in this SPN period, and the periods in a row without one (R253) -/
  extNear  : Bool := false
  extMiss  : Nat := 0
  /-- `WIN12.HI` has gone active since the last CHG period start, and the PFC legs are held OFF (R258) -/
  pfcDue   : Bool := false
  pfcHold  : Bool := false
deriving DecidableEq, Repr

/-! ### Charger (ch. 09) -/

inductive ChMode
  | off | acIn | peerIn | peerOut | pass
deriving DecidableEq, Repr

inductive Session
  | none | cc | cv | done | ended
deriving DecidableEq, Repr

inductive EndCause
  | host | timer | battery | fault
deriving DecidableEq, Repr

/-- States of pilot, cable and phase count (R273 to R275). -/
inductive Valid3
  | invalid | valid | noCable
deriving DecidableEq, Repr

structure Charger where
  /-- mode, session and its end cause (R269, R281, R289) -/
  mode     : ChMode := .off
  session  : Session := .none
  endCause : EndCause := .host
  /-- battery absent, and OFF entered since (R283, R284) -/
  batAbsent : Bool := false
  wasOff   : Bool := false
  /-- source valid (R276, R277) -/
  srcOk    : Bool := false
  /-- the source has been valid without pause since an instant and waits for `SRC_SETTLE` (R276) -/
  settling : Bool := false
  settleAt : Time := 0
  /-- SOURCE_LOST told (R276) -/
  srcLost  : Bool := false
  /-- phase count and peer connection (R268, R275) -/
  phases   : BitVec 2 := 0
  peerConn : Bool := false
  /-- lamp code shown, device time since when, and the two lamp outputs (R286) -/
  lamp     : BitVec 4 := 0
  lampAt   : Time := 0
  lamp0    : Bool := false
  lamp1    : Bool := false
  /-- pilot periods taken (length and high time), pilot valid, current it allows, its duty (R273) -/
  pilot    : List (Word × Word) := []
  pilotOk  : Bool := false
  icp      : F32 := 0
  duty     : F32 := 0
  /-- proximity bands of the last runs, cable state, current it allows, R_pp (R274) -/
  ppBands  : List Nat := []
  cable    : Valid3 := .invalid
  ipp      : F32 := 0
  ppOhm    : F32 := 0
  /-- current the phase count allows, and the phases' RMS voltages (R275) -/
  iph      : F32 := 0
  vrms     : Vector F32 3 := Vector.replicate 3 0
  /-- I_src and p_src in use (R278, R289) -/
  iSrc     : F32 := 0
  pSrc     : F32 := 0
  /-- the safety timer: its length in ticks and the session's start (R282) -/
  timer    : Nat := 0
  timerAt  : Time := 0
  /-- `CHG.SESSION_TIDE` (R289) -/
  startTide : Word := 0
  /-- a session starts at the next CHG period start (R281) -/
  startDue : Bool := false
  /-- runs that ask for the move to CV, and back (R281) -/
  ccRuns   : Nat := 0
  cvRuns   : Nat := 0
  /-- ticks below `I_TERM` in CV -/
  termT    : Nat := 0
  /-- peer port: runs without connection where it is expected, runs over current, voltage raised in PEER_OUT, device time of
  its fault (R279) -/
  peerBad  : Nat := 0
  peerOver : Nat := 0
  raised   : Bool := false
  peerFaultAt : Option Time := none
  /-- the instant at which the present mode was entered (R279) -/
  enterAt  : Time := 0
  /-- battery absence: runs of the pattern, the voltage before it, the voltage of the last run (R283) -/
  absRuns  : Nat := 0
  absV     : F32 := 0
  vBatPrev : F32 := 0
  /-- the throttle limits the set-point (R286); the charger waits for the span (R456) -/
  limThrot : Bool := false
  spanWait : Bool := false
  /-- a peer fault since the last mode command (R279); the timer's and the battery's event since the last `LAW10` vote (R282, R284) -/
  peerFault : Bool := false
  timerRun : Bool := false
  absRun   : Bool := false
  /-- values of the last runs: bus voltage, peer voltage and current (R271, R279) -/
  vBus     : F32 := 0
  vPeer    : F32 := 0
  iPeer    : F32 := 0
deriving DecidableEq, Repr

/-! ### Actuators, brake, torque-off (ch. 10) -/

inductive ActMode
  | off | free | current | position | park
deriving DecidableEq, Repr

structure Actuator where
  /-- mode, parked, position valid (R294, R295, R300) -/
  mode    : ActMode := .off
  parked  : Bool := false
  posOk   : Bool := false
  /-- agreed hall state, its sector, the edge count and the direction (R291, R293) -/
  hall    : BitVec 3 := 0
  sector  : Option Nat := none
  edges   : Int := 0
  forward : Bool := true
  /-- hall fault: runs bad and good in a row, in force, and `ACT.HALL_FAULTS` (R292, R300) -/
  badRuns : Nat := 0
  okRuns  : Nat := 0
  fault   : Bool := false
  faults  : Half := 0
  /-- position and speed (R293, R294) -/
  pos     : F32 := 0
  speed   : F32 := 0
  /-- settle timer in ticks, and the edge count at parking (R297) -/
  settleT : Nat := 0
  parkAt  : Int := 0
  /-- moves due at the next period start (R297): to PARK moving, to PARK parked, to FREE -/
  slip    : Bool := false
  parkDue : Bool := false
  freeDue : Bool := false
deriving DecidableEq, Repr

inductive BrkMode
  | applied | released | test
deriving DecidableEq, Repr

/-- The running brake test: the region under test, its step, the torque reference and the encoder reference (R307). -/
structure BrakeTest where
  side   : Side
  step   : Nat
  torque : F32
  held   : F32
  enc    : Half
  encSet : Bool
  tag    : Half
deriving DecidableEq, Repr

structure Brake where
  /-- brake mode, and pull-in (R302) -/
  mode    : BrkMode := .applied
  pulling : Bool := false
  /-- pull-in time is over and the next conversion judges (R302); it has passed and RELEASED comes next -/
  judge   : Bool := false
  pulled  : Bool := false
  /-- `BRK` status (R307, R315), and the two switches (R302) -/
  testFailed : Bool := false
  fbHigh  : Bool := false
  lastRow : BitVec 3 := 0
  iCoil   : F32 := 0
  lastTp  : Word := 0
  hs      : Bool := false
  ls      : Bool := false
  /-- the running test pulse, as its row number in R304 (2, 4 or 5), and which comes next in RELEASED -/
  pulse   : BitVec 3 := 0
  nextLow : Bool := false
  /-- the conversions of the running pulse, the latest two, newest first: device time, and the measured value and limit where one missed its row
  (R304) -/
  bad     : List (Time × Option (F32 × F32)) := []
  /-- conversions that missed their row, one after another (R304) -/
  miss    : Nat := 0
  /-- conversions of the SUP period in RELEASED, and whether their mean is due (R304) -/
  meanDue : Bool := false
  sumI    : F32 := 0
  nI      : Nat := 0
  /-- the running brake test (R307) -/
  test    : Option BrakeTest := none
  /-- a test that a brake fault has ended while an observer run of its side was in flight, for the judgement of that run (R319) -/
  late    : Option BrakeTest := none
  /-- the tag of the accepted release, for its events -/
  tag     : Half := 0
deriving DecidableEq, Repr

structure Sto where
  /-- land levels, block, discrepancy latch, and both lands low since (R309 to R311) -/
  a      : Bool := false
  b      : Bool := false
  block  : Bool := true
  latch  : Bool := false
  bothLow : Bool := false
  /-- `BRK_STO_DELAY` runs since the block began (R313) -/
  delay  : Bool := false
deriving DecidableEq, Repr

/-! ### Thermal (ch. 11): node words stand in LAW14's run state -/

/-- The loss record of one switch over a SUP period (R322): sums of a, |i|, i^2 and v, samples, and commutations. -/
structure LossRec where
  /-- sums over the runs of the on-time fraction, |i| and i^2 over the on-time, and the runs; the sum of the link or bus voltage at the
  commutations, and the commutations -/
  a    : F32 := 0
  iAbs : F32 := 0
  iSq  : F32 := 0
  n    : Nat := 0
  v    : F32 := 0
  comm : Nat := 0
deriving DecidableEq, Repr

structure Thermal where
  /-- visible factors A, B, S, P, D, C, R (R327, R332); the judged ones and the step timers are run-state words of `LAW14` (R110) -/
  f       : Vector F32 7 := Vector.replicate 7 0x3F800000
  /-- hot at the last judgement, and cool enough to recover (R328) -/
  hot     : BitVec 7 := 0
  cool    : BitVec 7 := 0
  /-- sensors declared broken and disagreeing (R325, R332); their counts are run-state words of `LAW14` (R110) -/
  broken  : Byte := 0
  dis     : Byte := 0
  /-- drift told (R325) -/
  drift   : Bool := false
  /-- nodes in a hot episode by rise already reported (R326); the pass in flight -/
  rise    : List Nat := []
  passK   : Fin 4 := 0
  anchored : Bool := false
  /-- channels whose trip has been raised since their nodes were last below it (R329) -/
  trip    : BitVec 7 := 0
  /-- loss records of this SUP period and of the last one, per switch; resistor and the two windings -/
  cur     : Vector LossRec 38 := Vector.replicate 38 {}
  last    : Vector LossRec 38 := Vector.replicate 38 {}
deriving DecidableEq, Repr

/-! ### Host (ch. 12) -/

structure RingSt where
  /-- the two indices (R350, R363) -/
  hostIdx : Half := 0
  devIdx  : Half := 0
  /-- records were written or the index moved since the last slack point (R361) -/
  moved   : Bool := false
  dropped : Bool := false
  /-- entries the device has written and the host has not passed (device-to-host rings other than 3) -/
  recs    : List Entry := []
deriving DecidableEq, Repr

/-- A fetched ring 0 record, with the device time at which its read completed (R352). -/
structure DueRec where
  entry  : Entry
  readAt : Time
deriving DecidableEq, Repr

/-- The return manifest last written (R360), as its fields. -/
structure RetMan where
  flags   : Half := 0
  hbEcho  : Word := 0
  devTime : Time := 0
  tide    : Word := 0
  epoch   : Word := 0
  commit  : Word := 0
  devIdx  : Vector Half 16 := Vector.replicate 16 0
  regions : Vector Byte 7 := Vector.replicate 7 0
  brake   : Byte := 0
  pair    : Byte := 0
  events  : Half := 0
  worst   : Half := 0
  acts    : Half := 0
  hostTime : Time := 0
deriving DecidableEq, Repr

structure HostIf where
  /-- the link, the power state D3hot in place of D0, configuration space, `RUN` in force (R334 to R337, R363) -/
  linkUp   : Bool := false
  d3hot    : Bool := false
  cfg      : PcieConfig := ⟨false, false, false, false, 128, 512⟩
  running  : Bool := false
  /-- manifest reads outstanding, oldest first, as the tides of their fetches, and the tide of the last fetch (R345) -/
  manOut   : List Word := []
  manTide  : Option Word := none
  /-- descriptor reads outstanding, oldest first: the ring and the number of entries (R351, R352) -/
  reads    : List (RingId × Nat) := []
  /-- entries that the last accepted manifest released and no read has been issued for (R336, R352) -/
  toRead   : List (RingId × Nat) := []
  /-- a manifest has been accepted since `RUN` or the last link-down (R467) -/
  open3    : Bool := false
  /-- the last accepted manifest: `HEARTBEAT`, whether there is one, `COMMIT`, `HOST_TIME`, `QUIESCE` (R343, R346) -/
  hb       : Word := 0
  hbSeen   : Bool := false
  commit   : Word := 0
  hostTime : Time := 0
  quiesce  : Bool := false
  /-- a beat arrived in this tide; consecutive missed tides; host-loss reaction in force (R346, R347) -/
  beat     : Bool := false
  missed   : Byte := 0
  lost     : Bool := false
  rings    : Vector RingSt 16 := Vector.replicate 16 {}
  /-- ring 3: event records written and not passed by the host (R357), and the start log (R467) -/
  events   : List Event := []
  log      : List Event := []
  /-- `HST.EVENTS_LOST`, drops not yet marked in a record, event records and drops of this tide, the worst event (R357,
  R360, R363) -/
  evLost   : Half := 0
  evDrop   : Bool := false
  evTide   : Nat := 0
  dropTide : Bool := false
  worst    : Option Event := none
  /-- ring 0 records due, and those deferred (R352, R353) -/
  due      : List DueRec := []
  deferred : List Entry := []
  /-- the return manifest last written (R360) -/
  ret      : Option RetMan := none
  /-- bus mastering has stopped for good after DEVICE-SAFE (R447), or HST stands in its safe state -/
  stopped  : Bool := false
  /-- `HST.ALERT_CAUSE` (R362) -/
  alert    : BitVec 5 := 0
  /-- MSI-X table (R361): per vector address, data and mask; pending bits; vectors sent -/
  msixAddr : Vector Time 16 := Vector.replicate 16 0
  msixData : Vector Word 16 := Vector.replicate 16 0
  msixMask : BitVec 16 := 0xFFFF
  msixPend : BitVec 16 := 0
  msixSent : List (Fin 16) := []
  /-- AER: discarded TLPs reported (R336) -/
  aer      : Nat := 0
deriving DecidableEq, Repr

/-! ### Transactions (ch. 13) -/

inductive SlotState
  | closed | open | doomed | pending | prepared
deriving DecidableEq, Repr

structure Slot where
  /-- slot state and the items of its BEGIN and COMMIT (R369, R376, R386) -/
  state  : SlotState := .closed
  pair   : Bool := false
  txid   : Word := 0
  target : Word := 0
  /-- staged values, their count, and why it is doomed (R370, R371, R373) -/
  staged : List (Nat × Word) := []
  count  : Nat := 0
  reason : BitVec 4 := 0
  doomId : Half := 0
  /-- commit sequence, expected epoch, order of the COMMIT, its tag and the device time of its read (R376, R377) -/
  seq    : Word := 0
  expect : Word := 0
  order  : Nat := 0
  tag    : Half := 0
  readAt : Time := 0
  /-- a decision has been latched at V (R377) -/
  passed : Bool := false
  /-- its COMMIT has `NOTE_DONE` (R349); that record as read, for its trace (R359) -/
  note   : Bool := false
  record : Entry := 0
deriving DecidableEq, Repr

/-- A mark of a pair-wide commit (R380 to R383). -/
inductive MarkKind
  | none | prepared | refusal | applied
deriving DecidableEq, Repr

structure Mark where
  kind : MarkKind := .none
  id   : Word := 0
  tide : Word := 0
deriving DecidableEq, Repr

/-- How a pair transaction ended here: its identifier, the tide concerned, its slot and the tag of its COMMIT. -/
structure PairEnd where
  id   : Word
  tide : Word
  slot : Byte
  tag  : Half
deriving DecidableEq, Repr

structure Txn where
  /-- the four slots, the epoch and the tide of the last commit (R369, R378, R386), and the COMMITs taken -/
  slots    : Vector Slot 4 := Vector.replicate 4 {}
  epoch    : Word := 0
  lastTide : Word := 0
  order    : Nat := 0
  /-- the ledger's shadow bank by parameter ID; an unlisted word has its Reset value (R366, R367) -/
  shadow   : RegMap := []
  /-- marks carried, and the marks received from the mate -/
  mine     : Mark := {}
  got      : List Mark := []
  /-- aborted pair transaction, for COMMIT_DIVERGED; applied one that waits for the mate's applied mark -/
  aborted  : Option PairEnd := none
  await    : Option PairEnd := none
  /-- the mark carried from the slack point of its tide on (R380) -/
  next     : Mark := {}
deriving DecidableEq, Repr

/-! ### Hawser pair (ch. 14) -/

inductive PairState
  | solo | paired | split | carrying
deriving DecidableEq, Repr

structure MirrorSt where
  valid  : Bool := false
  sample : Time := 0
  words  : List Word := []
deriving DecidableEq, Repr

/-- A crossing queued for transmission (R394). -/
structure OutCross where
  kind    : CrossKind
  payload : List Word
deriving DecidableEq, Repr

structure Hawser where
  /-- pair state (R40, R405) -/
  pair    : PairState := .solo
  /-- link formed, lanes aligned, own HELLO answered, HAWSER_FAULT (R395, R397) -/
  linkUp  : Bool := false
  aligned : BitVec 2 := 0
  fault   : Bool := false
  /-- time locked, rejoin running, filtered `MATE_PRES`, and its fault (R398, R406, R410, R413) -/
  locked  : Bool := false
  rejoin  : Bool := false
  pres    : Bool := false
  mpFault : Bool := false
  /-- round trip, time error, and errors above the limit in a row; the split asked for (R396, R398, R405) -/
  rtt     : Half := 0
  err     : Int := 0
  bigErr  : Nat := 0
  splitReq : Bool := false
  /-- discarded and missing crossings: totals, this tide, and whether told (R393, R413) -/
  crcErr  : Half := 0
  lost    : Half := 0
  crcTide : Half := 0
  lostTide : Half := 0
  badTold : Bool := false
  /-- `HWS.MATE_EPOCH`, `HWS.MATE_TIDE`, `HWS.LOSS_COUNT` (R413) -/
  mateEpoch : Word := 0
  mateTide : Word := 0
  losses  : Half := 0
  /-- crossings that wait and the one in transmission with its bytes (R392, R394); the alive counters are those of `CHK6` and
  `CHK7` (R393) -/
  queue   : List OutCross := []
  sending : Option CrossKind := none
  wire    : List Byte := []
  /-- FAREWELL crossings still to send; silent after them (R407, R411) -/
  farewells : Nat := 0
  silent  : Bool := false
  /-- the tide in which PAIR_SKEW was raised last (R415) -/
  skewTide : Option Word := none
  /-- the mate's boundary and index are adopted at the next boundary (R399) -/
  adopt   : Bool := false
  /-- CONFIG_CONFLICT told since the link formed (R397) -/
  conflict : Bool := false
  /-- tide boundaries since `MATE_PRES` went high (R406) -/
  presTides : Nat := 0
  /-- mirrors of the mate's regions, its HEALTH body and its flags (R400, R401) -/
  mirrors : Vector MirrorSt 7 := Vector.replicate 7 {}
  mateHealth : Option HealthBody := none
  mateFlags : Byte := 0
  /-- skew counts and their told flags (R403) -/
  epochSkew : Nat := 0
  epochTold : Bool := false
  spSkew  : Nat := 0
  spTold  : Bool := false
  shareTold : Bool := false
  /-- k_pair in use per traction side, binary32 (R404, R410) -/
  kPair   : Vector F32 2 := Vector.replicate 2 0x3F800000
  /-- the last crossing's tide index was the own one (R399) -/
  tideEq  : Bool := false
  /-- departure of the last own TIMING and arrival of the mate's last one, in 312.5 ps units; the tide in which the last own one was sent;
  an error has been measured since the link formed (R398, R405) -/
  departed : Time := 0
  arrived  : Time := 0
  timingTide : Option Word := none
  timed    : Bool := false
deriving DecidableEq, Repr

/-! ### CAN and check units (ch. 15) -/

inductive CanSt
  | off | active | passive | busOff
deriving DecidableEq, Repr

/-- A frame waiting in a transmit queue or buffer (R420). -/
structure TxFrame where
  ident  : Word
  fdf    : Bool
  brs    : Bool
  data   : List Byte
  chk    : Byte
  tag    : Half
  note   : Bool
  /-- ring entries it occupies -/
  size   : Nat
  tries  : Nat := 0
  order  : Nat := 0
deriving DecidableEq, Repr

/-- A frame record read from a transmit ring: its first entry, device time of its read, the entries it spans, and the frame unless it
is refused (R352, R420). -/
structure DueFrame where
  entry  : Entry
  readAt : Time
  size   : Nat
  frame  : Option TxFrame
deriving DecidableEq, Repr

structure Can where
  /-- state, ISOLATE, recovery, last error, error counters (R416, R425, R436) -/
  st       : CanSt := .off
  isolated : Bool := false
  recovering : Bool := false
  lec      : BitVec 3 := 0
  txErr    : Byte := 0
  rxErr    : Byte := 0
  /-- the frame sent last, as it stood on the bus (R421) -/
  sent     : Option CanFrame := none
  /-- time stamp counter, now and at the last boundary (R429) -/
  tsNow    : Word := 0
  tsTide   : Word := 0
  /-- transmit buffers with their load order, the queue behind them (R420, R423) -/
  bufs     : Vector (Option TxFrame) 3 := Vector.replicate 3 none
  next     : Nat := 0
  order    : Nat := 0
  queue    : List TxFrame := []
  /-- frame records read and due (R352, R420) -/
  due      : List DueFrame := []
  /-- entries of a frame whose last ones are still to be read -/
  part     : List Entry := []
  /-- counters (R436) -/
  unmatched : Half := 0
  rxLost   : Half := 0
  arbLost  : Half := 0
  errFrames : Half := 0
  /-- frames lost per receive ring, and events told in this tide (R428) -/
  lost0    : Bool := false
  lost1    : Bool := false
  told0    : Bool := false
  told1    : Bool := false
  excTold  : Bool := false
deriving DecidableEq, Repr

structure Chk where
  /-- `CHKn` registers (R433, R436) -/
  value  : Word := 0xFFFFFFFF
  alive  : Byte := 0
  length : Word := 0
  /-- the reference of received alive counters is set; `alive` is then the value expected next (R432) -/
  ref    : Bool := false
  /-- events told in this tide (R432) -/
  failTold : Bool := false
  aliveTold : Bool := false
deriving DecidableEq, Repr

/-! ### Wash rotation, self-test, debug (ch. 04, 05, 17) -/

structure Wash where
  /-- position, slot, rotations (saturating and whole), duration of the last, end of the slot, start of the rotation (R474,
  R480) -/
  pos     : BitVec 6 := 0
  inSlot  : Bool := false
  rots    : Half := 0
  total   : Word := 0
  lastTime : Word := 0
  slotEnd : Time := 0
  rotAt   : Time := 0
  /-- the slot of the position waits for its triad, made duplex by the vote at the run end at which the slot was due (R127) -/
  wait    : Bool := false
  /-- next bank holder for the shadow test, as bits [15:8] of its IDs, and the test that runs in the slot: its holder and its result (R475) -/
  holder  : Byte := 0
  shadow  : Option (Byte × Bool) := none
deriving DecidableEq, Repr

structure SelfTest where
  /-- the commanded test: running, kind, scope, tag; signature and result of the last record (R473, R480) -/
  busy   : Bool := false
  kind   : BitVec 3 := 0
  region : Byte := 0
  cluster : Byte := 0
  rep    : Byte := 0
  tag    : Half := 0
  lastSig : Word := 0
  lastResult : BitVec 2 := 0
deriving DecidableEq, Repr

structure Debug where
  /-- law debug registers (R128) -/
  lawSel    : BitVec 4 := 0
  stepCount : BitVec 10 := 1
  addr      : BitVec 10 := 0
  refused   : Bool := false
  /-- bridge debug registers (R170) -/
  brgSel    : Byte := 0
  brgRefused : Bool := false
  /-- region debug registers (R45) -/
  regSel    : BitVec 3 := 0
  regRefused : Bool := false
  region    : BitVec 3 := 0
deriving DecidableEq, Repr

/-! ### The whole device -/

structure State where
  /-- the commands that wait, first in first out -/
  pending : List Instr := []
  power   : Power := {}
  tim     : Timing := {}
  /-- setup registers in force, and written but not yet in force (R17, R18), by BAR0 offset -/
  setup   : RegMap := []
  setupPend : RegMap := []
  /-- the ledger's active bank by parameter ID (R48, R366) -/
  params  : RegMap := []
  /-- per region, law engine, bridge, gate side (R23, R25) -/
  regions : Vector Region 7 := Vector.replicate 7 {}
  laws    : Vector Law 16 := Vector.replicate 16 {}
  bridges : Vector Bridge 27 := Vector.replicate 27 {}
  gates   : Vector Gate 35 := Vector.replicate 35 {}
  /-- the charge pump's CP_FAULT in force (R168) -/
  cpFault : Bool := false
  /-- per sense channel, sense cluster, window monitor, stand-in (R174, R176, R189, R194) -/
  chans   : Vector Chan 54 := Vector.replicate 54 {}
  sns     : Vector Sns 12 := Vector.replicate 12 {}
  wins    : Vector Win 48 := Vector.replicate 48 {}
  wsts    : Vector Wst 3 := Vector.replicate 3 {}
  /-- `TRIP_IN0`, `TRIP_IN1` (R192) -/
  tripIn  : BitVec 2 := 0
  /-- per subject: traction sides, span, charger, actuators, brake, torque-off, thermal model, host interface, transactions,
  hawser, CAN (chs. 07 to 15) -/
  tracts  : Vector Traction 2 := Vector.replicate 2 {}
  span    : Span := {}
  chg     : Charger := {}
  acts    : Vector Actuator 3 := Vector.replicate 3 {}
  brake   : Brake := {}
  sto     : Sto := {}
  therm   : Thermal := {}
  host    : HostIf := {}
  txn     : Txn := {}
  haws    : Hawser := {}
  cans    : Vector Can 3 := Vector.replicate 3 {}
  /-- the check cluster in ISOLATE, and the check units (R430, R450) -/
  chkIso  : Bool := false
  chks    : Vector Chk 8 := Vector.replicate 8 {}
  /-- wash rotation, self-test, debug (R474, R480, R128) -/
  wash    : Wash := {}
  st      : SelfTest := {}
  dbg     : Debug := {}
  /-- events detected by the command being executed and not yet written (R442) -/
  evq     : List Event := []
  /-- the data returned by the last register read: the model's own field -/
  readOut : List Word := []
  /-- how many free values have been drawn: the model's own field (log 2) -/
  free    : Nat := 0
deriving DecidableEq, Repr

/-- The machine right after reset: every field at the Reset column's value, or at the value the log names (log 1). The
device waits for T0 (R464). -/
def State.reset : State := {}

end Sys2Proof.Machine
end

