-- ==== Sys2Proof/Machine/Bits.lean ====
section
/-! DEFINITION. Bit fields, bytes of records, sparse register maps, check values (R7, R19, R344, R430). -/

namespace Sys2Proof.Machine

/-- A Bool as a bit. -/
def bit (b : Bool) : Nat := if b then 1 else 0

/-- Byte i of a ring entry (R349). -/
def byteAt (e : Entry) (i : Nat) : Byte := e.extractLsb' (8 * i) 8
/-- Two bytes of a ring entry, little-endian (R7). -/
def halfAt (e : Entry) (i : Nat) : Half := e.extractLsb' (8 * i) 16
/-- Four bytes of a ring entry, little-endian (R7). -/
def wordAt (e : Entry) (i : Nat) : Word := e.extractLsb' (8 * i) 32

/-- An entry from (byte position, width in bytes, value) triples; later bytes are zero. -/
def packEntry (fs : List (Nat × Nat × Nat)) : Entry :=
  BitVec.ofNat 256 (fs.foldl (fun acc f => acc + (f.2.2 % 2 ^ (8 * f.2.1)) * 2 ^ (8 * f.1)) 0)

/-- A word from (bit position, width, value) triples (R14). -/
def packWord (fs : List (Nat × Nat × Nat)) : Word :=
  BitVec.ofNat 32 (fs.foldl (fun acc f => acc + (f.2.2 % 2 ^ f.2.1) * 2 ^ f.1) 0)

/-- Saturating increment of a 16-bit count. -/
def satInc (x : Half) : Half := if x = 0xFFFF then x else x + 1

/-- Saturating addition to a 16-bit count. -/
def satAdd (x : Half) (n : Nat) : Half := BitVec.ofNat 16 (min 0xFFFF (x.toNat + n))

/-- Bytes of a bit vector, lowest first. -/
def bytesOf (n : Nat) (x : BitVec w) : List Byte := (List.range n).map (fun i => x.extractLsb' (8 * i) 8)

/-! ### Sparse maps -/

/-- Strictly rising keys, and no entry equal to what the key reads as unlisted. -/
def wfFrom (dflt : Nat → Word) : Option Nat → RegMap → Bool
  | _, [] => true
  | lo, (k, v) :: r =>
    (match lo with
      | none => true
      | some l => decide (l < k)) && decide (v ≠ dflt k) && wfFrom dflt (some k) r

/-- The canonical form of a sparse map. -/
def mapWf (dflt : Nat → Word) (m : RegMap) : Bool := wfFrom dflt none m

/-- The value at a key: the listed one, else the default. -/
def mapGet (dflt : Nat → Word) (m : RegMap) (k : Nat) : Word :=
  match m with
  | [] => dflt k
  | (j, v) :: r => if j = k then v else mapGet dflt r k

/-- Remove a key. -/
def mapDel (m : RegMap) (k : Nat) : RegMap :=
  match m with
  | [] => []
  | (j, v) :: r => if j = k then mapDel r k else (j, v) :: mapDel r k

/-- Insert a key in its place, replacing an entry of that key. -/
def mapIns (m : RegMap) (k : Nat) (v : Word) : RegMap :=
  match m with
  | [] => [(k, v)]
  | (j, w) :: r => if k < j then (k, v) :: (j, w) :: r else if k = j then (k, v) :: r else (j, w) :: mapIns r k v

/-- Write a key, keeping the canonical form. -/
def mapSet (dflt : Nat → Word) (m : RegMap) (k : Nat) (v : Word) : RegMap :=
  if v = dflt k then mapDel m k else mapIns m k v

/-- A value listed at a key. -/
def mapFind (m : RegMap) (k : Nat) : Option Word :=
  match m with
  | [] => none
  | (j, v) :: r => if j = k then some v else mapFind r k

/-! ### Check values (R430) -/

/-- Reverse the low `n` bits. -/
def reflect (n x : Nat) : Nat := (List.range n).foldl (fun acc i => acc * 2 + x / 2 ^ i % 2) 0

/-- One bit of a CRC of width w, most significant bit first. -/
def crcBit (w poly : Nat) (reg : Nat) (b : Bool) : Nat :=
  let top := reg.testBit (w - 1)
  let sh := reg * 2 % 2 ^ w
  if top != b then Nat.xor sh poly else sh

/-- One byte of a CRC; `refl` takes the byte least significant bit first. -/
def crcByte (w poly : Nat) (refl : Bool) (reg : Nat) (x : Byte) : Nat :=
  (List.range 8).foldl (fun r i => crcBit w poly r (if refl then x.getLsbD i else x.getLsbD (7 - i))) reg

/-- The algorithms of R430: width, polynomial, initial value, reflected, final XOR. -/
structure CrcAlg where
  width : Nat
  poly  : Nat
  init  : Nat
  refl  : Bool
  xor   : Nat
deriving DecidableEq, Repr

/-- The table of R430; a number beyond it does not pass R435's range. -/
def crcAlg (n : Nat) : CrcAlg :=
  match n with
  | 0 => ⟨8, 0x1D, 0xFF, false, 0xFF⟩
  | 1 => ⟨8, 0x2F, 0xFF, false, 0xFF⟩
  | 2 => ⟨16, 0x1021, 0xFFFF, false, 0x0000⟩
  | 3 => ⟨32, 0x04C11DB7, 0xFFFFFFFF, true, 0xFFFFFFFF⟩
  | _ => ⟨32, 0x1EDC6F41, 0xFFFFFFFF, true, 0xFFFFFFFF⟩

/-- Feed one byte to a running value, kept before the final XOR and reflection (R433). -/
def crcFeed (a : CrcAlg) (reg : Nat) (x : Byte) : Nat := crcByte a.width a.poly a.refl reg x

/-- The finished check value. -/
def crcFinish (a : CrcAlg) (reg : Nat) : Nat := Nat.xor (if a.refl then reflect a.width reg else reg) a.xor

/-- The check value of a byte string. -/
def crcOf (a : CrcAlg) (xs : List Byte) : Nat := crcFinish a (xs.foldl (crcFeed a) a.init)

/-- CRC-32C of R344. -/
def crc32c (xs : List Byte) : Word := BitVec.ofNat 32 (crcOf (crcAlg 4) xs)

end Sys2Proof.Machine
end

