-- ==== Sys2Proof/Machine/Units.lean ====
section
/-! DEFINITION. The six levels' names: regions, clusters, bridges, gate sides, law engines, sense clusters and channels, and
how each is numbered (R23 to R28, R175). -/

namespace Sys2Proof.Machine

/-- Region code (R11). -/
def regCode : RegionId → Nat
  | .sup => 0 | .hst => 1 | .tra => 2 | .trb => 3 | .spn => 4 | .chg => 5 | .act => 6

/-- Region of a code (R11). -/
def regOf : Nat → Option RegionId
  | 0 => some .sup | 1 => some .hst | 2 => some .tra | 3 => some .trb | 4 => some .spn | 5 => some .chg | 6 => some .act
  | _ => none

/-- The regions in code order, the starting order of R33. -/
def allRegs : List RegionId := [.sup, .hst, .tra, .trb, .spn, .chg, .act]

/-- The position of a region in a vector of seven. -/
def rIx : RegionId → Fin 7
  | .sup => 0 | .hst => 1 | .tra => 2 | .trb => 3 | .spn => 4 | .chg => 5 | .act => 6

/-- The two traction regions' sides. -/
def sideReg : Side → RegionId
  | .a => .tra | .b => .trb

def regSide : RegionId → Option Side
  | .tra => some .a | .trb => some .b | .sup => none | .hst => none | .spn => none | .chg => none | .act => none

def sIx : Side → Fin 2
  | .a => 0 | .b => 1

def otherSide : Side → Side
  | .a => .b | .b => .a

/-- The position of a bridge in a vector of 27: the 17 high-voltage bridges in the order of R27, `BRG.BCH`, then the nine
actuator bridges. -/
def bIx : BridgeId → Fin 27
  | .ta1 => 0 | .ta2 => 1 | .ta3 => 2 | .tb1 => 3 | .tb2 => 4 | .tb3 => 5 | .sp1 => 6 | .sp2 => 7 | .sp3 => 8 | .sp4 => 9
  | .pf1 => 10 | .pf2 => 11 | .pf3 => 12 | .dp1 => 13 | .dp2 => 14 | .ds1 => 15 | .ds2 => 16 | .bch => 17
  | .g1u => 18 | .g1v => 19 | .g1w => 20 | .g2u => 21 | .g2v => 22 | .g2w => 23 | .g3u => 24 | .g3v => 25 | .g3w => 26

/-- Every bridge, in that order. -/
def allBridges : List BridgeId :=
  [.ta1, .ta2, .ta3, .tb1, .tb2, .tb3, .sp1, .sp2, .sp3, .sp4, .pf1, .pf2, .pf3, .dp1, .dp2, .ds1, .ds2, .bch,
   .g1u, .g1v, .g1w, .g2u, .g2v, .g2w, .g3u, .g3v, .g3w]

/-- The bridges of a region in the order of their cluster numbers (R25). -/
def regBridges : RegionId → List BridgeId
  | .sup => [] | .hst => []
  | .tra => [.ta1, .ta2, .ta3]
  | .trb => [.tb1, .tb2, .tb3]
  | .spn => [.sp1, .sp2, .sp3, .sp4, .bch]
  | .chg => [.pf1, .pf2, .pf3, .dp1, .dp2, .ds1, .ds2]
  | .act => [.g1u, .g1v, .g1w, .g2u, .g2v, .g2w, .g3u, .g3v, .g3w]

/-- The region of a bridge (R25). -/
def brgReg : BridgeId → RegionId
  | .ta1 => .tra | .ta2 => .tra | .ta3 => .tra | .tb1 => .trb | .tb2 => .trb | .tb3 => .trb
  | .sp1 => .spn | .sp2 => .spn | .sp3 => .spn | .sp4 => .spn | .bch => .spn
  | .pf1 => .chg | .pf2 => .chg | .pf3 => .chg | .dp1 => .chg | .dp2 => .chg | .ds1 => .chg | .ds2 => .chg
  | .g1u => .act | .g1v => .act | .g1w => .act | .g2u => .act | .g2v => .act | .g2w => .act
  | .g3u => .act | .g3v => .act | .g3w => .act

/-- The cluster number of a bridge (R25). -/
def brgClu : BridgeId → Nat
  | .ta1 => 5 | .ta2 => 6 | .ta3 => 7 | .tb1 => 5 | .tb2 => 6 | .tb3 => 7
  | .sp1 => 4 | .sp2 => 5 | .sp3 => 6 | .sp4 => 7 | .bch => 8
  | .pf1 => 6 | .pf2 => 7 | .pf3 => 8 | .dp1 => 9 | .dp2 => 10 | .ds1 => 11 | .ds2 => 12
  | .g1u => 4 | .g1v => 5 | .g1w => 6 | .g2u => 7 | .g2v => 8 | .g2w => 9 | .g3u => 10 | .g3v => 11 | .g3w => 12

/-- The kinds of bridge of R172. -/
inductive BKind
  | hv | bch | act
deriving DecidableEq, Repr

def brgKind (b : BridgeId) : BKind :=
  if (bIx b).val < 17 then .hv else if b = .bch then .bch else .act

def isDab : BridgeId → Bool
  | .dp1 => true | .dp2 => true | .ds1 => true | .ds2 => true | _ => false

/-- The actuator that owns a phase (R25). -/
def brgAct : BridgeId → Option ActId
  | .g1u => some 0 | .g1v => some 0 | .g1w => some 0 | .g2u => some 1 | .g2v => some 1 | .g2w => some 1
  | .g3u => some 2 | .g3v => some 2 | .g3w => some 2 | _ => none

/-- The three phases of an actuator (R25). -/
def actBridges (a : ActId) : List BridgeId :=
  match a.val with
  | 0 => [.g1u, .g1v, .g1w] | 1 => [.g2u, .g2v, .g2w] | _ => [.g3u, .g3v, .g3w]

/-- The traction bridges of a side. -/
def sideBridges : Side → List BridgeId
  | .a => [.ta1, .ta2, .ta3] | .b => [.tb1, .tb2, .tb3]

def spanBridges : List BridgeId := [.sp1, .sp2, .sp3, .sp4]
def pfcBridges : List BridgeId := [.pf1, .pf2, .pf3]
def dabBridges : List BridgeId := [.dp1, .dp2, .ds1, .ds2]

/-- The gate side of a switch (R27); none for an actuator bridge (R28) and for the missing high side of `BRG.BCH`. -/
def gsOf (b : BridgeId) (sw : Sw) : Option GsId :=
  let i := (bIx b).val
  if i < 17 then
    match sw with
    | .high => some (Fin.ofNat 35 (2 * i))
    | .low => some (Fin.ofNat 35 (2 * i + 1))
  else if b = .bch then (match sw with | .high => none | .low => some 34)
  else none

/-- The gate sides of a bridge. -/
def gsList (b : BridgeId) : List GsId := (gsOf b .high).toList ++ (gsOf b .low).toList

/-- The bridge at a position. -/
def brgAt (i : Nat) : BridgeId := allBridges.getD i .ta1

/-- The bridge that a gate side drives, and its switch (R27). -/
def gsBridge (g : GsId) : BridgeId × Sw :=
  if g.val = 34 then (.bch, .low) else (brgAt (g.val / 2), if g.val % 2 = 0 then .high else .low)

/-- The opposite gate side of the same half-bridge; `GS35` has none. -/
def gsMate (g : GsId) : Option GsId :=
  if g.val = 34 then none else some (if g.val % 2 = 0 then Fin.ofNat 35 (g.val + 1) else Fin.ofNat 35 (g.val - 1))

/-! ### Law engines -/

/-- Region of a law engine (R25). -/
def lawReg (l : LawId) : RegionId :=
  if l.val < 3 then .tra else if l.val < 6 then .trb else if l.val < 8 then .spn else if l.val < 11 then .chg
  else if l.val < 14 then .act else .sup

/-- Cluster number of a law engine (R25). -/
def lawClu (l : LawId) : Nat :=
  if l.val < 6 then l.val % 3 else if l.val < 8 then l.val - 6 else if l.val < 11 then l.val - 8
  else if l.val < 14 then l.val - 11 else l.val - 14

/-- Law engines of a region, in cluster order. -/
def regLaws : RegionId → List LawId
  | .sup => [14, 15] | .hst => [] | .tra => [0, 1, 2] | .trb => [3, 4, 5] | .spn => [6, 7] | .chg => [8, 9, 10]
  | .act => [11, 12, 13]

def allLaws : List LawId := [0, 1, 2, 3, 4, 5, 6, 7, 8, 9, 10, 11, 12, 13, 14, 15]

/-- The law forms (R88). -/
inductive Form
  | foc | speed | observer | phases | link | pfc | dab | charge | position | thermal | regulator
deriving DecidableEq, Repr

def lawForm (l : LawId) : Form :=
  match l.val with
  | 0 => .foc | 3 => .foc | 1 => .speed | 4 => .speed | 2 => .observer | 5 => .observer | 6 => .phases | 7 => .link
  | 8 => .pfc | 9 => .dab | 10 => .charge | 14 => .thermal | 15 => .regulator | _ => .position

/-- The traction side of a law engine; only meant for `LAW00` to `LAW05`. -/
def lawSide (l : LawId) : Side := if l.val < 3 then .a else .b

/-- `LAW00` or `LAW03`, `LAW01` or `LAW04`, `LAW02` or `LAW05` of a side. -/
def focLaw : Side → LawId
  | .a => 0 | .b => 3
def speedLaw : Side → LawId
  | .a => 1 | .b => 4
def obsLaw : Side → LawId
  | .a => 2 | .b => 5

/-- The actuator of `LAW11` to `LAW13`. -/
def lawAct (l : LawId) : ActId := if l.val = 11 then 0 else if l.val = 12 then 1 else 2

def actLaw (a : ActId) : LawId := if a.val = 0 then 11 else if a.val = 1 then 12 else 13

/-- The minimum apply delay of R71, in units of 0.1 us. -/
def formMin : Form → Nat
  | .foc => 16 | .observer => 16 | .phases => 16 | .pfc => 16 | .link => 13 | .thermal => 16 | .speed => 10 | .dab => 10
  | .charge => 10 | .position => 10 | .regulator => 10

/-- The cycle budget of a form (R71, R88). -/
def formCycles : Form → Nat
  | .foc => 480 | .observer => 480 | .phases => 480 | .pfc => 480 | .thermal => 480 | .link => 360
  | .speed => 240 | .dab => 240 | .charge => 240 | .position => 240 | .regulator => 240

/-- Forms that may take an external set-point source (R88). -/
def formExt : Form → Bool
  | .speed => true | .link => true | .dab => true | .charge => true | .position => true
  | .foc => false | .observer => false | .phases => false | .pfc => false | .thermal => false | .regulator => false

/-- Forms that have a following-error quantity (R88). -/
def formFe : Form → Bool
  | .charge => false | .thermal => false
  | .foc => true | .speed => true | .observer => true | .phases => true | .link => true | .pfc => true | .dab => true
  | .position => true | .regulator => true

/-- Bridges that an engine drives (R92). -/
def lawBridges (l : LawId) : List BridgeId :=
  match l.val with
  | 0 => [.ta1, .ta2, .ta3] | 3 => [.tb1, .tb2, .tb3] | 6 => spanBridges | 7 => [.bch] | 8 => pfcBridges | 9 => dabBridges
  | 11 => actBridges 0 | 12 => actBridges 1 | 13 => actBridges 2 | _ => []

/-- The engine that drives a bridge (R92). -/
def brgLaw : BridgeId → LawId
  | .ta1 => 0 | .ta2 => 0 | .ta3 => 0 | .tb1 => 3 | .tb2 => 3 | .tb3 => 3
  | .sp1 => 6 | .sp2 => 6 | .sp3 => 6 | .sp4 => 6 | .bch => 7
  | .pf1 => 8 | .pf2 => 8 | .pf3 => 8 | .dp1 => 9 | .dp2 => 9 | .ds1 => 9 | .ds2 => 9
  | .g1u => 11 | .g1v => 11 | .g1w => 11 | .g2u => 12 | .g2v => 12 | .g2w => 12 | .g3u => 13 | .g3v => 13 | .g3w => 13

/-! ### Sense clusters -/

/-- Region of a sense cluster (R26). -/
def snsReg (n : SnsId) : RegionId :=
  if n.val < 2 then .tra else if n.val < 4 then .trb else if n.val < 6 then .spn else if n.val < 9 then .chg
  else if n.val = 9 then .act else .sup

/-- Cluster number of a sense cluster (R25). -/
def snsClu (n : SnsId) : Nat :=
  match n.val with
  | 0 => 3 | 1 => 4 | 2 => 3 | 3 => 4 | 4 => 2 | 5 => 3 | 6 => 3 | 7 => 4 | 8 => 5 | 9 => 3 | 10 => 2 | _ => 3

def regSns : RegionId → List SnsId
  | .sup => [10, 11] | .hst => [] | .tra => [0, 1] | .trb => [2, 3] | .spn => [4, 5] | .chg => [6, 7, 8] | .act => [9]

def allSns : List SnsId := [0, 1, 2, 3, 4, 5, 6, 7, 8, 9, 10, 11]

/-- The channels of a sense cluster, in the order of their position c (R26, R175). -/
def snsChans (n : SnsId) : List ChanId :=
  match n.val with
  | 0 => [0, 1, 2] | 1 => [3, 4, 5] | 2 => [6, 7, 8] | 3 => [9, 10, 11] | 4 => [12, 13, 14, 19] | 5 => [15, 16, 17, 18]
  | 6 => [20, 21, 22, 23] | 7 => [24, 25, 26, 27, 28] | 8 => [29, 30] | 9 => [40, 41, 42, 43, 48, 49, 50, 51, 52, 53]
  | 10 => [31, 32, 33, 34, 35, 36, 37, 38, 39] | _ => [44, 45, 46, 47]

/-- The number of window monitors of a sense cluster: its analog inputs (R26). -/
def snsWins (n : SnsId) : Nat := if n.val = 9 then 4 else (snsChans n).length

/-- The sense cluster of a channel, and the channel's position in it (R175). -/
def chanPos (c : ChanId) : SnsId × Nat :=
  let v := c.val
  if v < 3 then (0, v) else if v < 6 then (1, v - 3) else if v < 9 then (2, v - 6) else if v < 12 then (3, v - 9)
  else if v < 15 then (4, v - 12) else if v < 19 then (5, v - 15) else if v = 19 then (4, 3)
  else if v < 24 then (6, v - 20) else if v < 29 then (7, v - 24) else if v < 31 then (8, v - 29)
  else if v < 40 then (10, v - 31) else if v < 44 then (9, v - 40) else if v < 48 then (11, v - 44) else (9, v - 44)

/-- The channel that a window monitor watches. -/
def winChan (w : WinId) : ChanId := Fin.castLE (by decide) w

/-- The window monitors of a sense cluster. -/
def winsOf (n : SnsId) : List WinId := ((snsChans n).filter (fun c => decide (c.val < 48))).map (fun c => Fin.ofNat 48 c.val)

/-- The banks of R175. -/
inductive Bank
  | t | c | x | m
deriving DecidableEq, Repr

def winBank (w : WinId) : Bank :=
  let v := w.val
  if v < 24 then .t else if v < 32 then .c else if v < 40 then .m else .x

/-! ### Clusters by number -/

/-- What a cluster number of a region names (R25), and the region-common bank holder (R46). -/
inductive Clu
  | law (l : LawId) | sns (n : SnsId) | brg (b : BridgeId) | can (c : CanId)
  | host | check | hawser | tide | brake | selfTest | gatePower
  | common (r : RegionId)
deriving DecidableEq, Repr

/-- The cluster with a number in a region (R25). -/
def cluOf (r : RegionId) (n : Nat) : Option Clu :=
  if n = 15 then some (.common r)
  else
    let ls := regLaws r
    let ss := regSns r
    let bs := regBridges r
    match r with
    | .hst =>
      match n with
      | 0 => some .host | 1 => some (.can 0) | 2 => some (.can 1) | 3 => some (.can 2) | 4 => some .check
      | 5 => some .hawser | _ => none
    | .sup =>
      match n with
      | 0 => some (.law 14) | 1 => some (.law 15) | 2 => some (.sns 10) | 3 => some (.sns 11) | 4 => some .tide
      | 5 => some .brake | 6 => some .selfTest | 7 => some .gatePower | _ => none
    | _ =>
      if n < ls.length then (ls[n]?).map .law
      else if n < ls.length + ss.length then (ss[n - ls.length]?).map .sns
      else (bs[n - ls.length - ss.length]?).map .brg

/-- The clusters a region has: 8, 6, 8, 8, 9, 13, 13 (R25). -/
def cluCount : RegionId → Nat
  | .sup => 8 | .hst => 6 | .tra => 8 | .trb => 8 | .spn => 9 | .chg => 13 | .act => 13

/-- The bank holder and word that a parameter ID names (R46). -/
def idClu (id : Nat) : Option Clu :=
  match regOf (id / 4096) with
  | none => none
  | some r => cluOf r (id / 256 % 16)

def idWord (id : Nat) : Nat := id % 256

/-- Parameter IDs of the clusters (R46). -/
def lawId (l : LawId) (w : Nat) : Nat := regCode (lawReg l) * 4096 + lawClu l * 256 + w
def brgId (b : BridgeId) (w : Nat) : Nat := regCode (brgReg b) * 4096 + brgClu b * 256 + w
def snsParId (n : SnsId) (w : Nat) : Nat := regCode (snsReg n) * 4096 + snsClu n * 256 + w
def comId (r : RegionId) (w : Nat) : Nat := regCode r * 4096 + 0xF00 + w
def canParId (c : CanId) (w : Nat) : Nat := 0x1100 + 0x100 * c.val + w
def chkParId (n : ChkId) (w : Nat) : Nat := 0x1400 + 4 * n.val + w
def hawId (w : Nat) : Nat := 0x1500 + w

end Sys2Proof.Machine
end

