-- ==== Sys2Proof/Machine/ParamTable.lean ====
section
/-! DEFINITION. The parameter tables of the manual: for every defined ID (R47) its reset value and the values its row accepts
(R70, R93, R98 to R108, R172, R198, R230 to R232, R260 to R262, R288, R299, R314, R330, R331, R412, R434, R435, R463). -/

namespace Sys2Proof.Machine

/-- A decimal of the manual: m 10^e. -/
structure Dec where
  m : Int
  e : Int
deriving DecidableEq, Repr

def Dec.f (d : Dec) : F32 := F.dec d.m d.e

/-- An integer of the manual. -/
def i (n : Int) : Dec := ⟨n, 0⟩

/-- What a row accepts (R86). -/
inductive Rng
  /-- no stated range: any finite value -/
  | any
  | real (lo hi : Dec)
  /-- either sign, magnitude in the range -/
  | mag (lo hi : Dec)
  | int (lo hi : Int)
  | enum (vals : List Int)
  /-- raw word of R8 below a bound -/
  | raw (bits : Nat)
deriving DecidableEq, Repr

/-- One row: words first, first + step, ..., n of them, their reset value, and what they accept. -/
structure PRow where
  first : Nat
  n     : Nat
  step  : Nat
  reset : Dec
  rng   : Rng
deriving DecidableEq, Repr

/-- A row of a single word. -/
def w1 (first : Nat) (reset : Dec) (rng : Rng) : PRow := ⟨first, 1, 1, reset, rng⟩

def pi2 : Dec := ⟨15707963267948966, -16⟩
def pi1 : Dec := ⟨31415926535897932, -16⟩
def piN : Dec := ⟨-31415926535897932, -16⟩

/-- R98, R231. -/
def rowsFoc : List PRow :=
  [w1 0x00 ⟨1, -2⟩ (.real ⟨1, -4⟩ (i 10)), w1 0x01 ⟨2, -4⟩ (.real ⟨1, -6⟩ ⟨1, -1⟩), w1 0x02 ⟨4, -4⟩ (.real ⟨1, -6⟩ ⟨1, -1⟩),
   w1 0x03 ⟨1, -1⟩ (.real ⟨1, -3⟩ (i 2)), w1 0x04 (i 4) (.int 1 32),
   w1 0x05 ⟨5, -1⟩ (.real (i 0) (i 100)), w1 0x06 (i 1000) (.real (i 0) (i 1000000)),
   w1 0x07 ⟨5, -1⟩ (.real (i 0) (i 100)), w1 0x08 (i 1000) (.real (i 0) (i 1000000)),
   w1 0x09 (i 0) (.real (i 0) (i 2000)), w1 0x0A ⟨5, -2⟩ (.real (i 0) ⟨3, -1⟩), w1 0x0B (i 1) (.real (i 1) ⟨11027, -4⟩),
   w1 0x0C (i 1) (.enum [0, 1]), w1 0x0D (i 0) (.real (i 0) (i 1000000))] ++
  [w1 0x20 (i 0) (.real (i 0) (i 20000)), ⟨0x21, 32, 1, i 0, .real (i (-2000)) (i 0)⟩, ⟨0x41, 32, 1, i 0, .real (i 0) (i 2000)⟩,
   w1 0x61 (i 100) (.real (i 0) (i 1000000)), w1 0x62 (i 0) (.real (i (-2000)) (i 0))]

/-- R99, R232. -/
def rowsSpeed : List PRow :=
  [w1 0x00 (i 1) (.real (i 0) (i 10000)), w1 0x01 (i 10) (.real (i 0) (i 1000000)), w1 0x02 (i 0) (.real (i 0) (i 20000)),
   w1 0x03 (i 0) (.real (i 0) (i 20000)), w1 0x04 (i 0) (.real (i 0) (i 2000000)), w1 0x05 (i 0) (.real (i 0) (i 2000)),
   w1 0x06 (i 10) (.real ⟨1, -2⟩ (i 10000)), w1 0x07 (i 10) (.real ⟨1, -2⟩ (i 10000)),
   w1 0x08 (i 1000) (.real (i 1) (i 1000000)), w1 0x09 (i 2) (.real (i 0) (i 100))] ++
  [w1 0x20 (i 0) (.enum [0, 1, 2]), w1 0x21 (i 0) (.enum [0, 1]), w1 0x22 (i 0) (.enum [0, 1]),
   w1 0x23 (i 1) (.real ⟨1, -1⟩ (i 3)), w1 0x24 (i 1) (.real (i 1) (i 200)), w1 0x25 (i 2) (.real ⟨5, -1⟩ (i 5))]

/-- R100, R232. -/
def rowsObs : List PRow :=
  [w1 0x00 (i 400) (.real (i 0) (i 100000)), w1 0x01 (i 40000) (.real (i 0) (i 100000000)),
   w1 0x02 (i 20) (.real (i 1) (i 500)), w1 0x03 (i 50) (.real (i 1) (i 1000)), w1 0x04 (i 0) (.int 0 65535),
   w1 0x05 (i 0) (.real piN pi1),
   w1 0x20 (i 0) (.enum [0, 1]), w1 0x21 ⟨2, -1⟩ (.real ⟨1, -2⟩ pi1), w1 0x22 (i 1) (.enum [0, 1])]

/-- R101, R261. -/
def rowsPhases : List PRow :=
  [w1 0x00 (i 1) (.real (i 0) (i 100)), w1 0x01 (i 2000) (.real (i 0) (i 1000000)), w1 0x02 (i 0) (.real (i 0) (i 1000)),
   w1 0x20 (i 0) (.enum [0, 1]), w1 0x21 (i 20) (.real (i 0) (i 1000)), w1 0x22 (i 40) (.real (i 0) (i 1000)),
   w1 0x23 (i 60) (.real (i 0) (i 1000)), w1 0x24 (i 50) (.int 1 10000), w1 0x25 (i 10) (.int 1 1000),
   w1 0x26 (i 1) (.int 1 4)]

/-- R102, R262. -/
def rowsLink : List PRow :=
  [w1 0x00 (i 0) (.real (i 0) (i 1000)), w1 0x01 (i 0) (.real (i 0) (i 1000)), w1 0x02 ⟨5, -2⟩ (.real (i 0) ⟨3, -1⟩),
   w1 0x03 (i 1000) (.real (i 1) (i 1000000)), w1 0x04 (i 5) (.real (i 0) (i 1000)),
   w1 0x05 (i 500) (.real (i 0) (i 1000000)), w1 0x06 (i 0) (.real (i 0) (i 2000)), w1 0x07 (i 0) (.real (i 0) (i 2000))] ++
  [w1 0x20 (i 0) (.real (i 0) (i 1200)), w1 0x21 (i 0) (.real (i 0) (i 1200)), w1 0x22 (i 50) (.real (i 5) (i 200)),
   w1 0x23 (i 10) (.real ⟨1, -1⟩ (i 100)), w1 0x24 ⟨5, -1⟩ (.real ⟨1, -1⟩ ⟨9, -1⟩), w1 0x25 (i 3) (.int 1 100)]

/-- R103. -/
def rowsPfc : List PRow :=
  [w1 0x00 ⟨5, -4⟩ (.real ⟨1, -5⟩ ⟨1, -2⟩), w1 0x01 (i 2) (.real (i 0) (i 100)), w1 0x02 (i 4000) (.real (i 0) (i 1000000)),
   w1 0x03 ⟨5, -1⟩ (.real (i 0) (i 100)), w1 0x04 (i 50) (.real (i 0) (i 100000)), w1 0x05 (i 100) (.real (i 0) (i 10000))]

/-- R104. -/
def rowsDab : List PRow :=
  [w1 0x00 ⟨5, -5⟩ (.real ⟨1, -6⟩ ⟨1, -3⟩), w1 0x01 (i 1) (.real ⟨1, -1⟩ (i 10)), w1 0x02 (i 1) (.real (i 0) pi2),
   w1 0x03 ⟨1, -1⟩ (.real (i 0) (i 10)), w1 0x04 (i 10) (.real (i 0) (i 10000)), w1 0x05 (i 0) (.real (i 0) (i 100000))]

/-- R105. -/
def rowsCharge : List PRow :=
  [w1 0x00 (i 0) (.real (i 0) (i 1000)), w1 0x01 (i 2) (.real (i 0) (i 1000)), w1 0x02 (i 20) (.real (i 0) (i 100000))]

/-- R106, R299. -/
def rowsPosition : List PRow :=
  [w1 0x00 (i 20) (.real (i 0) (i 1000)), w1 0x01 (i 100) (.real (i 0) (i 5000)), w1 0x02 ⟨5, -2⟩ (.real (i 0) (i 100)),
   w1 0x03 (i 1) (.real (i 0) (i 10000)), w1 0x04 ⟨5, -1⟩ (.real (i 0) (i 100)), w1 0x05 (i 500) (.real (i 0) (i 1000000)),
   w1 0x06 (i 0) (.real (i 0) (i 60)), w1 0x07 (i 0) (.enum [0, 1]), w1 0x08 (i 1) .any, w1 0x09 (i 0) .any,
   w1 0x0A (i 0) (.enum [0, 1])] ++
  [w1 0x20 (i 0) (.enum [0, 1]), w1 0x21 (i 0) (.real piN pi1), w1 0x22 ⟨1, -2⟩ (.real ⟨1, -6⟩ (i 1)),
   w1 0x23 (i 0) (.real (i (-1000)) (i 1000)), w1 0x24 (i 0) (.real (i (-1000)) (i 1000)),
   w1 0x25 (i 0) (.real (i (-1000)) (i 1000)), w1 0x26 ⟨2, -2⟩ (.real ⟨1, -4⟩ (i 1)), w1 0x27 ⟨5, -2⟩ (.real ⟨1, -3⟩ (i 5)),
   w1 0x28 (i 0) (.real (i 0) (i 60)), w1 0x29 (i 2) (.int 1 100), w1 0x2A (i 100) (.real (i 1) (i 10000)),
   w1 0x2B (i 1) (.enum [0, 1]), w1 0x2C (i 2) (.int 1 16)]

/-- R107, R330. -/
def rowsThermal : List PRow :=
  [w1 0x00 (i 0) (.enum [0, 86]), w1 0x01 (i 25) (.real (i (-55)) (i 150)),
   ⟨0x20, 86, 2, i 1, .real ⟨1, -4⟩ (i 1000000)⟩, ⟨0x21, 86, 2, i 1, .real ⟨1, -5⟩ (i 1000)⟩,
   w1 0xCC (i 40) (.real (i (-55)) (i 125)), w1 0xCD (i 40) (.real (i (-55)) (i 125)), w1 0xCE ⟨1, -2⟩ (.real (i 0) (i 1)),
   w1 0xCF (i 10) (.real (i 1) (i 50)), w1 0xD0 (i 1000) (.int 10 100000), w1 0xD1 (i 2) (.int 1 4)] ++
  [w1 0xD2 (i 150) (.real (i (-55)) (i 400)), w1 0xD3 (i 100) (.real (i (-55)) (i 400)),
   w1 0xD4 (i 160) (.real (i (-55)) (i 400)), w1 0xD5 (i 250) (.real (i (-55)) (i 400)),
   w1 0xD6 (i 500) (.real ⟨1, -2⟩ (i 100000)), w1 0xD7 (i 5) (.real ⟨1, -2⟩ (i 100000)),
   w1 0xD8 (i 20) (.real (i 0) (i 100)), w1 0xD9 ⟨5, -3⟩ (.real ⟨1, -4⟩ (i 1)), w1 0xDA ⟨5, -2⟩ (.real ⟨1, -2⟩ ⟨5, -1⟩),
   w1 0xDB ⟨2, -2⟩ (.real ⟨1, -3⟩ (i 10)), w1 0xDC (i 5) (.real ⟨5, -1⟩ (i 50)), w1 0xDD (i 15) (.real (i 0) (i 100))]

/-- R108, R314, R463. -/
def rowsRegulator : List PRow :=
  [w1 0x00 (i 24) (.real (i 12) (i 36)), w1 0x01 ⟨1, -2⟩ (.real (i 0) (i 1)), w1 0x02 (i 20) (.real (i 0) (i 10000)),
   w1 0x03 ⟨45, -2⟩ (.real (i 0) ⟨5, -1⟩)] ++
  [w1 0x20 (i 0) (.real (i 0) (i 10)), w1 0x21 (i 0) (.real (i 0) (i 10)), w1 0x22 ⟨1, -1⟩ (.real ⟨5, -3⟩ (i 2)),
   w1 0x23 (i 0) (.real (i 0) (i 10)), w1 0x24 (i 5) (.real ⟨1, -1⟩ (i 20)), w1 0x25 ⟨5, -2⟩ (.real ⟨1, -2⟩ (i 1)),
   w1 0x26 ⟨5, -1⟩ (.real (i 0) (i 10)), w1 0x27 (i 50) (.real (i 0) (i 10000)), w1 0x28 ⟨2, -4⟩ (.real ⟨5, -5⟩ ⟨1, -3⟩),
   w1 0x29 (i 1) (.real ⟨1, -2⟩ (i 10)), w1 0x2A (i 12) (.real (i 1) (i 50)), w1 0x2B (i 10) (.real ⟨1, -1⟩ (i 1000)),
   w1 0x2C (i 0) (.enum [0, 1]), w1 0x2D (i 0) (.real (i 0) (i 10)), w1 0x2E ⟨1, -2⟩ (.real ⟨1, -3⟩ (i 1)),
   w1 0x2F (i 3) (.int 1 3), w1 0x30 (i 0) (.real (i 0) (i 20000)), w1 0x31 (i 1000) (.real (i 1) (i 1000000)),
   w1 0x32 (i 1) (.real ⟨1, -1⟩ (i 10)), w1 0x33 (i 8) (.int 1 1000), w1 0x34 ⟨5, -1⟩ (.real ⟨1, -2⟩ (i 10))] ++
  [w1 0x40 (i 8) (.real (i 7) (i 11)), w1 0x41 (i 16) (.real (i 12) (i 18)), w1 0x42 (i 62) (.real (i 60) (i 64)),
   w1 0x43 ⟨85, -2⟩ (.real ⟨7, -1⟩ ⟨95, -2⟩), w1 0x44 ⟨115, -2⟩ (.real ⟨105, -2⟩ ⟨12, -1⟩),
   w1 0x45 ⟨1, -3⟩ (.real ⟨1, -4⟩ ⟨1, -2⟩), w1 0x46 ⟨2, -3⟩ (.real ⟨5, -4⟩ ⟨5, -3⟩),
   w1 0x47 (i 100000) (.real (i 50000) (i 250000)), w1 0x48 (i 0) (.enum [0, 1]), w1 0x49 ⟨5, -1⟩ (.real ⟨1, -1⟩ (i 1)),
   w1 0x4A ⟨2, -7⟩ (.real ⟨5, -8⟩ ⟨1, -6⟩)]

/-- The core words and tables of a form (R90). -/
def rowsForm : Form → List PRow
  | .foc => rowsFoc | .speed => rowsSpeed | .observer => rowsObs | .phases => rowsPhases | .link => rowsLink
  | .pfc => rowsPfc | .dab => rowsDab | .charge => rowsCharge | .position => rowsPosition | .thermal => rowsThermal
  | .regulator => rowsRegulator

/-- R93 and R70: the words every law cluster has. The longest `APPLY_DELAY` is a relation to the period (R70). -/
def rowsLaw (f : Form) : List PRow :=
  [w1 0xE0 (i 0) (.enum (if formExt f then [0, 1, 2, 3, 4, 5, 6] else [0])),
   w1 0xE1 (i 1) (.real (i (-1000000)) (i 1000000)), ⟨0xE2, 3, 1, i 0, .any⟩, w1 0xE5 (i 0) (.real (i 0) (i 1)),
   ⟨0xE6, 2, 1, i 0, .any⟩, w1 0xE8 ⟨1, -1⟩ (.real ⟨1, -3⟩ (i 1)), w1 0xE9 (i 0) (.enum [0, 1, 2]),
   w1 0xEA (i 0) (.real (i 0) (i 1000000000)), w1 0xEB ⟨1, -1⟩ (.real ⟨1, -4⟩ (i 10)),
   w1 0xEC (i 0) (.enum (if formFe f then [0, 1, 2] else [0])),
   w1 0xF0 ⟨5, -1⟩ (.real (i 0) ⟨999, -3⟩), w1 0xF1 ⟨formMin f, -7⟩ (.real ⟨formMin f, -7⟩ ⟨1, -2⟩)] ++ rowsForm f

/-- `TRIP_SRCk` (R172): 0, a comparator of a monitor, or a trip land. -/
def tripSrcVals : List Int :=
  0 :: ((List.range 48).map (fun n => (256 + n : Int)) ++ (List.range 48).map (fun n => (512 + n : Int)) ++ [768, 769])

/-- R172: words of every bridge. -/
def rowsBrgAll (b : BridgeId) : List PRow :=
  let hv := brgKind b = .hv
  [w1 0x00 (i 0) (.enum (if isDab b then [0, 1, 2] else [0, 1])),
   w1 0x01 ⟨(match b with | .sp2 => 25 | .sp3 => 50 | .sp4 => 75 | _ => 0), -2⟩ (.real (i 0) ⟨999, -3⟩),
   w1 0x02 ⟨2, -7⟩ (.real (i 0) ⟨2, -6⟩), w1 0x03 ⟨5, -7⟩ (.real ⟨2, -8⟩ ⟨1, -6⟩),
   w1 0x07 (i 0) (.enum (if hv then [0, 1] else [0])),
   w1 0x08 ⟨1, -6⟩ (.real ⟨15, -8⟩ ⟨32, -7⟩),
   (if brgKind b = .act then w1 0x09 (i 1) (.real ⟨25, -2⟩ (i 2)) else w1 0x09 (i 7) (.real (i 3) ⟨105, -1⟩)),
   w1 0x0B (i 8) (.int 1 255), w1 0x0C (i 1000) (.int 1 65535),
   ⟨0x0D, 4, 1, i 0, .enum tripSrcVals⟩,
   ⟨0x11, 4, 1, i 0, .enum (if (regSide (brgReg b)).isSome then [0, 1, 2, 3] else [0, 1, 2])⟩]

/-- R172: words of the high-voltage bridges alone. -/
def rowsBrgHv : List PRow :=
  [w1 0x04 ⟨1, -7⟩ (.real ⟨2, -8⟩ ⟨1, -6⟩), w1 0x05 ⟨1, -6⟩ (.real ⟨2, -8⟩ ⟨1, -6⟩), w1 0x06 ⟨2, -8⟩ (.real (i 0) ⟨2, -7⟩)]

/-- R172: words of the high-voltage bridges and `BRG.BCH`. -/
def rowsBrgGs : List PRow :=
  [w1 0x0A (i 9) (.real (i 6) (i 12)), w1 0x15 ⟨1, 10⟩ (.real ⟨1, 9⟩ ⟨1, 11⟩), w1 0x16 (i 0) (.enum [0, 1]),
   w1 0x17 (i 1) (.int 0 3), w1 0x18 ⟨1, -12⟩ (.real ⟨5, -13⟩ ⟨1, -11⟩), w1 0x19 ⟨135, -1⟩ (.real (i 12) (i 20)),
   w1 0x1A (i (-2)) (.real (i (-7)) (i 1)), w1 0x1B (i 3) (.real (i 1) (i 6))]

/-- R172: segment durations and strengths, from a first word. The active value of a duration stays as staged; the gate drive alone uses it
rounded to 5 ns (DESIGN CHOICE, log 95). -/
def rowsSeg (first n : Nat) : List PRow :=
  [⟨first, n, 2, i 0, .real (i 0) ⟨155, -9⟩⟩, ⟨first + 1, n, 2, i 16, .int 1 16⟩]

def rowsBrg (b : BridgeId) : List PRow :=
  match brgKind b with
  | .hv => rowsBrgAll b ++ rowsBrgHv ++ rowsBrgGs ++ rowsSeg 0x20 16
  | .bch => rowsBrgAll b ++ rowsBrgGs ++ rowsSeg 0x30 8
  | .act => rowsBrgAll b

/-- R198: words of a sense cluster with some channels and monitors. A sequence entry names a channel the cluster has. -/
def rowsSns (n : SnsId) : List PRow :=
  let ch := (snsChans n).length
  let mo := snsWins n
  [⟨0x00, 16, 4, i 0, .int 0 16⟩, ⟨0x01, 16, 4, ⟨2, -8⟩, .real ⟨2, -8⟩ ⟨1, -6⟩⟩, ⟨0x02, 16, 4, i 1, .enum [1, 2, 4, 8]⟩,
   ⟨0x03, 16, 4, i 0, .enum [0, 1, 2, 3]⟩, ⟨0x40, 3, 1, i 16, .int 0 16⟩, ⟨0x44, 3, 1, i 16, .int 0 16⟩,
   w1 0x48 (i 0) (.enum [0, 1]), w1 0x49 (i 1) (.int 1 256),
   ⟨0x50, ch, 8, i 1, .mag ⟨1, -6⟩ (i 1000000)⟩, ⟨0x51, ch, 8, i 0, .any⟩, ⟨0x52, ch, 8, i 0, .any⟩, ⟨0x53, ch, 8, i 0, .any⟩,
   ⟨0x54, ch, 8, i 0, .enum [0, 1]⟩] ++
  [⟨0xA0, mo, 8, i 0, .enum [0, 1]⟩, ⟨0xA1, mo, 8, i 3, .int 0 3⟩, ⟨0xA2, mo, 8, i 0, .any⟩, ⟨0xA3, mo, 8, i 0, .any⟩,
   ⟨0xA4, mo, 8, i 0, .enum [0, 1, 2, 3]⟩, ⟨0xA5, mo, 8, i 1, .int 1 15⟩, ⟨0xA6, mo, 8, i 1, .int 1 15⟩,
   ⟨0xA7, mo, 8, i 0, .enum [0, 1]⟩]

/-- R230. -/
def rowsTraction : List PRow :=
  [w1 0x00 (i 0) (.enum [0, 1]), w1 0x01 ⟨85, -2⟩ (.real ⟨3, -1⟩ ⟨15, -1⟩), w1 0x02 (i 0) (.enum [0, 1]),
   w1 0x03 ⟨8, -1⟩ (.real (i 0) (i 1)), w1 0x04 ⟨3, -1⟩ (.real (i 0) (i 1)), w1 0x05 (i 8) (.int 1 1000),
   w1 0x06 (i 16) (.int 1 1000), w1 0x07 ⟨5, -1⟩ (.real ⟨1, -2⟩ (i 10)), w1 0x08 (i 0) (.enum [0, 1]),
   w1 0x09 (i 0) (.real piN pi1), w1 0x0A ⟨85, -2⟩ (.real ⟨1, -1⟩ (i 1)), w1 0x0B ⟨115, -2⟩ (.real (i 1) (i 3)),
   w1 0x0C ⟨5, -1⟩ (.real ⟨1, -2⟩ (i 60)), w1 0x0D (i 1) (.enum [0, 1, 2]), w1 0x0E (i 200) (.real (i 1) (i 10000)),
   w1 0x0F ⟨1, -6⟩ (.real (i 0) ⟨5, -6⟩), w1 0x10 ⟨4, -7⟩ (.real (i 0) ⟨5, -6⟩), w1 0x11 (i 0) (.real (i 0) (i 2000)),
   w1 0x12 (i 0) (.real (i 0) (i 5000)), w1 0x13 (i 100) (.real (i 1) (i 100000)), w1 0x14 (i 16) (.int 1 1000)]

/-- R260. -/
def rowsSpan : List PRow :=
  [w1 0x00 (i 0) (.enum [0, 1]), w1 0x01 (i 10) (.real (i 1) (i 100)), w1 0x02 (i 10) (.real (i 1) (i 100)),
   w1 0x03 (i 0) (.enum [0, 1]), w1 0x04 (i 5) (.real (i 0) (i 100)), w1 0x05 (i 10) (.real (i 1) (i 100)),
   w1 0x06 (i 20) (.real (i 0) (i 200)), w1 0x07 (i 30) (.real (i 10) (i 200)), w1 0x08 ⟨12, -7⟩ (.real ⟨2, -7⟩ ⟨2, -6⟩),
   w1 0x09 ⟨2, -1⟩ (.real (i 0) (i 1)), w1 0x0A (i 50) (.real (i 10) (i 200)), w1 0x0B (i 5) (.real ⟨1, -1⟩ (i 60)),
   w1 0x0C (i 10) (.real (i 1) (i 100)), w1 0x0D (i 2) (.int 1 4)]

/-- R288. -/
def rowsCharger : List PRow :=
  [w1 0x00 (i 0) (.real (i 0) (i 125)), w1 0x01 (i 0) (.real (i 0) (i 80)), w1 0x02 (i 0) (.real (i 0) (i 80)),
   w1 0x03 (i 180) (.real (i 100) (i 300)), w1 0x04 (i 2) (.real ⟨1, -1⟩ (i 10)), w1 0x05 (i 10) (.real (i 1) (i 1000)),
   w1 0x06 ⟨92, -2⟩ (.real ⟨5, -1⟩ (i 1)), w1 0x07 (i 0) (.real (i 0) (i 200)), w1 0x08 (i 0) (.real (i 0) (i 1000)),
   w1 0x09 (i 0) (.real (i 0) (i 1000)), w1 0x0A (i 0) (.real (i 0) (i 1000)), w1 0x0B (i 20) (.real (i 1) (i 100)),
   w1 0x0C (i 1000) (.real (i 1) (i 100000)), w1 0x0D (i 0) (.real (i 0) (i 100000)),
   w1 0x0E (i 28800) (.real (i 60) (i 172800)), w1 0x0F (i 5) (.real (i 0) (i 200)), w1 0x10 (i 60) (.real (i 1) (i 3600)),
   w1 0x11 (i 20) (.real (i 1) (i 200)), w1 0x12 (i 2) (.real ⟨5, -1⟩ (i 50)), w1 0x13 (i 4) (.int 1 100),
   w1 0x14 (i 0) (.real (i 0) (i 1200)), w1 0x15 (i 5) (.real (i 0) (i 1000)), w1 0x16 (i 500) (.real (i 0) (i 1000000))]

/-- R331: the energy words of the four switch types; type ty at 0x24 ty. -/
def rowsEnergy : List PRow :=
  [0x00, 0x24, 0x48, 0x6C].flatMap (fun t =>
    [⟨t, 32, 1, i 0, .real (i 0) (i 10)⟩, w1 (t + 0x20) (i 1) (.real (i 1) (i 4000)), w1 (t + 0x21) (i 1) (.real (i 1) (i 1500)),
     w1 (t + 0x22) (i 0) (.real (i 0) (i 5)), w1 (t + 0x23) (i 0) (.real (i 0) (i 1))])

/-- R434. -/
def rowsCan : List PRow :=
  [w1 0x00 (i 0) (.enum [0, 1]), w1 0x01 (i 0) (.enum [0, 1]), w1 0x02 (i 1) (.int 1 32), w1 0x03 (i 63) (.int 2 256),
   w1 0x04 (i 16) (.int 1 128), w1 0x05 (i 16) (.int 1 128), w1 0x06 (i 1) (.int 1 32), w1 0x07 (i 15) (.int 1 32),
   w1 0x08 (i 4) (.int 1 16), w1 0x09 (i 4) (.int 1 16), w1 0x0A (i 0) (.enum [0, 1]), w1 0x0B (i 0) (.int 0 127),
   w1 0x0C (i 0) (.enum [0, 1]), w1 0x0D (i 15) (.int 0 15)] ++
  [⟨0x20, 32, 4, i 0, .enum [0, 1]⟩, ⟨0x21, 32, 4, i 0, .raw 29⟩, ⟨0x22, 32, 4, i 0, .raw 29⟩, ⟨0x23, 32, 4, i 0, .int 0 35⟩]

/-- R435: `CHKn` at 4n. -/
def rowsChk : List PRow :=
  [⟨0, 8, 4, i 0, .int 0 6⟩, ⟨1, 8, 4, i 4, .int 0 4⟩, ⟨2, 8, 4, i 0, .enum [0, 4, 8]⟩, ⟨3, 8, 4, i 1, .enum [0, 1]⟩]

/-- R412. -/
def rowsHawser : List PRow :=
  [w1 0x00 (i 0) (.enum [0, 1]), w1 0x01 ⟨5, -1⟩ (.real ⟨1, -1⟩ ⟨9, -1⟩), w1 0x02 ⟨5, -1⟩ (.real (i 0) (i 1)),
   w1 0x03 ⟨1, -5⟩ (.real ⟨4, -6⟩ ⟨1, -4⟩), w1 0x04 ⟨2, -6⟩ (.real ⟨1, -6⟩ ⟨1, -4⟩), w1 0x05 (i 0) (.real (i 0) ⟨999, -3⟩),
   w1 0x06 (i 0) (.real (i 0) ⟨999, -3⟩), w1 0x07 ⟨5, -2⟩ (.real ⟨1, -3⟩ (i 1)), w1 0x08 ⟨2, -2⟩ (.real ⟨1, -3⟩ (i 1)),
   w1 0x09 (i 1) (.enum [0, 1])]

/-- The table of a bank holder. -/
def cluRows : Clu → List PRow
  | .law l => rowsLaw (lawForm l)
  | .sns n => rowsSns n
  | .brg b => rowsBrg b
  | .can _ => rowsCan
  | .check => rowsChk
  | .hawser => rowsHawser
  | .common .tra => rowsTraction
  | .common .trb => rowsTraction
  | .common .spn => rowsSpan
  | .common .chg => rowsCharger
  | .common .sup => rowsEnergy
  | .common .hst => []
  | .common .act => []
  | .host => [] | .tide => [] | .brake => [] | .selfTest => [] | .gatePower => []

/-- The row that defines a word. -/
def findRow : List PRow → Nat → Option PRow
  | [], _ => none
  | r :: rs, w => if r.first ≤ w ∧ (w - r.first) % r.step = 0 ∧ (w - r.first) / r.step < r.n then some r else findRow rs w

/-- The row of a parameter ID; none for an unused one (R47). -/
def parRow (id : Nat) : Option PRow :=
  match idClu id with
  | none => none
  | some c => findRow (cluRows c) (idWord id)

/-- Raw words hold integers (R8); every other word a binary32 value. -/
def rowReset (r : PRow) : Word :=
  match r.rng with
  | .raw _ => BitVec.ofInt 32 r.reset.m
  | _ => r.reset.f

/-- The reset value of an ID; zero for an unused one (R48). -/
def parReset (id : Nat) : Word :=
  match parRow id with
  | none => 0
  | some r => rowReset r

/-- A subnormal word as the least normal number of its sign: no bound of a row lies between the two, so that a range takes both or neither,
and neither is integral. A law engine reads it as zero (R82); a row judges the binary32 value it is (R371). -/
def asNormal (v : F32) : F32 := if v.toNat % 0x80000000 ≠ 0 ∧ v.toNat % 0x80000000 < 0x800000 then (v &&& 0x80000000) ||| 0x800000 else v

/-- Does a row accept a staged value (R86, R371)? The bounds are compared as binary32. -/
def rngOk (r : Rng) (w : Word) : Bool :=
  let v := asNormal w
  match r with
  | .any => F.isFinite v
  | .real lo hi => F.isFinite v && F.le lo.f v && F.le v hi.f
  | .mag lo hi => F.isFinite v && F.le lo.f (F.abs v) && F.le (F.abs v) hi.f
  | .int lo hi => F.isIntegral v && decide (lo ≤ F.toInt v) && decide (F.toInt v ≤ hi)
  | .enum vals => F.isIntegral v && vals.contains (F.toInt v)
  | .raw bits => decide (w.toNat < 2 ^ bits)

/-- Number of IDs a table defines. -/
def rowsCount (rs : List PRow) : Nat := rs.foldl (fun a r => a + r.n) 0

/-- Every bank holder: cluster or region store (R366). -/
def allHolders : List Clu :=
  allRegs.flatMap (fun r => (List.range 16).filterMap (fun n => cluOf r n))

/-- The number of defined IDs (R47). -/
def paramCount : Nat := allHolders.foldl (fun a c => a + rowsCount (cluRows c)) 0

end Sys2Proof.Machine
end

