-- ==== Sys2Proof/Machine/Access.lean ====
section
/-! DEFINITION. Reading and updating the units of the state by their names. Every other file goes through these. -/

namespace Sys2Proof.Machine

def State.reg (s : State) (r : RegionId) : Region := s.regions[rIx r]
def State.modReg (s : State) (r : RegionId) (f : Region → Region) : State :=
  { s with regions := s.regions.set (rIx r) (f (s.reg r)) }

def State.law (s : State) (l : LawId) : Law := s.laws[l]
def State.modLaw (s : State) (l : LawId) (f : Law → Law) : State := { s with laws := s.laws.set l (f (s.law l)) }

def State.brg (s : State) (b : BridgeId) : Bridge := s.bridges[bIx b]
def State.modBrg (s : State) (b : BridgeId) (f : Bridge → Bridge) : State :=
  { s with bridges := s.bridges.set (bIx b) (f (s.brg b)) }

def State.gate (s : State) (g : GsId) : Gate := s.gates[g]
def State.modGate (s : State) (g : GsId) (f : Gate → Gate) : State := { s with gates := s.gates.set g (f (s.gate g)) }

def State.chan (s : State) (c : ChanId) : Chan := s.chans[c]
def State.modChan (s : State) (c : ChanId) (f : Chan → Chan) : State := { s with chans := s.chans.set c (f (s.chan c)) }

def State.snsC (s : State) (n : SnsId) : Sns := s.sns[n]
def State.modSns (s : State) (n : SnsId) (f : Sns → Sns) : State := { s with sns := s.sns.set n (f (s.snsC n)) }

def State.win (s : State) (w : WinId) : Win := s.wins[w]
def State.modWin (s : State) (w : WinId) (f : Win → Win) : State := { s with wins := s.wins.set w (f (s.win w)) }

def State.wst (s : State) (k : Fin 3) : Wst := s.wsts[k]
def State.modWst (s : State) (k : Fin 3) (f : Wst → Wst) : State := { s with wsts := s.wsts.set k (f (s.wst k)) }

def State.tr (s : State) (x : Side) : Traction := s.tracts[sIx x]
def State.modTr (s : State) (x : Side) (f : Traction → Traction) : State :=
  { s with tracts := s.tracts.set (sIx x) (f (s.tr x)) }

def State.actu (s : State) (a : ActId) : Actuator := s.acts[a]
def State.modAct (s : State) (a : ActId) (f : Actuator → Actuator) : State := { s with acts := s.acts.set a (f (s.actu a)) }

def State.can (s : State) (c : CanId) : Can := s.cans[c]
def State.modCan (s : State) (c : CanId) (f : Can → Can) : State := { s with cans := s.cans.set c (f (s.can c)) }

def State.chk (s : State) (n : ChkId) : Chk := s.chks[n]
def State.modChk (s : State) (n : ChkId) (f : Chk → Chk) : State := { s with chks := s.chks.set n (f (s.chk n)) }

def State.slot (s : State) (k : SlotId) : Slot := s.txn.slots[k]
def State.modSlot (s : State) (k : SlotId) (f : Slot → Slot) : State :=
  { s with txn := { s.txn with slots := s.txn.slots.set k (f (s.slot k)) } }

def State.ring (s : State) (n : RingId) : RingSt := s.host.rings[n]
def State.modRing (s : State) (n : RingId) (f : RingSt → RingSt) : State :=
  { s with host := { s.host with rings := s.host.rings.set n (f (s.ring n)) } }

/-- The updates of whole blocks. -/
def State.modPower (s : State) (f : Power → Power) : State := { s with power := f s.power }
def State.modTim (s : State) (f : Timing → Timing) : State := { s with tim := f s.tim }
def State.modSpan (s : State) (f : Span → Span) : State := { s with span := f s.span }
def State.modChg (s : State) (f : Charger → Charger) : State := { s with chg := f s.chg }
def State.modBrake (s : State) (f : Brake → Brake) : State := { s with brake := f s.brake }
def State.modSto (s : State) (f : Sto → Sto) : State := { s with sto := f s.sto }
def State.modTherm (s : State) (f : Thermal → Thermal) : State := { s with therm := f s.therm }
def State.modHost (s : State) (f : HostIf → HostIf) : State := { s with host := f s.host }
def State.modTxn (s : State) (f : Txn → Txn) : State := { s with txn := f s.txn }
def State.modHaws (s : State) (f : Hawser → Hawser) : State := { s with haws := f s.haws }
def State.modWash (s : State) (f : Wash → Wash) : State := { s with wash := f s.wash }
def State.modSt (s : State) (f : SelfTest → SelfTest) : State := { s with st := f s.st }
def State.modDbg (s : State) (f : Debug → Debug) : State := { s with dbg := f s.dbg }

/-- Apply an update for each element of a list, in order. -/
def each {α : Type} (xs : List α) (f : State → α → State) (s : State) : State := xs.foldl f s

/-! ### Parameters (R48) -/

/-- The active value of a parameter. -/
def State.par (s : State) (id : Nat) : Word := mapGet parReset s.params id
/-- The active value of an integer parameter. -/
def State.parN (s : State) (id : Nat) : Nat := F.toNat (s.par id)
/-- An integer parameter that is 1. -/
def State.parOn (s : State) (id : Nat) : Bool := decide (F.toInt (s.par id) = 1)

/-- A word of a law cluster, bridge, sense cluster, region store. -/
def State.lawP (s : State) (l : LawId) (w : Nat) : F32 := s.par (lawId l w)
def State.brgP (s : State) (b : BridgeId) (w : Nat) : F32 := s.par (brgId b w)
def State.comP (s : State) (r : RegionId) (w : Nat) : F32 := s.par (comId r w)

/-! ### Free values -/

/-- Draw a fresh free word (log 2). -/
def State.draw (s : State) : Word × State := (Config.freeWord s.free, { s with free := s.free + 1 })

/-- Draw a fresh free bit (log 2). -/
def State.drawBit (s : State) : Bool × State := (Config.freeBit s.free, { s with free := s.free + 1 })

/-- Vectors of a fixed small length. -/
def vec3 {α : Type} (a b c : α) : Vector α 3 := #v[a, b, c]
def triGet {α : Type} (t : Tri α) (k : RepId) : α := if k.val = 0 then t.r0 else if k.val = 1 then t.r1 else t.r2
def triList {α : Type} (t : Tri α) : List α := [t.r0, t.r1, t.r2]

end Sys2Proof.Machine
end

