-- ==== Sys2Proof/Machine/Causes.lean ====
section
/-! DEFINITION. The cause table (R438): every cause's number, level and reaction class, as the subject chapters give them. A
cause whose class varies has its weakest one here, and the meaning that raises it names the class it took. -/

namespace Sys2Proof.Machine

/-- A cause: its number, the level at which it arises and its reaction class (R49, R22). -/
structure Cause where
  num : Nat
  lvl : Nat
  cls : RClass
deriving DecidableEq, Repr

/-- The 16-bit code of R49. -/
def codeOf (lvl reg num : Nat) : Half := BitVec.ofNat 16 (lvl * 8192 + reg * 1024 + num)

/-- R439: LIMIT; brownout hold -/
def evVsupWarn : Cause := ⟨0x000, 4, .limit⟩
/-- R439: NOTE; brownout hold ends -/
def evVsupResumed : Cause := ⟨0x001, 4, .note⟩
/-- R439: NOTE -/
def evResetCause : Cause := ⟨0x002, 4, .note⟩
/-- R439: DEVICE-SAFE -/
def evVioFault : Cause := ⟨0x003, 4, .deviceSafe⟩
/-- R439: DEVICE-SAFE -/
def evVrefFault : Cause := ⟨0x004, 4, .deviceSafe⟩
/-- R439: REGION-SAFE -/
def evVmUv : Cause := ⟨0x005, 2, .regionSafe⟩
/-- R439: REGION-SAFE -/
def evVmOv : Cause := ⟨0x006, 2, .regionSafe⟩
/-- R439: REGION-SAFE of SUP, hence DEVICE-SAFE -/
def evGpRailFault : Cause := ⟨0x007, 1, .regionSafe⟩
/-- R439: NOTE -/
def evReady : Cause := ⟨0x008, 4, .note⟩
/-- R439: reaction of the cluster under R21 -/
def evStartCheckFail : Cause := ⟨0x009, 1, .note⟩
/-- R439: REGION-SAFE -/
def evDieALost : Cause := ⟨0x00A, 3, .regionSafe⟩
/-- R439: DEVICE-SAFE -/
def evDieCFault : Cause := ⟨0x00B, 3, .deviceSafe⟩
/-- R439: NOTE -/
def evResetRefused : Cause := ⟨0x00C, 2, .note⟩
/-- R439: NOTE -/
def evRegionResetDone : Cause := ⟨0x00D, 2, .note⟩
/-- R439: REGION-SAFE -/
def evRegionSafeEntered : Cause := ⟨0x00E, 2, .regionSafe⟩
/-- R439: DEVICE-SAFE -/
def evDeviceSafeEntered : Cause := ⟨0x00F, 4, .deviceSafe⟩
/-- R439: NOTE -/
def evTestmodeEntered : Cause := ⟨0x010, 4, .note⟩
/-- R81: DEVICE-SAFE -/
def evRefLost : Cause := ⟨0x040, 4, .deviceSafe⟩
/-- R81: reaction of the cluster under R21 -/
def evIslandUnlock : Cause := ⟨0x041, 1, .note⟩
/-- R81: REGION-SAFE of SUP, hence DEVICE-SAFE -/
def evMarkLost : Cause := ⟨0x042, 1, .regionSafe⟩
/-- R81: REGION-SAFE -/
def evOutputLate : Cause := ⟨0x043, 1, .regionSafe⟩
/-- R81: NOTE -/
def evPeriodRefused : Cause := ⟨0x044, 2, .note⟩
/-- R81: NOTE -/
def evSyncInLost : Cause := ⟨0x045, 2, .note⟩
/-- R81: NOTE -/
def evSyncInFar : Cause := ⟨0x046, 2, .note⟩
/-- R81: NOTE -/
def evTimingBridgeMoved : Cause := ⟨0x047, 2, .note⟩
/-- R109: NOTE or REGION-SAFE, per FE_REACT -/
def evFollowErr : Cause := ⟨0x080, 1, .note⟩
/-- R109: NOTE; the set-point follows SP_FALLBACK -/
def evSpSourceLost : Cause := ⟨0x081, 1, .note⟩
/-- R109: NOTE -/
def evSpSourceBack : Cause := ⟨0x082, 1, .note⟩
/-- R109: REGION-SAFE -/
def evLawNonfinite : Cause := ⟨0x083, 1, .regionSafe⟩
/-- R134: NOTE; darning under R122 -/
def evReplicaOdd : Cause := ⟨0x084, 0, .note⟩
/-- R134: NOTE; darning under R122 -/
def evReplicaLate : Cause := ⟨0x085, 0, .note⟩
/-- R134: NOTE; darning under R122 -/
def evInputSpread : Cause := ⟨0x086, 0, .note⟩
/-- R134: NOTE -/
def evDarnDone : Cause := ⟨0x087, 0, .note⟩
/-- R134: NOTE; replica retired -/
def evDarnFailed : Cause := ⟨0x088, 0, .note⟩
/-- R134: NOTE; triad duplex until region reset -/
def evReplicaRetired : Cause := ⟨0x089, 0, .note⟩
/-- R134: REGION-SAFE -/
def evTriadSplit : Cause := ⟨0x08A, 1, .regionSafe⟩
/-- R134: REGION-SAFE -/
def evDuplexMismatch : Cause := ⟨0x08B, 1, .regionSafe⟩
/-- R134: REGION-SAFE -/
def evVoterMismatch : Cause := ⟨0x08C, 1, .regionSafe⟩
/-- R134: NOTE -/
def evHaltRefused : Cause := ⟨0x08D, 1, .note⟩
/-- R134: NOTE -/
def evDebugHalted : Cause := ⟨0x08E, 1, .note⟩
/-- R134: NOTE -/
def evRegionHalted : Cause := ⟨0x08F, 2, .note⟩
/-- R134: NOTE -/
def evRegionHaltRefused : Cause := ⟨0x090, 2, .note⟩
/-- R174: ISOLATE -/
def evPwmMismatch : Cause := ⟨0x0C0, 1, .isolate⟩
/-- R174: NOTE -/
def evArmRefused : Cause := ⟨0x0C1, 1, .note⟩
/-- R174: NOTE -/
def evTripCbc : Cause := ⟨0x0C2, 1, .note⟩
/-- R174: ISOLATE -/
def evTripLatched : Cause := ⟨0x0C3, 1, .isolate⟩
/-- R174: ISOLATE -/
def evShootCmd : Cause := ⟨0x0C4, 1, .isolate⟩
/-- R174: ISOLATE -/
def evShootGs : Cause := ⟨0x0C5, 1, .isolate⟩
/-- R174: ISOLATE -/
def evPairlinkLost : Cause := ⟨0x0C6, 1, .isolate⟩
/-- R174: ISOLATE -/
def evDesat : Cause := ⟨0x0C7, 1, .isolate⟩
/-- R174: ISOLATE -/
def evGsVpUv : Cause := ⟨0x0C8, 3, .isolate⟩
/-- R174: ISOLATE -/
def evGsVnUv : Cause := ⟨0x0C9, 3, .isolate⟩
/-- R174: ISOLATE -/
def evGsLost : Cause := ⟨0x0CA, 3, .isolate⟩
/-- R174: ISOLATE of its bridge -/
def evGsDriveFault : Cause := ⟨0x0CB, 0, .isolate⟩
/-- R174: NOTE -/
def evDtAtLimit : Cause := ⟨0x0CC, 1, .note⟩
/-- R174: NOTE -/
def evDvdtAtLimit : Cause := ⟨0x0CD, 1, .note⟩
/-- R174: ISOLATE; actuator FREE -/
def evBstUv : Cause := ⟨0x0CE, 1, .isolate⟩
/-- R174: LIMIT -/
def evCpFault : Cause := ⟨0x0CF, 2, .limit⟩
/-- R174: ISOLATE; actuator FREE -/
def evVdsAct : Cause := ⟨0x0D0, 1, .isolate⟩
/-- R174: NOTE -/
def evTripAsc : Cause := ⟨0x0D1, 1, .note⟩
/-- R174: NOTE -/
def evBrgHalted : Cause := ⟨0x0D2, 1, .note⟩
/-- R174: NOTE -/
def evBrgHaltRefused : Cause := ⟨0x0D3, 1, .note⟩
/-- R174: NOTE -/
def evIsolateCleared : Cause := ⟨0x0D4, 1, .note⟩
/-- R201: NOTE -/
def evSnsOverrange : Cause := ⟨0x140, 0, .note⟩
/-- R201: NOTE -/
def evSnsBand : Cause := ⟨0x141, 0, .note⟩
/-- R201: NOTE -/
def evWinHit : Cause := ⟨0x142, 0, .note⟩
/-- R201: NOTE; member masked by its stand-in -/
def evWinCheckFail : Cause := ⟨0x143, 0, .note⟩
/-- R201: NOTE; group checks stopped -/
def evStandinFail : Cause := ⟨0x144, 1, .note⟩
/-- R201: NOTE -/
def evWinCheckStopped : Cause := ⟨0x145, 1, .note⟩
/-- R201: REGION-SAFE if the monitor is enabled; otherwise NOTE -/
def evWinDacFail : Cause := ⟨0x146, 0, .regionSafe⟩
/-- R201: REGION-SAFE -/
def evAdcCheckFail : Cause := ⟨0x147, 1, .regionSafe⟩
/-- R201: REGION-SAFE -/
def evStrobeCollide : Cause := ⟨0x148, 1, .regionSafe⟩
/-- R201: NOTE -/
def evLqOverflow : Cause := ⟨0x149, 1, .note⟩
/-- R234: LIMIT; ASC or FREE, then CATCH -/
def evRotorLost : Cause := ⟨0x180, 2, .limit⟩
/-- R234: NOTE -/
def evRotorCaught : Cause := ⟨0x181, 2, .note⟩
/-- R234: NOTE -/
def evCatchStandstill : Cause := ⟨0x182, 2, .note⟩
/-- R234: REGION-SAFE -/
def evCatchFailed : Cause := ⟨0x183, 2, .regionSafe⟩
/-- R234: NOTE -/
def evSafeChoice : Cause := ⟨0x184, 2, .note⟩
/-- R234: NOTE -/
def evAscPartial : Cause := ⟨0x185, 2, .note⟩
/-- R234: per FLUX_REACT -/
def evFluxLow : Cause := ⟨0x186, 2, .note⟩
/-- R234: per FLUX_REACT -/
def evFluxHigh : Cause := ⟨0x187, 2, .note⟩
/-- R234: NOTE, or as ROTOR_LOST with ENC_FALLBACK = 0 -/
def evEncMismatch : Cause := ⟨0x188, 1, .note⟩
/-- R234: NOTE, or as ROTOR_LOST with ENC_FALLBACK = 0 -/
def evEncFault : Cause := ⟨0x189, 1, .note⟩
/-- R234: NOTE -/
def evReversalHeld : Cause := ⟨0x18A, 2, .note⟩
/-- R234: LIMIT -/
def evVecPartnerLost : Cause := ⟨0x18B, 2, .limit⟩
/-- R234: NOTE -/
def evModeRefused : Cause := ⟨0x18C, 2, .note⟩
/-- R234: NOTE -/
def evQuietMiss : Cause := ⟨0x18D, 1, .note⟩
/-- R234: REGION-SAFE -/
def evCurrentOverrange : Cause := ⟨0x18E, 1, .regionSafe⟩
/-- R234: LIMIT; ASC or FREE -/
def evLinkUntrusted : Cause := ⟨0x18F, 2, .limit⟩
/-- R234: LIMIT; ASC or FREE -/
def evPhaseIsolated : Cause := ⟨0x190, 2, .limit⟩
/-- R234: NOTE -/
def evTorqueBlocked : Cause := ⟨0x191, 2, .note⟩
/-- R441: NOTE; torque limits zero under R455 -/
def evBrakeClamp : Cause := ⟨0x192, 2, .note⟩
/-- R265: NOTE -/
def evSpnModeRefused : Cause := ⟨0x1C0, 2, .note⟩
/-- R265: ISOLATE; start refused -/
def evHsShort : Cause := ⟨0x1C1, 1, .isolate⟩
/-- R265: NOTE -/
def evStartTestDone : Cause := ⟨0x1C2, 2, .note⟩
/-- R265: NOTE -/
def evPhaseShed : Cause := ⟨0x1C3, 2, .note⟩
/-- R265: NOTE -/
def evPhaseAdded : Cause := ⟨0x1C4, 2, .note⟩
/-- R265: NOTE -/
def evShedAborted : Cause := ⟨0x1C5, 2, .note⟩
/-- R265: NOTE -/
def evBypassEntered : Cause := ⟨0x1C6, 2, .note⟩
/-- R265: NOTE -/
def evBypassLeft : Cause := ⟨0x1C7, 2, .note⟩
/-- R265: LIMIT -/
def evOvWarn : Cause := ⟨0x1C8, 2, .limit⟩
/-- R265: LIMIT -/
def evOvHold : Cause := ⟨0x1C9, 2, .limit⟩
/-- R265: LIMIT; traction ASC by trip, PFC held off -/
def evOvTrip : Cause := ⟨0x1CA, 2, .limit⟩
/-- R265: ISOLATE -/
def evChopperOpen : Cause := ⟨0x1CB, 1, .isolate⟩
/-- R265: ISOLATE -/
def evChopperConducts : Cause := ⟨0x1CC, 1, .isolate⟩
/-- R265: LIMIT -/
def evLinkSag : Cause := ⟨0x1CD, 2, .limit⟩
/-- R265: LIMIT; REGION-SAFE below N_PH_MIN in STANDBY, REGULATE or BYPASS, under R251 -/
def evSpnPhaseLost : Cause := ⟨0x1CE, 2, .limit⟩
/-- R265: NOTE -/
def evDischargeDone : Cause := ⟨0x1CF, 2, .note⟩
/-- R265: NOTE -/
def evDischargeFail : Cause := ⟨0x1D0, 2, .note⟩
/-- R265: NOTE -/
def evExtSyncLost : Cause := ⟨0x1D1, 2, .note⟩
/-- R265: NOTE -/
def evExtSyncSuspended : Cause := ⟨0x1D2, 2, .note⟩
/-- R290: NOTE -/
def evChgModeRefused : Cause := ⟨0x200, 2, .note⟩
/-- R290: NOTE -/
def evSourceValid : Cause := ⟨0x201, 2, .note⟩
/-- R290: LIMIT -/
def evSourceLost : Cause := ⟨0x202, 2, .limit⟩
/-- R290: NOTE -/
def evCpInvalid : Cause := ⟨0x203, 2, .note⟩
/-- R290: NOTE -/
def evPpInvalid : Cause := ⟨0x204, 2, .note⟩
/-- R290: NOTE -/
def evPhaseCountBad : Cause := ⟨0x205, 2, .note⟩
/-- R290: NOTE -/
def evSessionStart : Cause := ⟨0x206, 2, .note⟩
/-- R290: NOTE -/
def evChargeCv : Cause := ⟨0x207, 2, .note⟩
/-- R290: NOTE -/
def evChargeDone : Cause := ⟨0x208, 2, .note⟩
/-- R290: NOTE; session ended -/
def evChgTimerExpired : Cause := ⟨0x209, 2, .note⟩
/-- R290: LIMIT; battery limits zero, link held by the DAB -/
def evBatteryAbsent : Cause := ⟨0x20A, 2, .limit⟩
/-- R290: LIMIT; CHG to OFF -/
def evPeerFault : Cause := ⟨0x20B, 2, .limit⟩
/-- R290: REGION-SAFE -/
def evChgBusOv : Cause := ⟨0x20C, 2, .regionSafe⟩
/-- R290: REGION-SAFE -/
def evChgBridgeLost : Cause := ⟨0x20D, 2, .regionSafe⟩
/-- R441: NOTE; power path as under R456 -/
def evChgSpanWait : Cause := ⟨0x20E, 2, .note⟩
/-- R319: NOTE -/
def evActModeRefused : Cause := ⟨0x240, 2, .note⟩
/-- R319: LIMIT; actuator FREE -/
def evHallFault : Cause := ⟨0x241, 1, .limit⟩
/-- R319: NOTE -/
def evActParked : Cause := ⟨0x242, 2, .note⟩
/-- R319: NOTE -/
def evParkSlip : Cause := ⟨0x243, 2, .note⟩
/-- R319: NOTE -/
def evBrkReleased : Cause := ⟨0x250, 1, .note⟩
/-- R319: NOTE -/
def evBrkApplied : Cause := ⟨0x251, 1, .note⟩
/-- R319: NOTE -/
def evBrkAppliedMoving : Cause := ⟨0x252, 1, .note⟩
/-- R319: NOTE -/
def evBrkReleaseRefused : Cause := ⟨0x253, 1, .note⟩
/-- R319: REGION-SAFE of SUP, hence DEVICE-SAFE -/
def evBrkPullFail : Cause := ⟨0x254, 1, .regionSafe⟩
/-- R319: REGION-SAFE of SUP, hence DEVICE-SAFE -/
def evBrkReadbackFail : Cause := ⟨0x255, 1, .regionSafe⟩
/-- R319: REGION-SAFE of SUP, hence DEVICE-SAFE -/
def evBrkCoilOpen : Cause := ⟨0x256, 1, .regionSafe⟩
/-- R319: REGION-SAFE of SUP, hence DEVICE-SAFE -/
def evBrkOvercurrent : Cause := ⟨0x257, 1, .regionSafe⟩
/-- R319: NOTE -/
def evBrakeTestPass : Cause := ⟨0x258, 2, .note⟩
/-- R319: LIMIT; release refused -/
def evBrakeTestFail : Cause := ⟨0x259, 2, .limit⟩
/-- R319: NOTE -/
def evBrakeTestAborted : Cause := ⟨0x25A, 2, .note⟩
/-- R319: NOTE -/
def evBrakeTestRefused : Cause := ⟨0x25B, 2, .note⟩
/-- R319: LIMIT; traction and span gates off -/
def evSafeEnBlock : Cause := ⟨0x260, 2, .limit⟩
/-- R319: NOTE -/
def evSafeEnRelease : Cause := ⟨0x261, 2, .note⟩
/-- R319: LIMIT; block latched -/
def evSafeEnDiscrepancy : Cause := ⟨0x262, 2, .limit⟩
/-- R319: REGION-SAFE of SUP, hence DEVICE-SAFE -/
def evStoPathFault : Cause := ⟨0x263, 1, .regionSafe⟩
/-- R333: LIMIT -/
def evThermalThrottle : Cause := ⟨0x280, 2, .limit⟩
/-- R333: LIMIT -/
def evThermalRise : Cause := ⟨0x281, 2, .limit⟩
/-- R333: NOTE -/
def evThermalRestored : Cause := ⟨0x282, 2, .note⟩
/-- R333: REGION-SAFE -/
def evThermalTrip : Cause := ⟨0x283, 2, .regionSafe⟩
/-- R333: NOTE; model substituted -/
def evSensBroken : Cause := ⟨0x284, 2, .note⟩
/-- R333: NOTE -/
def evSensRestored : Cause := ⟨0x285, 2, .note⟩
/-- R333: NOTE -/
def evModelDrift : Cause := ⟨0x286, 2, .note⟩
/-- R333: REGION-SAFE of SUP, hence DEVICE-SAFE -/
def evResOverheat : Cause := ⟨0x287, 1, .regionSafe⟩
/-- R365: LIMIT; host-loss reaction of R347 -/
def evHostLost : Cause := ⟨0x2A0, 2, .limit⟩
/-- R365: NOTE -/
def evHostBack : Cause := ⟨0x2A1, 2, .note⟩
/-- R365: NOTE -/
def evManifestBad : Cause := ⟨0x2A2, 1, .note⟩
/-- R365: NOTE -/
def evManifestLate : Cause := ⟨0x2A3, 1, .note⟩
/-- R365: NOTE -/
def evRingIndexBad : Cause := ⟨0x2A4, 1, .note⟩
/-- R365: NOTE -/
def evCmdRefused : Cause := ⟨0x2A5, 1, .note⟩
/-- R365: NOTE -/
def evCmdLate : Cause := ⟨0x2A6, 1, .note⟩
/-- R365: NOTE -/
def evCmdDeferFull : Cause := ⟨0x2A7, 1, .note⟩
/-- R365: NOTE -/
def evCmdApplied : Cause := ⟨0x2A8, 1, .note⟩
/-- R365: NOTE -/
def evHostReadTimeout : Cause := ⟨0x2A9, 1, .note⟩
/-- R365: NOTE -/
def evHostAccessBad : Cause := ⟨0x2AA, 1, .note⟩
/-- R365: NOTE -/
def evSpiWriteRefused : Cause := ⟨0x2AB, 1, .note⟩
/-- R365: NOTE -/
def evSetupWriteRefused : Cause := ⟨0x2AC, 1, .note⟩
/-- R365: NOTE -/
def evRingDrop : Cause := ⟨0x2AD, 1, .note⟩
/-- R365: NOTE -/
def evPcieLinkDown : Cause := ⟨0x2AE, 1, .note⟩
/-- R365: REGION-SAFE of HST -/
def evHostEndpointFault : Cause := ⟨0x2AF, 1, .regionSafe⟩
/-- R387: NOTE -/
def evTxnRecordRefused : Cause := ⟨0x2B0, 1, .note⟩
/-- R387: NOTE; slot doomed -/
def evTxnStageBad : Cause := ⟨0x2B1, 1, .note⟩
/-- R387: NOTE -/
def evCommitApplied : Cause := ⟨0x2B2, 1, .note⟩
/-- R387: NOTE -/
def evCommitRefused : Cause := ⟨0x2B3, 1, .note⟩
/-- R387: NOTE -/
def evTxnRolledBack : Cause := ⟨0x2B4, 1, .note⟩
/-- R387: NOTE -/
def evPairPrepared : Cause := ⟨0x2B5, 5, .note⟩
/-- R387: NOTE -/
def evPairCommitAborted : Cause := ⟨0x2B6, 5, .note⟩
/-- R387: NOTE -/
def evCommitUnconfirmed : Cause := ⟨0x2B7, 5, .note⟩
/-- R387: NOTE -/
def evCommitDiverged : Cause := ⟨0x2B8, 5, .note⟩
/-- R415: NOTE -/
def evPairFormed : Cause := ⟨0x2E0, 5, .note⟩
/-- R415: HANDOVER; SPLIT -/
def evLinkLost : Cause := ⟨0x2E1, 5, .handover⟩
/-- R415: HANDOVER; CARRYING -/
def evMateLost : Cause := ⟨0x2E2, 5, .handover⟩
/-- R415: HANDOVER; SPLIT -/
def evPairSkew : Cause := ⟨0x2E3, 5, .handover⟩
/-- R415: NOTE -/
def evMatePresFault : Cause := ⟨0x2E4, 5, .note⟩
/-- R415: NOTE -/
def evCrossingBad : Cause := ⟨0x2E5, 5, .note⟩
/-- R415: NOTE; pair not formed -/
def evConfigConflict : Cause := ⟨0x2E6, 5, .note⟩
/-- R415: NOTE -/
def evTideAdopted : Cause := ⟨0x2E7, 5, .note⟩
/-- R415: NOTE -/
def evEpochSkew : Cause := ⟨0x2E8, 5, .note⟩
/-- R415: NOTE -/
def evSetpointSkew : Cause := ⟨0x2E9, 5, .note⟩
/-- R415: NOTE -/
def evShareMismatch : Cause := ⟨0x2EA, 5, .note⟩
/-- R415: NOTE -/
def evMateWarning : Cause := ⟨0x2EB, 5, .note⟩
/-- R415: NOTE; the link counts as lost -/
def evHawserFault : Cause := ⟨0x2EC, 1, .note⟩
/-- R437: NOTE; DETAIL word 0 the stamp -/
def evCanTxDone : Cause := ⟨0x320, 0, .note⟩
/-- R437: NOTE -/
def evCanTxFailed : Cause := ⟨0x321, 0, .note⟩
/-- R437: NOTE -/
def evCanTxRefused : Cause := ⟨0x322, 0, .note⟩
/-- R437: NOTE -/
def evCanRxLost : Cause := ⟨0x323, 0, .note⟩
/-- R437: NOTE -/
def evCanErrPassive : Cause := ⟨0x324, 0, .note⟩
/-- R437: NOTE; recovery by command -/
def evCanBusOff : Cause := ⟨0x325, 0, .note⟩
/-- R437: NOTE -/
def evCanRecovered : Cause := ⟨0x326, 0, .note⟩
/-- R437: NOTE -/
def evCanProtocolExc : Cause := ⟨0x327, 0, .note⟩
/-- R437: ISOLATE -/
def evCanFault : Cause := ⟨0x328, 1, .isolate⟩
/-- R437: NOTE -/
def evChkCheckFail : Cause := ⟨0x329, 0, .note⟩
/-- R437: NOTE -/
def evChkAliveErr : Cause := ⟨0x32A, 0, .note⟩
/-- R437: ISOLATE of the check cluster -/
def evChkFault : Cause := ⟨0x32B, 1, .isolate⟩
/-- R440: NOTE -/
def evSelftestPass : Cause := ⟨0x360, 0, .note⟩
/-- R440: that of the scope's level under R21; a failed region stays OFF in REGION-SAFE -/
def evSelftestFail : Cause := ⟨0x361, 0, .note⟩
/-- R440: NOTE -/
def evSelftestRefused : Cause := ⟨0x362, 0, .note⟩
/-- R440: NOTE -/
def evSelftestAbandoned : Cause := ⟨0x363, 0, .note⟩
/-- R440: NOTE -/
def evWashPass : Cause := ⟨0x364, 0, .note⟩
/-- R440: NOTE; replica retired -/
def evWashFail : Cause := ⟨0x365, 0, .note⟩
/-- R440: NOTE -/
def evTrimWriteRefused : Cause := ⟨0x366, 4, .note⟩

end Sys2Proof.Machine
end

