-- ==== Sys2Proof/Machine/Setup.lean ====
section
/-! DEFINITION. The setup registers a host writes (R14, R17, R18), the tide and region periods they fix (R62 to R67), and the
joint judgement of the period words (R69, R498). -/

namespace Sys2Proof.Machine

/-- When a written value takes effect (R17). -/
inductive Applies
  | atOnce
  /-- at the first start of a region's period after the acknowledgement -/
  | period (r : RegionId)
  /-- the period words of R498, judged together at the tide boundary -/
  | boundary
deriving DecidableEq, Repr

/-- A setup register the host can write: writable bits, reset value and when it applies. -/
structure SRow where
  mask  : Nat
  reset : Nat
  app   : Applies
deriving DecidableEq, Repr

/-- The reset ratios of R80 by region code. -/
def resetRatio (c : Nat) : Nat := [1, 1, 4, 4, 5, 2, 5].getD c 1

/-- The writable setup registers: R80, R263, R332, R363, R413, R480, and the selectors of R45, R128, R170. Registers with bits
that act when written or that the device sets stand elsewhere. -/
def setupRow (o : Nat) : Option SRow :=
  if o = 0x1000 then some ⟨3, 0, .period .sup⟩
  else if o = 0x1004 then some ⟨0xFFFFFFFF, 40000, .boundary⟩
  else if o = 0x1008 then some ⟨0xFFFFFFFF, 0, .boundary⟩
  else if o = 0x100C then some ⟨0xFFFFFFFF, 0, .period .sup⟩
  else if o = 0x1014 then none
  else if 0x1010 ≤ o ∧ o ≤ 0x1028 ∧ o % 4 = 0 then some ⟨0x1FF, resetRatio ((o - 0x1010) / 4), .boundary⟩
  else if o = 0x102C then some ⟨0xF, 5, .boundary⟩
  else if o = 0x1228 then some ⟨0x7F, 0, .atOnce⟩
  else if o = 0x2000 then some ⟨3, 0, .period .hst⟩
  else if o = 0x2004 ∨ o = 0x2008 ∨ o = 0x200C ∨ o = 0x2010 then some ⟨0xFFFFFFFF, 0, .period .hst⟩
  else if o = 0x2014 then some ⟨0xFFFFFFFF, 4000, .period .hst⟩
  else if o = 0x2018 then some ⟨0x1FFF, 10, .period .hst⟩
  else if o = 0x2020 then some ⟨0x701FF, 1, .period .hst⟩
  else if o = 0x202C then some ⟨0x1F, 0x1F, .atOnce⟩
  else if 0x2040 ≤ o ∧ o < 0x2140 ∧ o % 4 = 0 then
    (if o % 16 = 0 then some ⟨0xFFFFFFFF, 0, .period .hst⟩
     else if o % 16 = 4 then some ⟨0xFFFFFFFF, 0, .period .hst⟩
     else if o % 16 = 8 then some ⟨0x1F010F, 4, .period .hst⟩ else none)
  else if 0x2140 ≤ o ∧ o < 0x21A0 ∧ o % 4 = 0 then some ⟨0xFFFF, 0, .period .hst⟩
  else if o = 0x5000 then some ⟨1, 0, .period .spn⟩
  else if o = 0x5004 then some ⟨0xFFFFFFFF, 0, .period .spn⟩
  else if o = 0x9000 then some ⟨0x3F, 2, .period .hst⟩
  else if o = 0xB000 then some ⟨3, 3, .period .sup⟩
  else if o = 0xB004 then some ⟨0xFFFFFFFF, 0, .period .sup⟩
  else none

/-- The reset value of a setup register; a register the host cannot write has none here. -/
def setupReset (o : Nat) : Word :=
  match setupRow o with
  | none => 0
  | some r => BitVec.ofNat 32 r.reset

/-- The value of a setup register in force. -/
def State.cfg (s : State) (o : Nat) : Word := mapGet setupReset s.setup o
def State.cfgN (s : State) (o : Nat) : Nat := (s.cfg o).toNat
/-- A bit field of a setup register in force. -/
def State.cfgF (s : State) (o lo w : Nat) : Nat := s.cfgN o / 2 ^ lo % 2 ^ w
def State.cfgBit (s : State) (o i : Nat) : Bool := (s.cfgN o).testBit i

/-- What a read returns: a value written and not yet in force, else the value in force (R18). -/
def State.cfgRead (s : State) (o : Nat) : Word := (mapFind s.setupPend o).getD (s.cfg o)

/-! ### Periods -/

/-- Ticks of the tide in force (R62). -/
def State.tideTicks (s : State) : Nat := s.cfgN 0x1004

/-- The BAR0 offset of a region's ratio (R80). -/
def ratioOfs (r : RegionId) : Nat := 0x1010 + 4 * regCode r

/-- A region's ratio; that of HST is fixed at 1 (R66). -/
def State.ratio (s : State) (r : RegionId) : Nat := if r = .hst then 1 else s.cfgN (ratioOfs r)

/-- A region's period in ticks (R65). -/
def State.periodTicks (s : State) (r : RegionId) : Nat := s.tideTicks / s.ratio r

/-- The dual-active-bridge carrier period in ticks (R67). -/
def State.dabTicks (s : State) : Nat := s.periodTicks .chg / s.cfgN 0x102C

/-- Ticks of the carrier period of a bridge (R138). -/
def State.carrierTicks (s : State) (b : BridgeId) : Nat := if isDab b then s.dabTicks else s.periodTicks (brgReg b)

/-- Ticks as seconds: one tick is 2.5 ns (R10). -/
def ticksSec (n : Nat) : F32 := F.ofRat (Int.ofNat (25 * n)) (10 ^ 10)

/-- What is left of the safety timer, in ticks: it counts device time from the session's start, whatever happens (R282). -/
def State.timerLeft (s : State) : Nat := s.chg.timer - (s.tim.devTime - s.chg.timerAt).toNat

/-- Seconds as ticks, nearest. -/
def secTicks (x : F32) : Nat := (F.nearest ((F.toRat x).1 * 400000000) (F.toRat x).2).toNat

/-- The period T of a region in seconds. -/
def State.tSec (s : State) (r : RegionId) : F32 := ticksSec (s.periodTicks r)

/-- The engine's period t of the pseudocode (R82 ff.). -/
def State.lawT (s : State) (l : LawId) : F32 := s.tSec (lawReg l)

/-! ### Period words (R66, R67, R69, R498) -/

/-- The period words of R498, in ascending offset; the ratio of HST is read only. -/
def periodWords : List Nat := [0x1004, 0x1008, 0x1010, 0x1018, 0x101C, 0x1020, 0x1024, 0x1028, 0x102C]

/-- A candidate set of period words: the values that would be in force at the boundary. -/
structure Periods where
  tide  : Nat
  ratio : RegionId → Nat
  mult  : Nat
  sync  : Nat

/-- The values in force, with those pending on top (R498). -/
def State.periodsNext (s : State) : Periods :=
  { tide := (s.cfgRead 0x1004).toNat
    ratio := fun r => if r = .hst then 1 else (s.cfgRead (ratioOfs r)).toNat
    mult := (s.cfgRead 0x102C).toNat
    sync := (s.cfgRead 0x1008).toNat }

/-- The values in force. -/
def State.periodsNow (s : State) : Periods :=
  { tide := s.tideTicks, ratio := s.ratio, mult := s.cfgN 0x102C, sync := s.cfgN 0x1008 }

/-- R62, R66, R67, R76: the set is valid in itself. -/
def Periods.valid (p : Periods) : Bool :=
  decide (p.tide % 4000 = 0) && decide (20000 ≤ p.tide) && decide (p.tide ≤ 4000000) &&
  allRegs.all (fun r =>
    decide (1 ≤ p.ratio r) && decide (p.ratio r ≤ 256) && decide (p.tide % p.ratio r = 0) &&
    decide (4000 ≤ p.tide / p.ratio r)) &&
  decide (1 ≤ p.mult) && decide (p.mult ≤ 8) && decide (p.tide / p.ratio .chg % p.mult = 0) &&
  decide (1600 ≤ p.tide / p.ratio .chg / p.mult) &&
  decide (p.sync < p.tide)

end Sys2Proof.Machine
end

