-- ==== Sys2Proof/Machine/Query.lean ====
section
/-! DEFINITION. Questions about the state that many rules ask: mode codes, which regions count as OFF, the output precedence
of bridges (R144, R145), whether a bridge is armed, whether `SAFE_EN` blocks. -/

namespace Sys2Proof.Machine

/-! ### Mode codes of the status registers (R233, R264, R289, R300) -/

def trCode : TrMode → Nat
  | .off => 0 | .free => 1 | .hold => 2 | .torque => 3 | .speed => 4 | .asc => 5 | .catch => 6

def spCode : SpMode → Nat
  | .off => 0 | .standby => 1 | .regulate => 2 | .bypass => 3 | .discharge => 4

def chCode : ChMode → Nat
  | .off => 0 | .acIn => 1 | .peerIn => 2 | .peerOut => 3 | .pass => 4

def actCode : ActMode → Nat
  | .off => 0 | .free => 1 | .current => 2 | .position => 3 | .park => 4

def brkCode : BrkMode → Nat
  | .applied => 0 | .released => 1 | .test => 2

def choiceCode : Choice → Nat
  | .none => 0 | .asc => 1 | .free => 2 | .ascPartial => 3

def srcCode : AngleSrc → Nat
  | .observer => 0 | .encoder => 1 | .mate => 2 | .lowSpeed => 3

def armCode : ArmState → Nat
  | .disarmed => 0 | .armed => 1 | .isolated => 2 | .halted => 3

def pairCode : PairState → Nat
  | .solo => 0 | .paired => 1 | .split => 2 | .carrying => 3

def repCode : RepState → Nat
  | .active => 0 | .darning => 1 | .washed => 2 | .retired => 3

def slotCode : SlotState → Nat
  | .closed => 0 | .open => 1 | .doomed => 2 | .pending => 3 | .prepared => 4

def canCode : CanSt → Nat
  | .off => 0 | .active => 1 | .passive => 2 | .busOff => 3

def sesCode : Session → Nat
  | .none => 0 | .cc => 1 | .cv => 2 | .done => 3 | .ended => 4

def endCode : EndCause → Nat
  | .host => 0 | .timer => 1 | .battery => 2 | .fault => 3

/-- Ranks of R443, weakest first. -/
def clsRank : RClass → Nat
  | .note => 0 | .limit => 1 | .isolate => 2 | .regionSafe => 3 | .handover => 4 | .deviceSafe => 5

/-! ### Regions -/

def State.isArmed (s : State) (b : BridgeId) : Bool := decide ((s.brg b).arm = .armed)
def State.isIso (s : State) (b : BridgeId) : Bool := decide ((s.brg b).arm = .isolated)

/-- Any bridge of the device armed. -/
def State.anyArmed (s : State) : Bool := allBridges.any s.isArmed

/-- Every bridge of a region is disarmed or isolated: none commands a switch on. -/
def State.noneArmed (s : State) (r : RegionId) : Bool := (regBridges r).all (fun b => !s.isArmed b)

def allActs : List ActId := [0, 1, 2]

/-- The commanded mode of a region is OFF (R203, R236, R269, R451). SUP counts as OFF while TRA, TRB, SPN, CHG and ACT are OFF
with every bridge disarmed and the brake APPLIED; HST counts as OFF at all times. -/
def State.modeOff (s : State) : RegionId → Bool
  | .tra => decide ((s.tr .a).mode = .off)
  | .trb => decide ((s.tr .b).mode = .off)
  | .spn => decide (s.span.mode = .off)
  | .chg => decide (s.chg.mode = .off)
  | .act => allActs.all (fun a => decide ((s.actu a).mode = .off))
  | .hst => true
  | .sup =>
    decide ((s.tr .a).mode = .off) && decide ((s.tr .b).mode = .off) && decide (s.span.mode = .off) &&
    decide (s.chg.mode = .off) && allActs.all (fun a => decide ((s.actu a).mode = .off)) && !s.anyArmed &&
    decide (s.brake.mode = .applied) && !s.brake.pulling

def State.isSafe (s : State) (r : RegionId) : Bool := (s.reg r).safe

/-- A region is halted, or its accepted halt waits for the period start: its mode commands are refused (R45; DEDUCED for the wait,
log 27). -/
def State.regHalt (s : State) (r : RegionId) : Bool := (s.reg r).halted || (s.reg r).haltReq

/-- OFF for a commit or a period write: a region in REGION-SAFE counts as OFF with its bridges disarmed (R69, R374). -/
def State.offOrSafe (s : State) (r : RegionId) : Bool := s.isSafe r || s.modeOff r

/-- Every motion and power region OFF with every bridge disarmed, REGION-SAFE counting as both (R69). -/
def State.allOffDisarmed (s : State) : Bool :=
  [RegionId.tra, .trb, .spn, .chg, .act].all (fun r => s.isSafe r || (s.modeOff r && s.noneArmed r))

/-- SUP as R69 and R451 count it. -/
def State.supOff (s : State) : Bool := s.allOffDisarmed && decide (s.brake.mode = .applied) && !s.brake.pulling

/-- The regions that a period word changes (R69); none for a word that changes no region. -/
def periodWordRegions (o : Nat) : List RegionId :=
  if o = 0x1004 then [.sup, .tra, .trb, .spn, .chg, .act]
  else if o = 0x102C then [.chg]
  else if 0x1010 ≤ o ∧ o ≤ 0x1028 then (regOf ((o - 0x1010) / 4)).toList
  else []

/-! ### Outputs -/

/-- What a bridge did in the last cycle, as `BRG.OUT_STATE` codes it (R173). -/
inductive OutNow
  | pwm | off | lowOn | highOn | blocked | tripped
deriving DecidableEq, Repr

def outCode : OutNow → Nat
  | .pwm => 0 | .off => 1 | .lowOn => 2 | .highOn => 3 | .blocked => 4 | .tripped => 5

def outSel : OutSel → OutNow
  | .pwm => .pwm | .off => .off | .lowOn => .lowOn | .highOn => .highOn

/-- The regions whose switches the `SAFE_EN` block holds off (R144, R309). -/
def blockable (b : BridgeId) : Bool :=
  match brgReg b with
  | .tra => true | .trb => true | .spn => decide (b ≠ .bch)
  | .chg => false | .act => false | .sup => false | .hst => false

/-- SPN in REGION-SAFE, or DEVICE-SAFE: rank 3 of R145 governs the chopper. -/
def State.chopSafe (s : State) : Bool := s.isSafe .spn || s.power.devSafe

/-- A moved carrier has completed its running period and has not reached its new origin: its bridge holds OFF (R250). -/
def State.inGap (s : State) (b : BridgeId) : Bool :=
  match (s.brg b).gap with
  | some (endAt, origin) => decide (endAt.toNat ≤ s.tim.devTime.toNat) && decide (s.tim.devTime.toNat < origin.toNat)
  | none => false

/-- The output precedence of R144 and R145 below the interlock of R154, which isolates. A bridge whose region selects PWM is OFF while its
carrier moves (R250). -/
def State.outNow (s : State) (b : BridgeId) : OutNow :=
  let x := s.brg b
  match brgKind b with
  | .hv =>
    if x.arm ≠ .armed then .off
    else if x.softHi || x.softLo then .off
    else if blockable b && s.sto.block then .blocked
    else if x.asc then .lowOn
    else if x.cbc then .tripped
    else if x.sel = .pwm ∧ s.inGap b then .off
    else outSel x.sel
  | .bch =>
    if x.arm = .isolated ∨ x.arm = .halted then .off
    else if x.softLo then .off
    else if s.chopSafe then (if (s.win 12).hi.out then .lowOn else .off)
    else if x.arm ≠ .armed then .off
    else if x.cbc then .tripped
    else (if x.sel = .pwm then .pwm else .off)
  | .act =>
    if x.arm ≠ .armed then .off
    else if x.cbc then .tripped
    else if x.sel = .highOn ∧ s.cpFault ∧ x.cpPwm then .pwm
    else outSel x.sel

/-- The gate side of a switch is supplied: an unpowered one holds its gate at VN (R163). Die A drives the actuator bridges (R38). -/
def State.gateUp (s : State) (b : BridgeId) (sw : Sw) : Bool :=
  match gsOf b sw with
  | some g => (s.gate g).powered
  | none => (brgAct b).isNone || !s.power.dieALost

/-- Put the two switch commands of a bridge as its output demands: in PWM they are the levels that the carrier's edges command. -/
def State.drive (s : State) (b : BridgeId) : State :=
  match s.outNow b with
  | .pwm => s.modBrg b (fun x => { x with hiOn := x.cmdHi && s.gateUp b .high, loOn := x.cmdLo && s.gateUp b .low })
  | .off => s.modBrg b (fun x => { x with hiOn := false, loOn := false })
  | .blocked => s.modBrg b (fun x => { x with hiOn := false, loOn := false })
  | .tripped => s.modBrg b (fun x => { x with hiOn := false, loOn := false })
  | .lowOn => s.modBrg b (fun x => { x with hiOn := false, loOn := s.gateUp b .low })
  | .highOn => s.modBrg b (fun x => { x with hiOn := s.gateUp b .high, loOn := false })

/-- The region's selection for a bridge, which its output follows at once (R144). -/
def State.select (s : State) (o : OutSel) (b : BridgeId) : State :=
  (s.modBrg b (fun x => { x with sel := o })).drive b

/-- The selection of a short circuit: LOW_ON, or HIGH_ON with `ASC_SIDE` = 1 (R203). -/
def State.ascSel (s : State) (x : Side) : OutSel := if s.parOn (comId (sideReg x) 0x02) then .highOn else .lowOn

def State.selectSide (s : State) (x : Side) (o : OutSel) : State := each (sideBridges x) (State.select · o) s

/-- Device time has passed: the bridges whose carriers move follow it (R250). -/
def State.driveMoved (s : State) : State :=
  each (spanBridges.filter (fun b => (s.brg b).gap.isSome)) State.drive s

/-- Counts of the CAN controllers' 40 MHz clocks up to a device time, one every ten ticks (R417, R429). -/
def canCounts (t : Time) : Word := BitVec.ofNat 32 (t.toNat / 10)

/-- Device time stands at an instant: the CAN counters have counted up to it, and the bridges whose carriers move follow (R58, R250, R429). -/
def State.timeTo (s : State) (t : Time) : State :=
  let n := canCounts t - canCounts s.tim.devTime
  (each ([0, 1, 2] : List CanId) (fun s c => s.modCan c (fun x => { x with tsNow := x.tsNow + n }))
    (s.modTim (fun x => { x with devTime := t }))).driveMoved

/-- A selection that needs a first load before PWM is shown again forgets the earlier one (R206). -/
def State.unload (s : State) (b : BridgeId) : State := s.modBrg b (fun x => { x with loaded := false, fresh := false })

/-- The mode a traction region reports: FREE while the `SAFE_EN` block holds its switches off (R206). -/
def State.trShown (s : State) (x : Side) : Nat :=
  if s.sto.block ∧ (s.tr x).mode ≠ .off then trCode .free else trCode (s.tr x).mode

/-! ### Gate sides and readiness -/

/-- A gate side's turn to be powered has come: `GS01` with the rail, the next ones 20 us apart in ascending order (R465). -/
def State.gsPowered (s : State) (g : GsId) : Bool :=
  (s.gate g).powered && decide (s.power.railAt.toNat + 8000 * g.val ≤ s.tim.devTime.toNat)

/-- A gate side is ready under R162. -/
def State.gsReady (s : State) (g : GsId) : Bool := (s.gate g).ready

/-- The pair link of a high-voltage bridge is up (R153). -/
def State.pairLink (s : State) (b : BridgeId) : Bool := (gsList b).all (fun g => (s.gate g).link)

/-! ### Lock (R54, R80) -/

/-- `TIM.STATUS.UNLOCK_MAP`: the regions with an island out of lock. -/
def State.unlockMap (s : State) : Nat := allRegs.foldl (fun n r => n + (if s.tim.unlocked[rIx r] = 0 then 0 else 2 ^ regCode r)) 0

/-- `TIM.STATUS.ALL_LOCKED`: out of reset, with no island out of lock. -/
def State.allLocked (s : State) : Bool := decide (s.power.phase ≠ .inReset) && decide (s.unlockMap = 0)

/-- Clusters of a region have started again: none of them is out of lock. -/
def State.relock (s : State) (r : RegionId) (clus : BitVec 16) : State :=
  s.modTim (fun t => { t with unlocked := t.unlocked.set (rIx r) (t.unlocked[rIx r] &&& ~~~clus) })

/-! ### The start (R465, R466) -/

/-- A cluster of a region has started: the region's clusters start 10 us apart in the order of their numbers (R33). -/
def State.cluUp (s : State) (r : RegionId) (clu : Nat) : Bool :=
  decide ((s.reg r).startAt.toNat + 4000 * clu ≤ s.tim.devTime.toNat)

/-- Every cluster's start check is complete. -/
def State.checksDone (s : State) : Bool :=
  allRegs.all (fun r => (List.range (cluCount r)).all (fun n => s.power.checked[rIx r].getLsbD n))

/-- Every gate side is ready or has failed its check, or the rail cannot supply any (R465, R466). -/
def State.gatesDone (s : State) : Bool :=
  s.power.gpStopped || (List.range 35).all (fun g => s.gsReady (Fin.ofNat 35 g) || s.power.gsFailed.getLsbD g ||
    (s.gate (Fin.ofNat 35 g)).lost)

/-- The last completed step of R465 before READY: the first five by device time, the others by what has happened. -/
def State.startStepNow (s : State) : Nat :=
  let t := s.tim.devTime.toNat
  if t < 28000 then 1
  else if t < 120000 then 2
  else if t < 600000 then 3
  else if t < 648000 then 4
  else if !s.power.gpReady && !s.power.gpStopped then 5
  else if !(s.power.gpStopped || (List.range 35).all (fun g => s.gsPowered (Fin.ofNat 35 g) || (s.gate (Fin.ofNat 35 g)).lost)) then 6
  else if !s.gatesDone then 7
  else if !s.checksDone then 8
  else 9

/-- Keep `PWR.STATUS.START_STEP` (R479). -/
def State.stepUp (s : State) : State :=
  if s.power.phase = .starting then s.modPower (fun p => { p with startStep := BitVec.ofNat 4 s.startStepNow }) else s

/-! ### Thermal and limits -/

/-- The channels in the order of the status registers. -/
def thIx : ThrCh → Fin 7
  | .a => 0 | .b => 1 | .s => 2 | .p => 3 | .d => 4 | .c => 5 | .r => 6

def allTh : List ThrCh := [.a, .b, .s, .p, .d, .c, .r]

end Sys2Proof.Machine
end

