-- ==== Sys2Proof/Machine/Flags.lean ====
section
/-! DEFINITION. The status bytes and words composed from the state: the region bytes and flags of the return manifest (R360),
the causes of `ALERT_N` (R362), the fields of the crossing header's FLAGS, free entries of a ring (R350). -/

namespace Sys2Proof.Machine

/-! ### LIMIT in force (R448): each LIMIT cause lasts as long as its condition -/

/-- A traction LIMIT holds: rotor lost or CATCH, partner lost, link untrusted, a phase isolated, or its throttle below 1. -/
def State.trLimit (s : State) (x : Side) : Bool :=
  let t := s.tr x
  decide (t.mode = .catch) || decide (t.toCatch ≠ 0) || t.vecLost || t.linkBad || (sideBridges x).any s.isIso ||
  F.lt (s.therm.f[match x with | .a => (0 : Fin 7) | .b => 1]) F.one

/-- A LIMIT of the region is in force, for bit 6 of its byte (DEDUCED, log 7). -/
def State.limitOn (s : State) : RegionId → Bool
  | .sup => s.sto.block || s.sto.latch || s.brake.testFailed || s.power.brownout
  | .hst => s.host.lost
  | .tra => s.trLimit .a || F.lt s.therm.f[(6 : Fin 7)] F.one
  | .trb => s.trLimit .b
  | .spn => s.span.ov1Told || s.span.excursion || s.span.ovTrip || F.lt s.span.kMot F.one ||
      spanBridges.any s.isIso || F.lt s.therm.f[(2 : Fin 7)] F.one
  | .chg => s.chg.srcLost || s.chg.batAbsent || s.chg.peerFault || F.lt s.therm.f[(3 : Fin 7)] F.one ||
      F.lt s.therm.f[(4 : Fin 7)] F.one || F.lt s.therm.f[(5 : Fin 7)] F.one
  | .act => s.cpFault || allActs.any (fun a => (s.actu a).fault)

/-- The mode code of a region's status register; for ACT the highest among the three actuators (R360). -/
def State.modeCode (s : State) : RegionId → Nat
  | .sup => 0 | .hst => 0
  | .tra => s.trShown .a
  | .trb => s.trShown .b
  | .spn => spCode s.span.mode
  | .chg => chCode s.chg.mode
  | .act => (allActs.map (fun a => actCode (s.actu a).mode)).foldl max 0

/-- A cluster or the region is halted. -/
def State.anyHalt (s : State) (r : RegionId) : Bool :=
  (s.reg r).halted || (regLaws r).any (fun l => (s.law l).halted) ||
  (regBridges r).any (fun b => decide ((s.brg b).arm = .halted))

/-- The REGION byte of R360. -/
def State.regionByte (s : State) (r : RegionId) : Byte :=
  BitVec.ofNat 8 (s.modeCode r % 16 + 16 * bit (s.isSafe r) + 32 * bit ((regBridges r).any s.isIso) +
    64 * bit (s.limitOn r) + 128 * bit (s.anyHalt r))

/-- The REGION bytes in the order of their codes. -/
def State.regionBytes (s : State) : Vector Byte 7 :=
  #v[s.regionByte .sup, s.regionByte .hst, s.regionByte .tra, s.regionByte .trb, s.regionByte .spn, s.regionByte .chg,
    s.regionByte .act]

/-- The BRAKE byte of R360. -/
def State.brakeByte (s : State) : Byte := BitVec.ofNat 8 (brkCode s.brake.mode + 4 * bit s.brake.testFailed)

/-- ACT_MODES of R360. -/
def State.actModes (s : State) : Half :=
  BitVec.ofNat 16 (allActs.foldl (fun n a =>
    n + actCode (s.actu a).mode * 2 ^ (3 * a.val) + bit (s.actu a).parked * 2 ^ (9 + a.val)) 0)

/-- FLAGS of the return manifest (R360). -/
def State.retFlags (s : State) : Half :=
  BitVec.ofNat 16 (bit (decide (s.power.phase = .ready)) + 2 * bit s.power.okOut + 4 * bit s.power.devSafe +
    8 * bit s.power.brownout + 16 * bit s.host.lost + 32 * bit s.power.test + 64 * bit s.host.dropTide)

/-- `ID.STATUS` (R340). -/
def State.idStatus (s : State) : Word :=
  packWord [(0, 1, bit (decide (s.power.phase = .ready))), (1, 1, bit s.power.okOut), (2, 1, bit s.power.devSafe),
    (3, 1, bit s.power.brownout), (4, 1, bit s.power.test)]

/-! ### Rings -/

/-- Rings whose producer is the host (R348). -/
def hostToDev (n : RingId) : Bool := n.val = 0 || n.val = 1 || n.val = 4 || n.val = 7 || n.val = 10

def ringEnabled (s : State) (n : RingId) : Bool := s.cfgBit (0x2048 + 0x10 * n.val) 8
def ringSize (s : State) (n : RingId) : Nat := 2 ^ s.cfgF (0x2048 + 0x10 * n.val) 0 4
def ringIrq (s : State) (n : RingId) : Bool := s.cfgBit (0x2048 + 0x10 * n.val) 20
def ringVector (s : State) (n : RingId) : Nat := s.cfgF (0x2048 + 0x10 * n.val) 16 4

/-- Filled entries (R350). -/
def ringFilled (s : State) (n : RingId) : Nat :=
  let r := s.ring n
  if hostToDev n then (r.hostIdx - r.devIdx).toNat else (r.devIdx - r.hostIdx).toNat

/-- Entries the producer may still write. -/
def ringFree (s : State) (n : RingId) : Nat := ringSize s n - ringFilled s n

/-- The device masters the bus: link up, Bus Master Enable set, `RUN` in force, not stopped by a safe state (R32, R334, R337,
R363, R447). -/
def State.mastering (s : State) : Bool := s.host.linkUp && s.host.cfg.busMaster && s.host.running && !s.host.stopped

/-- Event records go to ring 3 once a manifest has been accepted (R467). -/
def State.eventsOpen (s : State) : Bool := s.mastering && s.host.open3 && ringEnabled s 3

/-! ### Alert (R362) -/

/-- The causes that hold. -/
def State.alertHolds (s : State) : BitVec 5 :=
  BitVec.ofNat 5 (bit s.power.devSafe + 2 * bit (allRegs.any s.isSafe) + 4 * bit s.host.lost + 8 * bit s.power.brownout +
    16 * bit (decide (ringFree s 3 < 5)))

/-- `ALERT_N` is low in reset and while an unmasked cause is set. -/
def State.alertLow (s : State) : Bool :=
  decide (s.power.phase = .inReset) || decide (s.host.alert &&& BitVec.ofNat 5 (s.cfgN 0x202C) ≠ 0)

/-! ### Interrupts (R361) -/

/-- Raise an MSI-X vector: sent when enabled and unmasked, else pending. The message is a write of the device's, so it also waits while
the device does not master the bus (DESIGN CHOICE, log 104). -/
def State.sendVector (s : State) (v : Nat) : State :=
  let k : Fin 16 := Fin.ofNat 16 v
  if !s.host.cfg.msixEnable then s
  else if !s.mastering || s.host.cfg.msixMask || s.host.msixMask.getLsbD k.val then
    s.modHost (fun h => { h with msixPend := h.msixPend ||| BitVec.ofNat 16 (2 ^ k.val) })
  else s.modHost (fun h => { h with msixSent := h.msixSent ++ [k], msixPend := h.msixPend &&& ~~~(BitVec.ofNat 16 (2 ^ k.val)) })

/-- A vector masked while it was raised is sent once it is unmasked (R361, the masking rules of MSI-X). -/
def State.flushVectors (s : State) : State :=
  (List.range 16).foldl (fun s k => if s.host.msixPend.getLsbD k then s.sendVector k else s) s

/-! ### The return manifest (R360) -/

/-- The manifest as it stands at a slack point. -/
def State.manifestNow (s : State) : RetMan :=
  { flags := s.retFlags, hbEcho := s.host.hb, devTime := s.tim.devTime, tide := s.tim.tideIndex, epoch := s.txn.epoch,
    commit := s.host.commit, devIdx := Vector.ofFn (fun n => s.host.rings[n].devIdx),
    regions := s.regionBytes,
    brake := s.brakeByte, pair := BitVec.ofNat 8 (pairCode s.haws.pair),
    events := BitVec.ofNat 16 (min 0xFFFF s.host.evTide),
    worst := (s.host.worst.map (·.code)).getD 0, acts := s.actModes, hostTime := s.host.hostTime }

/-- Bytes 0 to 123 of the return manifest (R360). -/
def RetMan.bytes (m : RetMan) : List Byte :=
  bytesOf 2 (1 : Half) ++ bytesOf 2 m.flags ++ bytesOf 4 m.hbEcho ++ bytesOf 8 m.devTime ++ bytesOf 4 m.tide ++
  bytesOf 4 m.epoch ++ bytesOf 4 m.commit ++ bytesOf 4 (0 : Word) ++ m.devIdx.toList.flatMap (bytesOf 2) ++
  m.regions.toList ++ [m.brake, m.pair, 0] ++ bytesOf 2 m.events ++ bytesOf 2 m.worst ++ bytesOf 2 m.acts ++
  bytesOf 8 m.hostTime ++ List.replicate 36 0

/-- The CRC in bytes 124 to 127 (R344). -/
def RetMan.crc (m : RetMan) : Word := crc32c m.bytes

/-- Begin counting the next tide's events. -/
def State.newTide (s : State) : State := s.modHost (fun h => { h with evTide := 0, worst := none, dropTide := false })

/-- Write the return manifest. -/
def State.writeReturn (s : State) : State := (s.modHost (fun h => { h with ret := some s.manifestNow })).newTide

/-- The return manifest with its vector (R360, R361). -/
def State.sendReturn (s : State) : State :=
  if s.cfgBit 0x2018 12 then s.writeReturn.sendVector (s.cfgF 0x2018 8 4) else s.writeReturn

end Sys2Proof.Machine
end

