-- ==== Sys2Proof/Machine/Events.lean ====
section
/-! DEFINITION. Raising events, their order, and writing them to ring 3 or the start log (R357, R442 to R445, R447, R467). -/

namespace Sys2Proof.Machine

/-- Detect an event: its cause, region code, `CLUSTER`, `UNIT`, the two `DETAIL` words, `REF_TAG` and the class it takes. -/
def State.raiseCls (s : State) (c : Cause) (cls : RClass) (reg clu unit : Nat) (d0 d1 : Word) (tag : Half) : State :=
  { s with
    evq := s.evq ++ [
      { code := codeOf c.lvl reg c.num, cls := cls, time := s.tim.devTime, tide := s.tim.tideIndex,
        cluster := BitVec.ofNat 8 clu, unit := BitVec.ofNat 8 unit, refTag := tag, epoch := s.txn.epoch,
        d0 := d0, d1 := d1, dropped := false }] }

/-- The same with the class of the cause table and no record concerned. -/
def State.raise (s : State) (c : Cause) (reg clu unit : Nat) (d0 d1 : Word) : State :=
  s.raiseCls c c.cls reg clu unit d0 d1 0

/-- An event about a whole region (R357: `CLUSTER` 0xF, no unit). -/
def State.raiseReg (s : State) (c : Cause) (r : RegionId) (d0 d1 : Word) : State := s.raise c (regCode r) 0xF 0xFF d0 d1

/-- An event of a region about the record with a tag. -/
def State.raiseTag (s : State) (c : Cause) (r : RegionId) (d0 d1 : Word) (tag : Half) : State :=
  s.raiseCls c c.cls (regCode r) 0xF 0xFF d0 d1 tag

/-- An event about the package: region 7, `CLUSTER` 0xFF (R50, R357). -/
def State.raisePkg (s : State) (c : Cause) (d0 d1 : Word) : State := s.raise c 7 0xFF 0xFF d0 d1

/-- An event of the host endpoint, HST cluster 0x0 (R365). -/
def State.raiseHst (s : State) (c : Cause) (d0 d1 : Word) (tag : Half) : State := s.raiseCls c c.cls 1 0 0xFF d0 d1 tag

/-- An event about a law cluster (R109, R134), with the replica concerned or 0xFF. -/
def State.raiseLaw (s : State) (c : Cause) (l : LawId) (unit : Nat) (d0 d1 : Word) : State :=
  s.raise c (regCode (lawReg l)) (lawClu l) unit d0 d1

/-- An event about a bridge cluster (R174), with the gate side concerned or 0xFF. -/
def State.raiseBrg (s : State) (c : Cause) (b : BridgeId) (unit : Nat) (d0 d1 : Word) : State :=
  s.raise c (regCode (brgReg b)) (brgClu b) unit d0 d1

/-- An event about a sense cluster (R201), with the channel or window concerned or 0xFF. -/
def State.raiseSns (s : State) (c : Cause) (n : SnsId) (unit : Nat) (d0 d1 : Word) : State :=
  s.raise c (regCode (snsReg n)) (snsClu n) unit d0 d1

/-- A number as a word of DETAIL. -/
def wd (n : Nat) : Word := BitVec.ofNat 32 n

/-! ### Order (R442) -/

/-- Markers are written after every other event of their cycle. -/
def isMarker (e : Event) : Bool := decide (e.code.toNat % 1024 = 0x00E) || decide (e.code.toNat % 1024 = 0x00F)

/-- The order of writing: markers last, ascending code otherwise. -/
def evKey (e : Event) : Nat := (if isMarker e then 65536 else 0) + e.code.toNat

/-- Insert before the first event of a higher key, so that equal codes keep the order of detection. -/
def insertEv (e : Event) : List Event → List Event
  | [] => [e]
  | x :: xs => if evKey e < evKey x then e :: x :: xs else x :: insertEv e xs

def sortEv (es : List Event) : List Event := es.foldl (fun acc e => insertEv e acc) []

/-- Strength for `WORST` (R443): rank of the class, then the level. -/
def evStrength (e : Event) : Nat := clsRank e.cls * 8 + e.code.toNat / 8192

/-- The stronger of the tide so far and a new one; at equal strength the one written first. -/
def worse (old : Option Event) (e : Event) : Option Event :=
  match old with
  | none => some e
  | some o => if evStrength o < evStrength e then some e else some o

/-! ### Writing -/

/-- The 32-byte record of an event on ring 3 (R357). -/
def Event.entry (e : Event) : Entry :=
  packEntry [(0, 1, 0x80), (1, 1, bit e.dropped), (2, 2, e.code.toNat), (4, 8, e.time.toNat), (12, 4, e.tide.toNat),
    (16, 1, e.cluster.toNat), (17, 1, e.unit.toNat), (18, 2, e.refTag.toNat), (20, 4, e.epoch.toNat), (24, 4, e.d0.toNat),
    (28, 4, e.d1.toNat)]

/-- The records that stand in a ring to the host and that the host has not passed, oldest first (R351, R357 to R359). -/
def State.written (s : State) (n : RingId) : List Entry :=
  if n = 3 then s.host.events.map Event.entry else (s.ring n).recs

/-- Count a dropped event (R357). -/
def State.dropEvent (s : State) : State :=
  s.modHost (fun h => { h with evLost := satInc h.evLost, evDrop := true, dropTide := true })

/-- Write one record to ring 3 (R357): with fewer than five free entries NOTE and LIMIT are dropped; a full ring drops all. -/
def State.writeRing3 (s : State) (e : Event) : State :=
  let free := ringFree s 3
  if free = 0 || (decide (free < 5) && decide (clsRank e.cls ≤ 1)) then s.dropEvent
  else
    let s1 := (s.modHost (fun h => { h with
      events := h.events ++ [{ e with dropped := h.evDrop }], evDrop := false, evTide := h.evTide + 1,
      worst := worse h.worst e })).modRing 3 (fun r => { r with devIdx := r.devIdx + 1, moved := true })
    if 2 ≤ clsRank e.cls && ringIrq s1 3 then s1.sendVector (ringVector s1 3) else s1

/-- RESET_CAUSE and READY, which the start log always holds (R467). -/
def alwaysLogged (e : Event) : Bool := decide (e.code.toNat % 1024 = 0x002) || decide (e.code.toNat % 1024 = 0x008)

/-- Hold one record in the start log of 32 (R467); room is kept for RESET_CAUSE and READY. -/
def State.writeLog (s : State) (e : Event) : State :=
  let kept := (s.host.log.filter alwaysLogged).length
  if alwaysLogged e then
    (if s.host.log.length < 32 then s.modHost (fun h => { h with log := h.log ++ [e] }) else s.dropEvent)
  else if s.host.log.length + (2 - kept) < 32 then s.modHost (fun h => { h with log := h.log ++ [e] })
  else s.modHost (fun h => { h with evLost := satInc h.evLost })

/-- Write one event where it belongs now. After DEVICE-SAFE or the safe state of HST nothing further is written (R447). -/
def State.writeEvent (s : State) (e : Event) : State :=
  if s.host.stopped then s.modHost (fun h => { h with evLost := satInc h.evLost })
  else if s.eventsOpen then s.writeRing3 e else s.writeLog e

/-- R447: HST writes the events of the cycle of entry to DEVICE-SAFE, then one return manifest; then bus mastering stops. Before
a manifest has been accepted it stays ready to write the start log (R467). -/
def State.stopAfterSafe (s : State) : State :=
  if s.power.devSafe && !s.host.stopped && s.eventsOpen then
    s.sendReturn.modHost (fun h => { h with stopped := true })
  else s

/-- Set every alert cause that holds (R362). -/
def State.setAlert (s : State) : State := s.modHost (fun h => { h with alert := h.alert ||| s.alertHolds })

/-- The end of every command: the events it detected are written in order, and the alert causes are set. -/
def State.finish (s : State) : State :=
  let es := sortEv s.evq
  let s1 := es.foldl State.writeEvent { s with evq := [] }
  s1.stopAfterSafe.setAlert

/-- Answer of a command that changes neither the queue, the parameters nor the setup registers: they are as they were. -/
def done (s t : State) : Host.Outcome State Fault Refusal :=
  .next { t.finish with pending := s.pending, params := s.params, setup := s.setup, setupPend := s.setupPend }

/-- Answer of a command that changes setup registers but not the parameters. -/
def doneSetup (s t : State) : Host.Outcome State Fault Refusal :=
  .next { t.finish with pending := s.pending, params := s.params }

/-- Answer of a command that changes parameters. -/
def doneAll (s t : State) : Host.Outcome State Fault Refusal := .next { t.finish with pending := s.pending }

end Sys2Proof.Machine
end

