-- ==== Sys2Proof/Machine/RunWords.lean ====
section
/-! DEFINITION. The run-state words of a replica, by word number as `DBG.ADDR` addresses them (R110, R131). The manual gives
the words' existence and not their order: the layout here is a DESIGN CHOICE (log 8). -/

namespace Sys2Proof.Machine

/-- Words of set-point and following error, in every form (R95, R97): timer, armed flag, last error; filter, last valid
set-point, invalid time, valid time since a loss, the source of the last run. -/
def rwFeTimer : Nat := 0
def rwFeArmed : Nat := 1
def rwFeErr : Nat := 2
def rwSpFilt : Nat := 3
def rwSpLast : Nat := 4
def rwSpBad : Nat := 5
def rwSpGood : Nat := 6
def rwSpSrc : Nat := 7
/-- Time-out and valid band as the last run used them (R96) -/
def rwSpTmo : Nat := 8
def rwSpLo : Nat := 9
def rwSpHi : Nat := 10

/-- FOC current form. -/
def rwIntD : Nat := 11
def rwIntQ : Nat := 12
def rwFw : Nat := 13
/-- low-speed start: angle (as a 16-bit code) and speed (R220); the current references of the last start run (R220) -/
def rwIfAngle : Nat := 14
def rwIfSpeed : Nat := 15
def rwIfIq : Nat := 16

/-- Speed/torque form. -/
def rwWref : Nat := 11
def rwIntW : Nat := 12
def rwTreq : Nat := 13
/-- own torque after vectoring, and whether it still slews after a partner's loss (R217) -/
def rwTown : Nat := 14
def rwVecSlew : Nat := 15

/-- Observer form: angle as a 16-bit code, PLL integral, speed, the currents and the applied voltage of the last run. -/
def rwTheta : Nat := 11
def rwIntPll : Nat := 12
def rwWe : Nat := 13
def rwIal : Nat := 14
def rwIbe : Nat := 15
def rwVal1 : Nat := 16
def rwVbe1 : Nat := 17

/-- Converter phase currents: int(k) at 11 + k - 1. -/
def rwIntPh : Nat := 11

/-- Link form. -/
def rwIntV : Nat := 11

/-- PFC form. -/
def rwIntGd : Nat := 11
def rwIntGq : Nat := 12
def rwIntBus : Nat := 13
def rwGridAngle : Nat := 14
def rwGridW : Nat := 15
/-- the grid period in progress: the squares of the three phase voltages and their number, and the angle passed (R269) -/
def rwGridSq (k : Nat) : Nat := 16 + k
def rwGridN : Nat := 19
def rwGridTurn : Nat := 20

/-- DAB form. -/
def rwIntP : Nat := 11

/-- Charge form. -/
def rwIntCv : Nat := 11
def rwIntVl : Nat := 12

/-- Position form. -/
def rwIntWx : Nat := 11
def rwIntIa : Nat := 12

/-- Thermal form: temperature, inflow, accumulator and filtered temperature of node n. -/
def rwT (n : Nat) : Nat := 16 + n
def rwQin (n : Nat) : Nat := 112 + n
def rwQacc (n : Nat) : Nat := 208 + n
def rwRise (n : Nat) : Nat := 304 + n
/-- judged throttle factor and its timer in SUP periods, per channel; periods of sensor k's disagreement against agreeing neighbours, of any
disagreement, and of agreement once broken, as counts (R110, R325, R327) -/
def rwThr (k : Nat) : Nat := 400 + k
def rwThrT (k : Nat) : Nat := 407 + k
def rwSensDis (k : Nat) : Nat := 414 + k
def rwSensAll (k : Nat) : Nat := 422 + k
def rwSensOk (k : Nat) : Nat := 430 + k

/-- Regulator form. -/
def rwIntGp : Nat := 11
def rwIntCoil : Nat := 12
/-- soft-start: rail at its begin and time since (R462) -/
def rwGpStart : Nat := 13
def rwGpTime : Nat := 14

/-- Words of run state a form has; words beyond read zero and refuse writes (R128). -/
def runLen : Form → Nat
  | .foc => 17 | .speed => 16 | .observer => 18 | .phases => 15 | .link => 12 | .pfc => 21 | .dab => 12 | .charge => 13
  | .position => 13 | .thermal => 438 | .regulator => 15

/-- The start value of a run-state word: throttle factors start at 1, every other word at zero (R89, R327). -/
def runStart (k : Nat) : Word := if 400 ≤ k ∧ k < 407 then F.one else 0

/-! ### Replicas (R110, R112) -/

def allReps : List RepId := [0, 1, 2]

def Law.rep (x : Law) (k : RepId) : Replica := x.reps[k]
def Law.modRep (x : Law) (k : RepId) (f : Replica → Replica) : Law := { x with reps := x.reps.set k (f (x.rep k)) }

/-- The ACTIVE replicas. -/
def Law.active (x : Law) : List RepId := allReps.filter (fun k => decide ((x.rep k).st = .active))
def Law.triplex (x : Law) : Bool := decide (x.active.length = 3)

/-- The same change in every ACTIVE replica. -/
def Law.modActive (x : Law) (f : Replica → Replica) : Law :=
  { x with reps := Vector.ofFn (fun k => if (x.rep k).st = .active then f (x.rep k) else x.rep k) }

/-- The run state that a run continues: that of the lowest-numbered ACTIVE replica; the others of an agreeing triad hold the same (R84). -/
def Law.run (x : Law) : RegMap := (x.rep (x.active.headD 0)).run

def Replica.rw (r : Replica) (k : Nat) : F32 := mapGet runStart r.run k
def Replica.setRw (r : Replica) (k : Nat) (v : F32) : Replica := { r with run := mapSet runStart r.run k v }
/-- Set several run-state words. -/
def Replica.setRws (r : Replica) (ws : List (Nat × F32)) : Replica := ws.foldl (fun x w => x.setRw w.1 w.2) r

def Law.rw (x : Law) (k : Nat) : F32 := mapGet runStart x.run k
/-- Every ACTIVE replica writes the same words. -/
def Law.setRw (x : Law) (k : Nat) (v : F32) : Law := x.modActive (fun r => r.setRw k v)
def Law.setRws (x : Law) (ws : List (Nat × F32)) : Law := x.modActive (fun r => r.setRws ws)

/-- A word written in all three replicas (R131). -/
def Law.setAll (x : Law) (k : Nat) (v : F32) : Law := { x with reps := Vector.ofFn (fun i => (x.rep i).setRw k v) }

def State.rw (s : State) (l : LawId) (k : Nat) : F32 := (s.law l).rw k
/-- A run-state word that holds a count. -/
def State.rwN (s : State) (l : LawId) (k : Nat) : Nat := (F.toInt (s.rw l k)).toNat
def State.setRw (s : State) (l : LawId) (k : Nat) (v : F32) : State := s.modLaw l (fun x => x.setRw k v)

/-! ### Signatures (R117) -/

/-- One step of the signature register: shift left, the polynomial where a one leaves it, and the word folded in (log 77). -/
def misrStep (reg : Word) (w : Word) : Word := ((reg <<< 1) ^^^ (if reg.getLsbD 31 then 0x1EDC6F41 else 0)) ^^^ w

/-- The signature over words in their order. -/
def misr (ws : List Word) : Word := ws.foldl misrStep 0xFFFFFFFF

/-- The words of a bank copy: the 256 words of the cluster, in order. -/
def bankWords (l : LawId) (m : RegMap) : List Word := (List.range 256).map (fun k => mapGet parReset m (lawId l k))

/-- The run-state words of a replica, in order: 128, or 512 for `LAW14`. -/
def Replica.runWords (l : LawId) (r : Replica) : List Word := (List.range (if l = 14 then 512 else 128)).map r.rw

/-- The words that a darning copies: both banks and the run state (R122). -/
def Replica.words (l : LawId) (r : Replica) : List Word := bankWords l r.bank ++ bankWords l r.shadow ++ r.runWords l

/-- The words signed on RESUME: run state and active bank (R132). -/
def Replica.resumeWords (l : LawId) (r : Replica) : List Word := r.runWords l ++ bankWords l r.bank

/-- What storage reads back of words. -/
def readBack (b : Readback) (ws : List Word) : List Word :=
  match b with
  | none => ws
  | some (i, w) => ws.set i.toNat w

/-- Two replicas form the same signature of what they read back of their words; equal words have equal signatures. -/
def sameSign (a b : List Word) (x y : Readback) : Bool := (decide (a = b) && decide (x = y)) || decide (misr (readBack x a) = misr (readBack y b))

/-- The words of a cluster in a map of parameters. -/
def bankOf (l : LawId) (m : RegMap) : RegMap := m.filter (fun v => decide (v.1 / 256 = lawId l 0 / 256))

/-- Every ACTIVE replica takes its copies of both banks from the ledger (R366). -/
def State.loadBanks (s : State) (l : LawId) : State :=
  s.modLaw l (fun x => x.modActive (fun r => { r with bank := bankOf l s.params, shadow := bankOf l s.txn.shadow }))

end Sys2Proof.Machine
end

