-- ==== Sys2Proof/Machine/Regs.lean ====
section
/-! DEFINITION. What a read of BAR0 returns (R14, R338): the registers of every block, without the side effects of the rows that
clear or capture. BAR2 (R48). -/

namespace Sys2Proof.Machine

/-- The block of a region's registers starts at 0x1000 (code + 1). -/
def blockReg (o : Nat) : Option RegionId := if o < 0x1000 then none else regOf (o / 0x1000 - 1)

def hi32 (t : Time) : Word := t.extractLsb' 32 32
def lo32 (t : Time) : Word := t.extractLsb' 0 32

/-- Two halves as a word, the low one first. -/
def halves (lo hi : Half) : Word := hi ++ lo

/-- The identity that configuration space and `ID` give (R3, R334). -/
def pciDevice : Half := 0x5A08
def pciRevision : Byte := 0x31
def pciClass : BitVec 24 := 0x118000

/-- R340. -/
def readId (s : State) (o : Nat) : Word :=
  if o = 0x0000 then packWord [(0, 16, pciDevice.toNat), (16, 8, pciRevision.toNat)]
  else if o = 0x0004 then packWord [(0, 16, 4214), (16, 16, 412)]
  else if o = 0x0008 then
    packWord [(0, 1, bit s.power.straps.pair), (1, 1, bit s.power.straps.spiw), (2, 1, bit s.power.straps.testmode),
      (3, 1, bit s.haws.pres)]
  else if o = 0x000C then s.idStatus
  else if o = 0x0010 then lo32 Config.serial
  else if o = 0x0014 then hi32 Config.serial
  else 0

/-- R80: status and read-only words of the tide master; `TIM.DEVTIME_HI` is the capture of the port (R61). -/
def readTim (s : State) (p : Port) (o : Nat) : Word :=
  if o = 0x1014 then 1
  else if o = 0x1030 then
    packWord [(0, 1, bit s.tim.refOk), (1, 1, bit s.allLocked), (2, 1, bit s.tim.syncLocked), (3, 1, bit s.tim.steering),
      (4, 1, bit s.tim.refused), (8, 7, s.unlockMap)]
  else if o = 0x1034 then wd s.tim.refusedOfs.toNat
  else if o = 0x1040 then lo32 s.tim.devTime
  else if o = 0x1044 then hi32 (match p with | .pcie => s.tim.capPcie | .spi => s.tim.capSpi)
  else if o = 0x1048 then s.tim.tideIndex
  else 0

/-- R315. -/
def readBrk (s : State) (o : Nat) : Word :=
  if o = 0x1100 then
    packWord [(0, 2, brkCode s.brake.mode), (2, 1, bit s.brake.pulling), (3, 1, bit s.brake.testFailed),
      (4, 1, bit s.brake.fbHigh), (5, 3, s.brake.lastRow.toNat)]
  else if o = 0x1104 then s.brake.iCoil
  else if o = 0x1108 then s.brake.lastTp
  else if o = 0x1140 then
    packWord [(0, 1, bit s.sto.a), (1, 1, bit s.sto.b), (2, 1, bit s.sto.block), (3, 1, bit s.sto.latch)]
  else 0

/-- R332. A node number beyond the map reads zero. -/
def readThm (s : State) (o : Nat) : Word :=
  if 0x1200 ≤ o ∧ o ≤ 0x1218 ∧ o % 4 = 0 then s.therm.f[Fin.ofNat 7 ((o - 0x1200) / 4)]
  else if o = 0x1220 then packWord [(0, 8, s.therm.broken.toNat), (8, 8, s.therm.dis.toNat)]
  else if o = 0x1224 then wd s.therm.hot.toNat
  else if o = 0x122C then (if s.cfgN 0x1228 < 86 then s.rw 14 (rwT (s.cfgN 0x1228)) else 0)
  else 0

/-- R479, R496. -/
def readPwr (s : State) (o : Nat) : Word :=
  let p := s.power
  if o = 0x1300 then
    packWord [(0, 1, bit p.vsupOk), (1, 1, bit p.brownout), (2, 1, bit p.vioOk), (3, 1, bit p.vrefOk), (4, 1, bit p.vmOk),
      (5, 1, bit p.gpReady), (6, 1, bit p.gpLocked), (8, 4, p.startStep.toNat)]
  else if o = 0x1304 then p.vsupNow
  else if o = 0x1308 then p.vmNow
  else if o = 0x130C then p.gpNow
  else if o = 0x1310 then wd p.cause.toNat
  else if o = 0x1314 then p.startTime
  else if o = 0x1318 then p.tjC
  else if o = 0x131C then p.tjA
  else 0

/-- R363, R386, and the MSI-X table and pending bits of R361. -/
def readHst (s : State) (o : Nat) : Word :=
  let h := s.host
  if o = 0x201C then
    packWord [(0, 1, bit h.running), (1, 1, bit h.lost), (2, 1, bit h.cfg.extTag), (8, 8, h.missed.toNat)]
  else if o = 0x2024 then wd h.evLost.toNat
  else if o = 0x2028 then wd h.alert.toNat
  else if 0x2040 ≤ o ∧ o < 0x2140 ∧ o % 16 = 12 then
    let r := s.ring (Fin.ofNat 16 ((o - 0x2040) / 16))
    halves r.devIdx r.hostIdx
  else if 0x2200 ≤ o ∧ o < 0x2240 ∧ o % 4 = 0 then
    let t := s.slot (Fin.ofNat 4 ((o - 0x2200) / 16))
    if o % 16 = 0 then packWord [(0, 3, slotCode t.state), (3, 1, bit t.pair), (16, 11, t.count)]
    else if o % 16 = 4 then t.txid
    else if o % 16 = 8 then t.target
    else packWord [(0, 4, t.reason.toNat), (16, 16, t.doomId.toNat)]
  else if o = 0x2240 then s.txn.epoch
  else if o = 0x2244 then s.txn.lastTide
  else if 0x2800 ≤ o ∧ o < 0x2900 ∧ o % 4 = 0 then
    let k : Fin 16 := Fin.ofNat 16 ((o - 0x2800) / 16)
    if o % 16 = 0 then lo32 h.msixAddr[k] else if o % 16 = 4 then hi32 h.msixAddr[k]
    else if o % 16 = 8 then h.msixData[k] else wd (bit (h.msixMask.getLsbD k.val))
  else if o = 0x2900 then wd h.msixPend.toNat
  else 0

/-- R233. -/
def readTr (s : State) (x : Side) (o : Nat) : Word :=
  let t := s.tr x
  if o = 0 then
    packWord [(0, 3, s.trShown x), (3, 1, bit (s.isSafe (sideReg x))), (4, 1, bit (decide (s.power.phase ≠ .inReset) && s.sto.block)), (5, 2, srcCode t.src),
      (8, 2, choiceCode t.choice)]
  else if o = 4 then t.conf
  else if o = 8 then t.eLast
  else if o = 12 then t.psi
  else if o = 16 then t.speed
  else if o = 20 then t.tRef
  else if o = 24 then wd t.angle.toNat
  else if o = 28 then wd t.quiet.toNat
  else 0

/-- R263, R264. -/
def readSpn (s : State) (o : Nat) : Word :=
  let t := s.span
  if o = 0x5008 then packWord [(0, 1, bit t.extLocked), (1, 1, bit t.extSusp), (2, 1, bit t.extLost)]
  else if o = 0x5100 then
    packWord [(0, 3, spCode t.mode), (3, 1, bit (s.isSafe .spn)), (4, 4, t.active.toNat), (8, 1, bit t.shedding),
      (9, 1, bit t.test.isSome), (10, 1, bit t.burst), (12, 2, t.level.toNat)]
  else if o = 0x5104 then t.vTarget
  else if o = 0x5108 then t.vRef
  else if o = 0x510C then t.kGen
  else if o = 0x5110 then t.kMot
  else if o = 0x5114 then t.duty
  else if o = 0x5118 then wd t.hsShort.toNat
  else if o = 0x511C then wd t.aborts.toNat
  else 0

/-- R289. -/
def readChg (s : State) (o : Nat) : Word :=
  let c := s.chg
  -- R277 in PEER_IN, R276 otherwise
  let valid := if c.mode = .peerIn then c.peerConn && F.le (s.comP .chg 0x09) c.vPeer && F.le c.vPeer (s.comP .chg 0x0A) else c.srcOk
  if o = 0x6100 then
    packWord [(0, 3, chCode c.mode), (3, 1, bit (s.isSafe .chg)), (4, 3, sesCode c.session), (8, 2, endCode c.endCause),
      (10, 1, bit c.batAbsent), (11, 1, bit valid), (12, 2, c.phases.toNat), (14, 1, bit c.peerConn),
      (16, 4, c.lamp.toNat)]
  else if o = 0x6104 then c.duty
  else if o = 0x6108 then c.ppOhm
  else if o = 0x610C then c.iSrc
  else if o = 0x6110 then c.pSrc
  else if o = 0x6114 then ticksSec s.timerLeft
  else if o = 0x6118 then c.startTide
  else 0

/-- R300. -/
def readAct (s : State) (a : ActId) (o : Nat) : Word :=
  let x := s.actu a
  if o = 0 then
    packWord [(0, 3, actCode x.mode), (3, 1, bit x.parked), (4, 1, bit x.posOk), (8, 3, x.hall.toNat)]
  else if o = 4 then x.pos
  else if o = 8 then x.speed
  else if o = 12 then wd x.faults.toNat
  else 0

/-- R133. -/
def readTri (s : State) (l : LawId) (k : Nat) : Word :=
  let t := s.law l
  if k = 0 then
    packWord [(0, 2, repCode t.reps[(0 : Fin 3)].st), (2, 2, repCode t.reps[(1 : Fin 3)].st),
      (4, 2, repCode t.reps[(2 : Fin 3)].st), (8, 1, bit t.halted)]
  else if k = 4 then
    packWord [(0, 8, t.reps[(0 : Fin 3)].odd.toNat), (8, 8, t.reps[(1 : Fin 3)].odd.toNat),
      (16, 8, t.reps[(2 : Fin 3)].odd.toNat)]
  else if k = 8 then t.reps[(0 : Fin 3)].sig
  else if k = 12 then t.reps[(1 : Fin 3)].sig
  else if k = 16 then t.reps[(2 : Fin 3)].sig
  else if k = 20 then wd t.darnCount.toNat
  else if k = 24 then wd t.spreadCount.toNat
  else if k = 28 then t.lastOddTide
  else 0

/-- `BRG.READY` (R173): for a bridge without a gate side the bits read zero. -/
def readyBits (s : State) (b : BridgeId) : Nat :=
  let r := fun sw => match gsOf b sw with | some g => bit (s.gsReady g) | none => 0
  r .high + 2 * r .low + 4 * bit (decide (brgKind b = .hv) && s.pairLink b)

/-- dv/dt in V/us, to the nearest, saturating (R173; the rounding is a DESIGN CHOICE, log 95). -/
def dvdtReg (x : F32) : Nat :=
  if F.le (F.ofNat 65535000000) x then 65535 else if F.pos x then (F.nearest (F.toRat x).1 ((F.toRat x).2 * 1000000)).toNat else 0

/-- R173. -/
def readBrg (s : State) (b : BridgeId) (k : Nat) : Word :=
  let t := s.brg b
  let st := fun (i : Fin 4) => t.slew[i].str
  let dv := fun (i : Fin 4) => dvdtReg t.slew[i].dvdt
  if k = 0 then packWord [(0, 2, armCode t.arm), (4, 3, outCode (s.outNow b)), (8, 3, readyBits s b)]
  else if k = 4 then wd t.isoCause.toNat
  else if k = 8 then packWord [(0, 8, t.trips), (16, 16, t.winLeft)]
  else if k = 12 then packWord [(0, 16, t.dtHl.now), (16, 16, t.dtLh.now)]
  else if k = 16 then packWord [(0, 5, st 0), (8, 5, st 1), (16, 5, st 2), (24, 5, st 3)]
  else if k = 20 then halves (dv 0) (dv 1)
  else if k = 24 then halves (dv 2) (dv 3)
  else if k = 28 then wd t.desats.toNat
  else 0

/-- The cluster status area 0xE00 of a region's block (R133, R173). -/
def readClu (s : State) (r : RegionId) (o : Nat) : Word :=
  match cluOf r ((o - 0xE00) / 0x20) with
  | some (.law l) => readTri s l (o % 0x20)
  | some (.brg b) => readBrg s b (o % 0x20)
  | _ => 0

/-- R199; the snapshot words are the port's captures (R185). -/
def readSns (s : State) (p : Port) (n : SnsId) (o : Nat) : Word :=
  let t := s.snsC n
  if o = 0 then packWord [(0, 1, bit (decide (t.busy ≠ 0))), (1, 1, bit t.lqOvf)]
  else if o = 4 then wd t.roundMax.toNat
  else if o = 8 then wd t.checkDev.toNat
  else if o = 12 then t.snapTide
  else if o = 0xF0 then t.lq.headD 0
  else if o = 0xF4 then wd t.lq.length
  else if 0x20 ≤ o ∧ o < 0xC0 then
    match (snsChans n)[(o - 0x20) / 16]? with
    | none => 0
    | some c =>
      let a := match p with | .pcie => (s.chan c).capPcie | .spi => (s.chan c).capSpi
      if o % 16 = 0 then a.sum.extractLsb' 0 32
      else if o % 16 = 4 then wd (a.sum.toNat / 2 ^ 32)
      else if o % 16 = 8 then packWord [(0, 24, a.count.toNat), (31, 1, bit a.ovr)]
      else if o % 16 = 12 then halves a.lo a.hi
      else 0
  else 0

/-- One bit per window monitor n from a list. -/
def winBits (s : State) (first n : Nat) (f : Win → Bool) : Word :=
  packWord ((List.range n).map (fun k => (k, 1, bit (f s.wins[Fin.ofNat 48 (first + k)]))))

/-- R200. -/
def readWin (s : State) (o : Nat) : Word :=
  if o = 0x8C00 then winBits s 0 32 (·.hi.latch)
  else if o = 0x8C04 then winBits s 32 16 (·.hi.latch)
  else if o = 0x8C08 then winBits s 0 32 (·.lo.latch)
  else if o = 0x8C0C then winBits s 32 16 (·.lo.latch)
  else if o = 0x8C10 then winBits s 0 32 (·.hi.filt)
  else if o = 0x8C14 then winBits s 32 16 (·.hi.filt)
  else if o = 0x8C18 then winBits s 0 32 (·.lo.filt)
  else if o = 0x8C1C then winBits s 32 16 (·.lo.filt)
  else if o = 0x8C20 then
    packWord ([(0 : Fin 3), 1, 2].flatMap (fun k =>
      [(8 * k.val, 2, (s.wst k).state.toNat), (8 * k.val + 2, 6, (s.wst k).mon.toNat)]))
  else if o = 0x8C24 then winBits s 0 24 (·.failed)
  else if o = 0x8C28 then winBits s 24 24 (·.dacFail)
  else if o = 0x8C2C then winBits s 0 24 (·.done)
  else 0

/-- R413. -/
def readHws (s : State) (o : Nat) : Word :=
  let h := s.haws
  if o = 0x9004 then
    packWord [(0, 2, pairCode h.pair), (2, 1, bit h.linkUp), (3, 1, bit h.locked), (4, 1, bit h.rejoin), (5, 1, bit h.pres),
      (6, 1, bit h.mpFault)]
  else if o = 0x9008 then wd h.rtt.toNat
  else if o = 0x900C then wd (BitVec.ofInt 16 h.err).toNat
  else if o = 0x9010 then wd h.crcErr.toNat
  else if o = 0x9014 then wd h.lost.toNat
  else if o = 0x9018 then h.mateEpoch
  else if o = 0x901C then h.mateTide
  else if o = 0x9020 then wd h.losses.toNat
  else 0

/-- The finished check value of a unit (R433). -/
def chkResult (s : State) (n : ChkId) : Word :=
  let a := crcAlg (s.parN (chkParId n 1))
  wd (crcFinish a ((s.chk n).value.toNat % 2 ^ a.width))

/-- R436. -/
def readCan (s : State) (o : Nat) : Word :=
  if o < 0xA0C0 then
    let c := s.can (Fin.ofNat 3 ((o - 0xA000) / 0x40))
    let k := (o - 0xA000) % 0x40
    if k = 0 then packWord [(0, 2, canCode c.st), (2, 1, bit c.recovering), (4, 3, c.lec.toNat)]
    else if k = 4 then packWord [(0, 8, c.txErr.toNat), (8, 8, c.rxErr.toNat)]
    else if k = 8 then c.tsNow
    else if k = 12 then c.tsTide
    else if k = 16 then
      packWord [(0, 1, bit c.bufs[(0 : Fin 3)].isSome), (1, 1, bit c.bufs[(1 : Fin 3)].isSome),
        (2, 1, bit c.bufs[(2 : Fin 3)].isSome), (8, 5, (c.queue.map (·.size)).foldl (· + ·) 0)]
    else if k = 20 then halves c.unmatched c.rxLost
    else if k = 24 then halves c.arbLost c.errFrames
    else 0
  else if 0xA800 ≤ o ∧ o < 0xA900 then
    let n : Fin 8 := Fin.ofNat 8 ((o - 0xA800) / 0x20)
    let c := s.chk n
    let k := (o - 0xA800) % 0x20
    if k = 0 then c.value else if k = 4 then wd c.alive.toNat else if k = 8 then c.length
    else if k = 28 then chkResult s n else 0
  else 0

/-- R480. -/
def readWash (s : State) (o : Nat) : Word :=
  if o = 0xB008 then wd s.wash.rots.toNat
  else if o = 0xB00C then packWord [(0, 6, s.wash.pos.toNat), (8, 1, bit s.wash.inSlot)]
  else if o = 0xB010 then s.wash.lastTime
  else if o = 0xB020 then packWord [(0, 1, bit s.st.busy), (1, 3, s.st.kind.toNat)]
  else if o = 0xB024 then s.st.lastSig
  else if o = 0xB028 then wd s.st.lastResult.toNat
  else 0

/-- The word that `DBG.ADDR` selects in replica 0 of the selected engine (R128). -/
def dbgData (s : State) : Word :=
  let l : LawId := Fin.ofNat 16 s.dbg.lawSel.toNat
  let a := s.dbg.addr.toNat
  if a < 0x200 then (if a < runLen (lawForm l) then ((s.law l).rep 0).rw a else 0)
  else if a < 0x300 then mapGet parReset ((s.law l).rep 0).bank (lawId l (a - 0x200))
  else 0

/-- The bridge that `DBG.BRG_SEL` names (R170). -/
def dbgBrg (s : State) : Option BridgeId :=
  match regOf (s.dbg.brgSel.toNat / 16) with
  | none => none
  | some r => match cluOf r (s.dbg.brgSel.toNat % 16) with | some (.brg b) => some b | _ => none

/-- R45, R128, R170. -/
def readDbg (s : State) (o : Nat) : Word :=
  let d := s.dbg
  let l := s.law (Fin.ofNat 16 d.lawSel.toNat)
  if o = 0xC000 then wd d.lawSel.toNat
  else if o = 0xC008 then wd d.stepCount.toNat
  else if o = 0xC00C then wd d.addr.toNat
  else if o = 0xC010 then dbgData s
  else if o = 0xC014 then packWord [(0, 1, bit l.halted), (1, 1, bit d.refused), (8, 11, l.cycle)]
  else if o = 0xC020 then wd d.brgSel.toNat
  else if o = 0xC028 then
    packWord [(0, 1, match dbgBrg s with | some b => bit (decide ((s.brg b).arm = .halted)) | none => 0), (1, 1, bit d.brgRefused)]
  else if o = 0xC040 then wd d.regSel.toNat
  else if o = 0xC048 then packWord [(0, 1, bit (allRegs.any (fun r => (s.reg r).halted))), (1, 3, d.region.toNat), (4, 1, bit d.regRefused)]
  else 0

/-- A read of the aligned register at BAR0 offset o over a port. Reserved fields and write-only fields read zero (R14, R19). -/
def readReg (s : State) (p : Port) (o : Nat) : Word :=
  if (setupRow o).isSome then s.cfgRead o
  else if o < 0x1000 then readId s o
  else if o < 0x1100 then readTim s p o
  else if o < 0x1200 then readBrk s o
  else if o < 0x1300 then readThm s o
  else if o < 0x1400 then readPwr s o
  else if o < 0x8000 ∧ 0xE00 ≤ o % 0x1000 then
    (match blockReg o with | some r => readClu s r (o % 0x1000) | none => 0)
  else if 0x2000 ≤ o ∧ o < 0x3000 then readHst s o
  else if 0x3100 ≤ o ∧ o < 0x3120 then readTr s .a (o - 0x3100)
  else if 0x4100 ≤ o ∧ o < 0x4120 then readTr s .b (o - 0x4100)
  else if 0x5000 ≤ o ∧ o < 0x6000 then readSpn s o
  else if 0x6000 ≤ o ∧ o < 0x7000 then readChg s o
  else if 0x7100 ≤ o ∧ o < 0x7160 then readAct s (Fin.ofNat 3 ((o - 0x7100) / 0x20)) ((o - 0x7100) % 0x20)
  else if 0x8000 ≤ o ∧ o < 0x8C00 then readSns s p (Fin.ofNat 12 ((o - 0x8000) / 0x100)) (o % 0x100)
  else if 0x8C00 ≤ o ∧ o < 0x9000 then readWin s o
  else if 0x9000 ≤ o ∧ o < 0xA000 then readHws s o
  else if 0xA000 ≤ o ∧ o < 0xB000 then readCan s o
  else if 0xB000 ≤ o ∧ o < 0xC000 then readWash s o
  else if 0xC000 ≤ o ∧ o < 0xD000 then readDbg s o
  else 0

/-! ### BAR2 and configuration space: reads that have no command (log 84) -/

/-- The word of the parameter view at BAR2 offset 4 n (R48). -/
def readBar2 (s : State) (n : Nat) : Word := s.par n

/-- The bytes of the parameter view. -/
def bar2Byte (s : State) (o : Nat) : Byte := (readBar2 s (o / 4)).extractLsb' (8 * (o % 4)) 8

/-- A read request of 1 to 512 bytes of BAR2's 256 KiB, answered whole from the active bank (R339). -/
def readBar2Bytes (s : State) (o n : Nat) : Option (List Byte) :=
  if 1 ≤ n ∧ n ≤ 512 ∧ o + n ≤ 0x40000 then some ((List.range n).map (fun k => bar2Byte s (o + k))) else none

/-- A write to BAR2 is discarded without an error (R20, R339). -/
def State.writeBar2 (s : State) (_o : Nat) (_bytes : List Byte) : State := s

/-- The words of the configuration header with fields that the rules name, at the places that PCI gives them (PRESUMED, log 99): the
identity and Bus Master Enable. -/
def readConfig (s : State) (o : Nat) : Word :=
  if o = 0x00 then pciDevice ++ Config.vendorId
  else if o = 0x04 then packWord [(2, 1, bit s.host.cfg.busMaster)]
  else if o = 0x08 then pciClass ++ pciRevision
  else 0

end Sys2Proof.Machine
end

