-- ==== Sys2Proof/Machine/Cross.lean ====
section
/-! DEFINITION. Sending crossings over the hawser link (R392 to R394, R397, R401, R407). -/

namespace Sys2Proof.Machine

/-- The device takes part in a pair (R405, R411). -/
def State.pairOn (s : State) : Bool := s.parOn (hawId 0)

/-- An event of the pair: level 5, region 7 (R415). -/
def State.raisePair (s : State) (c : Cause) (d0 d1 : Word) : State := s.raise c 7 0xFF 0xFF d0 d1

def crossCode : CrossKind → Nat
  | .idle => 0 | .hello => 1 | .timing => 2 | .mirror => 3 | .health => 4 | .farewell => 5

/-- Priority of R394, smaller first; IDLE is sent when nothing else waits. -/
def crossRank : CrossKind → Nat
  | .farewell => 0 | .timing => 1 | .mirror => 2 | .health => 3 | .hello => 4 | .idle => 5

def markCode : MarkKind → Nat
  | .none => 0 | .prepared => 1 | .refusal => 2 | .applied => 3

/-- `FLAGS` of a crossing (R392). -/
def State.crossFlags (s : State) : Byte :=
  BitVec.ofNat 8 (bit s.haws.splitReq + 2 * bit s.host.lost + 4 * bit s.power.brownout + 8 * bit s.haws.mpFault)

/-- Header and payload of a crossing (R392). The header's own CRC field is what ends the crossing and stands outside. -/
def crossBytes (k : CrossKind) (h : CrossHdr) (payload : List Word) : List Byte :=
  [BitVec.ofNat 8 (crossCode k), h.alive, h.flags, h.mark] ++ bytesOf 4 h.markId ++ bytesOf 4 h.markTide ++ bytesOf 4 h.tide ++
  bytesOf 2 (BitVec.ofNat 16 (4 * payload.length)) ++ [0, 0] ++ bytesOf 4 h.epoch ++ payload.flatMap (bytesOf 4)

/-- The CRC over a received crossing is the one that ends it (R393). -/
def crossCrcOk (h : CrossHdr) (k : CrossKind) (payload : List Word) : Bool := decide (h.crc = crc32c (crossBytes k h payload))

/-- A unit whose CRC-32C has passed over the bytes of a crossing, and the alive value after it. -/
def Chk.passed (c : Chk) (body : List Byte) (alive : Byte) : Chk :=
  { c with
    value := BitVec.ofNat 32 (body.foldl (crcFeed (crcAlg 4)) (crcAlg 4).init), length := BitVec.ofNat 32 body.length, alive := alive }

/-- The header of a crossing that starts now. -/
def State.crossHdr (s : State) : CrossHdr :=
  { alive := (s.chk 6).alive, flags := s.crossFlags, mark := BitVec.ofNat 8 (markCode s.txn.mine.kind), markId := s.txn.mine.id,
    markTide := s.txn.mine.tide, tide := s.tim.tideIndex, epoch := s.txn.epoch, crc := 0 }

/-- Start the transmission of a crossing; `CHK6` appends its CRC and counts it (R393). -/
def State.startCross (s : State) (x : OutCross) : State :=
  let body := crossBytes x.kind s.crossHdr x.payload
  (s.modHaws (fun h => { h with sending := some x.kind, wire := body ++ bytesOf 4 (crc32c body) })).modChk 6 (fun c =>
    c.passed body (c.alive + 1))

/-- The bytes of the crossing in transmission that a lane carries: even ones on lane 0, odd ones on lane 1 (R391). -/
def State.laneBytes (s : State) (k : Fin 2) : List Byte :=
  (List.range ((s.haws.wire.length + 1 - k.val) / 2)).map (fun i => s.haws.wire.getD (2 * i + k.val) 0)

/-- The link can transmit: paired by parameter, no hawser fault, check cluster not isolated (R393, R395, R411), and not silent after
its FAREWELLs (R407). -/
def State.canCross (s : State) : Bool := s.pairOn && !s.haws.fault && !s.chkIso && !s.haws.silent

/-- Queue a crossing; a free transmitter starts it at once (R394). -/
def State.queueCross (s : State) (k : CrossKind) (payload : List Word) : State :=
  if !s.canCross then s
  else
    match s.haws.sending with
    | none => s.startCross ⟨k, payload⟩
    | some _ => s.modHaws (fun h => { h with queue := h.queue ++ [⟨k, payload⟩] })

/-- The queued crossing of highest priority, the oldest of its kind (R394). -/
def nextCross : List OutCross → Option OutCross
  | [] => none
  | x :: xs =>
    match nextCross xs with
    | none => some x
    | some y => if crossRank x.kind ≤ crossRank y.kind then some x else some y

/-- Remove one queued crossing. -/
def dropCross (x : OutCross) : List OutCross → List OutCross
  | [] => []
  | y :: ys => if y = x then ys else y :: dropCross x ys

/-- Start the next queued crossing, if any. -/
def State.pumpCross (s : State) : State :=
  match nextCross s.haws.queue with
  | none => s
  | some x => (s.modHaws (fun h => { h with queue := dropCross x h.queue })).startCross x

/-- DEVICE-SAFE: a FAREWELL is queued three times (R407). -/
def State.farewell (s : State) : State :=
  if s.canCross then
    (((s.modHaws (fun h => { h with farewells := 3 })).queueCross .farewell []).queueCross .farewell []).queueCross .farewell []
  else s

/-! ### Payloads (R397, R398, R401): the order of the fields is DESIGN CHOICE, log 10 -/

/-- A HELLO (R397): strap, tide, ratios, multiple, share, serial number, one word each. -/
def helloPayload (b : HelloBody) : List Word :=
  [wd (bit b.strap), b.tideTicks] ++ b.ratios.toList.map (fun r => r.setWidth 32) ++
  [b.dabMult.setWidth 32, b.share, lo32 b.serial, hi32 b.serial]

/-- A ratio as HELLO carries it. -/
def State.ratio16 (s : State) (r : RegionId) : Half := BitVec.ofNat 16 (s.ratio r)

/-- What this device says of itself in a HELLO. -/
def State.ownHello (s : State) : HelloBody :=
  { strap := s.power.straps.pair, tideTicks := wd s.tideTicks,
    ratios := #v[s.ratio16 .sup, s.ratio16 .hst, s.ratio16 .tra, s.ratio16 .trb, s.ratio16 .spn, s.ratio16 .chg, s.ratio16 .act],
    dabMult := BitVec.ofNat 8 (s.cfgN 0x102C), share := s.par (hawId 1), serial := Config.serial, armed := s.anyArmed }

def timeWords (t : Time) : List Word := [lo32 t, hi32 t]

/-- A TIMING crossing (R398): when it left, and when the mate's last one arrived. -/
def timingPayload (b : TimingBody) : List Word := timeWords b.departed ++ timeWords b.arrived

/-- A MIRROR crossing (R401): region code, period number within the tide, sample instant, words. -/
def mirrorPayload (b : MirrorBody) : List Word := [wd (regCode b.region), b.period] ++ timeWords b.sample ++ b.words

/-- A HEALTH crossing (R401): region bytes, brake byte, pair byte, actuator modes, `ID.STATUS`, share. -/
def healthPayload (b : HealthBody) : List Word :=
  let g := fun (k : Fin 7) => b.regions[k].toNat
  [packWord [(0, 8, g 0), (8, 8, g 1), (16, 8, g 2), (24, 8, g 3)],
   packWord [(0, 8, g 4), (8, 8, g 5), (16, 8, g 6), (24, 8, b.brake.toNat)],
   packWord [(0, 8, b.pair.toNat), (16, 16, b.actModes.toNat)], b.idStatus, b.share]

/-- What this device says of itself in a HEALTH crossing. -/
def State.ownHealth (s : State) : HealthBody :=
  { regions := s.regionBytes, brake := s.brakeByte, pair := BitVec.ofNat 8 (pairCode s.haws.pair), actModes := s.actModes,
    idStatus := s.idStatus, share := s.par (hawId 1) }

end Sys2Proof.Machine
end

