-- ==== Sys2Proof/Machine/Ops.lean ====
section
/-! DEFINITION. The shared operations on the device: run states of law engines (R89), arming, disarming and isolating bridges
(R29, R135, R137, R169), the host-loss reaction (R347), REGION-SAFE and DEVICE-SAFE (R32, R39, R41, R446). -/

namespace Sys2Proof.Machine

/-! ### Law engines -/

/-- The spread counts of a replica start again where its engine stops or it leaves its triad: consecutive runs are broken (R121). -/
def Replica.noSpread (r : Replica) : Replica := { r with sprEnc := 0, sprSp0 := 0, sprSp1 := 0, sprHall := 0 }

/-- The engine stops: no run, integrators and filters at their start values in every replica. -/
def Law.stop (x : Law) : Law :=
  { x with
    state := .stopped, flight := none, held := [], clean := false, madeOdd := false
    reps := Vector.ofFn (fun k => { (x.rep k).noSpread with run := [] }) }

/-- Put a law engine into a run state (R89). STOPPED and every entry from STOPPED start integrators and filters at zero; entry
to RUNNING clears the following-error timer and arms it (R97). -/
def State.setRun (s : State) (l : LawId) (st : RunState) : State :=
  s.modLaw l (fun x =>
    let y := { x with next := none }
    if y.state = st then y
    else
      match st with
      | .stopped => y.stop
      | .tracking => { y with state := .tracking }
      | .running => ({ y with state := .running }.setRw rwFeTimer F.zero).setRw rwFeArmed F.one)

/-- The same at the next period start of the engine's region: a mode that changes between two (R89). -/
def State.setRunNext (s : State) (l : LawId) (st : RunState) : State := s.modLaw l (fun x => { x with next := some st })

/-- Transitions that wait for this period start of the region take place (R89). -/
def State.runPeriod (s : State) (r : RegionId) : State :=
  each (regLaws r) (fun s l => match (s.law l).next with | some st => s.setRun l st | none => s) s

/-- The engine runs: TRACKING or RUNNING. -/
def State.runs (s : State) (l : LawId) : Bool := decide ((s.law l).state ≠ .stopped)
def State.running (s : State) (l : LawId) : Bool := decide ((s.law l).state = .running)

/-! ### Carrier -/

/-- Edges of the high-side on-interval with no shift, as fractions of the carrier period (R140). -/
def onEdges (carrier : Nat) (d : F32) : F32 × F32 :=
  if carrier = 1 then (F.zero, d)
  else (F.mul F.half (F.sub F.one d), F.mul F.half (F.add F.one d))

/-! ### Arming -/

/-- Units of 312.5 ps in seconds, nearest (R59). -/
def secUnits (x : F32) : Nat := (F.nearest ((F.toRat x).1 * 3200000000) (F.toRat x).2).toNat

/-- Committed strength of a slew segment (R150, R172). -/
def State.segStr (s : State) (b : BridgeId) (g : Fin 4) : Nat :=
  s.parN (brgId b (0x20 + 8 * g.val + 2 * s.parN (brgId b 0x17) + 1))

/-- A fraction of a carrier period below 2, modulo 1. -/
def wrapOne (φ : F32) : F32 := if F.le F.one φ then F.sub φ F.one else φ

/-- The shift of a bridge's carrier origin in a pair follower (R400): `ILV_TR` for traction bridges, `ILV_SPN` for the span phases. -/
def State.pairShift (s : State) (b : BridgeId) : F32 :=
  if s.parOn (hawId 0) && s.power.straps.pair then
    match brgReg b with
    | .tra => s.par (hawId 5) | .trb => s.par (hawId 5)
    | .spn => if b ∈ spanBridges then s.par (hawId 6) else F.zero
    | _ => F.zero
  else F.zero

/-- A bridge's carrier phase with that shift, modulo 1 (R138, R400). -/
def State.pairPhase (s : State) (b : BridgeId) (φ : F32) : F32 := wrapOne (F.add φ (s.pairShift b))

/-- The start of an armed bridge: output OFF, dead times at `DT_INIT`, strengths committed (R137, R17). -/
def State.armBridge (s : State) (b : BridgeId) : State :=
  let dt := s.brgP b 0x03
  let u := secUnits dt
  let d : DeadTime := { now := u, target := u }
  s.modBrg b (fun x => { x with
    arm := .armed, sel := .off, hold := none, pend := {}, cmp := {}, loaded := false, fresh := false,
    cmdHi := false, cmdLo := false, hiOn := false, loOn := false, phase := s.pairPhase b (s.brgP b 0x01), gap := none, cpPwm := false,
    dtInit := dt, dtHl := d, dtLh := d, cbc := false, asc := false, trips := 0, winLeft := 0, slots := 0, counted := false,
    slew := #v[{ str := s.segStr b 0 }, { str := s.segStr b 1 }, { str := s.segStr b 2 }, { str := s.segStr b 3 }] })

/-- Both switches off and both timers stopped (R137); a bridge that is not armed stays as it is. A halted one resumes DISARMED (DEDUCED,
log 27). -/
def State.disarmBridge (s : State) (b : BridgeId) : State :=
  if s.isArmed b then
    (s.modBrg b (fun x => { x with
      arm := .disarmed, sel := .off, cmdHi := false, cmdLo := false, hiOn := false, loOn := false, gap := none, cbc := false, asc := false,
      loaded := false, fresh := false, trips := 0, winLeft := 0 })).drive b
  else if (s.brg b).arm = .halted then s.modBrg b (fun x => { x with before := .disarmed })
  else s

def State.disarmAll (s : State) (bs : List BridgeId) : State := each bs State.disarmBridge s

/-- A bridge enters ISOLATE (R29, R169): the first cause is latched and both switches go off. The actuator of an actuator bridge goes to
FREE at the next ACT period start (R297, `actPeriod`). `hard` marks a cause that only a region reset recovers (R450). -/
def State.isolate (s : State) (b : BridgeId) (cause : Nat) (hard : Bool) : State :=
  if s.isIso b then s.modBrg b (fun x => { x with isoHard := x.isoHard || hard })
  else
    s.modBrg b (fun x => { x with
      arm := .isolated, isoCause := BitVec.ofNat 10 cause, isoHard := hard, sel := .off, isoAt := some s.tim.devTime,
      wasHi := x.hiOn || x.softHi, wasLo := x.loOn || x.softLo, gap := none,
      hiOn := false, loOn := false, cbc := false, asc := false, loaded := false, fresh := false, trips := 0, winLeft := 0, resume := false})

/-- Return an isolated bridge to DISARMED (R169). -/
def State.clearIso (s : State) (b : BridgeId) : State :=
  s.modBrg b (fun x => { x with
    arm := .disarmed, isoCause := 0, isoHard := false, resume := false, sel := .off,
    cmdHi := false, cmdLo := false, hiOn := false, loOn := false, softHi := false, softLo := false, cbc := false, asc := false,
    isoAt := none, wasHi := false, wasLo := false, armedAt := none })

/-! ### Mode moves that several rules cause at once -/

/-- Keep the session's end and its cause; a session not running stays as it is (R281). -/
def State.endSession (s : State) (c : EndCause) : State :=
  s.modChg (fun x =>
    match x.session with
    | .cc => { x with session := .ended, endCause := c }
    | .cv => { x with session := .ended, endCause := c }
    | .none => x | .done => x | .ended => x)

/-- What the entry of OFF, or a command for it, makes of the session: a running one ends with its cause, DONE and ENDED are left (R281, log 64). -/
def State.leaveSession (s : State) (c : EndCause) : State :=
  s.modChg (fun x =>
    match x.session with
    | .cc => { x with session := .ended, endCause := c }
    | .cv => { x with session := .ended, endCause := c }
    | .none => x
    | .done => { x with session := .none }
    | .ended => { x with session := .none })

/-- The run states of the charger engines in OFF and in the safe state: the PLL and the power path run on (R269). -/
def State.chgLaws (s : State) : State := ((s.setRun 8 .tracking).setRun 9 .stopped).setRun 10 .running

/-- CHG enters OFF: every bridge disarmed (R269, R271). -/
def State.chgOff (s : State) : State :=
  (s.disarmAll (regBridges .chg)).chgLaws.modChg (fun x => { x with
    mode := .off, spanWait := false, startDue := false, peerBad := 0, peerOver := 0, raised := false})

/-- CHG goes to OFF, the session ending with a cause; in OFF already it enters nothing, so it disarms nothing (R269, R281). -/
def State.chgGoOff (s : State) (c : EndCause) : State :=
  if s.chg.mode = .off then s.leaveSession c else (s.leaveSession c).chgOff

/-- An event of a transaction (R387): HST cluster 0x0 at level 1, region 7 at level 5, `UNIT` the slot. -/
def State.raiseTxn (s : State) (c : Cause) (slot : Nat) (d0 d1 : Word) (tag : Half) : State :=
  if c.lvl = 5 then s.raiseCls c c.cls 7 0xFF slot d0 d1 tag else s.raiseCls c c.cls 1 0 slot d0 d1 tag

/-- A slot is CLOSED and its claims end. -/
def State.closeSlot (s : State) (k : SlotId) : State := s.modSlot k (fun _ => {})

/-- A slot is rolled back: 13 HOST, 12 HOST_LOST (R387). -/
def State.rollBack (s : State) (k : SlotId) (why : Nat) (tag : Half) : State :=
  (s.closeSlot k).raiseTxn evTxnRolledBack k.val (wd why) 0 tag

/-- OPEN, DOOMED, or PENDING before its V: what a rollback may end (R370, R377, R379). -/
def Slot.open (t : Slot) : Bool :=
  match t.state with
  | .open => true | .doomed => true | .pending => !t.passed | .closed => false | .prepared => false

def allSlots : List SlotId := [0, 1, 2, 3]

/-- Every open slot is rolled back on host loss (R379). HOST_LOST at the slack point of a commit discards that commit too, although its V
has passed (`due`, the edge note after R365); any other reaction leaves a decision latched at V alone (R377). -/
def State.rollBackAll (s : State) (due : Bool) : State :=
  each allSlots (fun s k =>
    if (s.slot k).open || (due && decide ((s.slot k).state = .pending)) then s.rollBack k 12 (s.slot k).tag else s) s

/-- The host-loss reaction of R347 outside HST: the stored ring set-points of torque, speed, current, power, bus voltage and charge
current become zero and the forms' own ramps follow; positions and the link floor hold; CHG goes to OFF with cause HOST; fetched
and deferred records are discarded; open transactions are rolled back. -/
def State.hostLoss (s : State) (due : Bool) : State :=
  let zero := fun (s : State) (l : LawId) => s.modLaw l (fun x => { x with ringSp := F.zero, ringMz := F.zero })
  let s1 := each [1, 4, 8, 9, 10] zero s
  let s2 := each allActs (fun s a => if (s.actu a).mode = .current then zero s (actLaw a) else s) s1
  let s3 := s2.chgGoOff .host
  (s3.modHost (fun h => { h with due := [], deferred := [], toRead := [], lost := true })).rollBackAll due

/-- An event of safe brake control: SUP cluster 0x5 at level 1, the region at level 2 (R319). -/
def State.raiseBrk (s : State) (c : Cause) (unit : Nat) (d0 d1 : Word) (tag : Half) : State :=
  s.raiseCls c c.cls 0 (if c.lvl = 1 then 5 else 0xF) unit d0 d1 tag

/-- Abort a running brake test: the brake stays APPLIED, pass and fail state unchanged (R308). -/
def State.abortBrakeTest (s : State) : State :=
  match s.brake.test with
  | none => s
  | some t => (s.modBrake (fun b => { b with mode := .applied, test := none })).raiseBrk evBrakeTestAborted 0xFF 0 0 t.tag

/-- A machine turns faster than 2 rad/s (R303). -/
def State.moving (s : State) : Bool :=
  F.lt F.two (F.abs (s.tr .a).speed) || F.lt F.two (F.abs (s.tr .b).speed)

/-- Apply the brake: both switches off at once, a pull-in and a test pulse end (R303, R305). An application that takes the brake
out of RELEASED or out of pull-in raises BRK_APPLIED, and BRK_APPLIED_MOVING while a machine turns. -/
def State.brakeOff (s : State) (tag : Half) : State :=
  let was := decide (s.brake.mode = .released) || s.brake.pulling
  let s1 := s.modBrake (fun b => { b with
    mode := .applied, pulling := false, judge := false, pulled := false, hs := false, ls := false, pulse := 0, bad := [],
    miss := 0, meanDue := false, sumI := 0, nI := 0})
  if was then
    let s2 := s1.raiseBrk evBrkApplied 0xFF 0 0 tag
    if s.moving then s2.raiseBrk evBrkAppliedMoving 0xFF 0 0 tag else s2
  else s1

/-- `BT_SEL` names a side (R306). -/
def State.btSel (s : State) (x : Side) : Bool := (s.parN (lawId 15 0x2F)).testBit (sIx x).val

/-! ### REGION-SAFE and DEVICE-SAFE -/

/-- What the safe state of R32 is for each region. The switches of SPN and CHG go off at once, and their engines change run state at the next
period start (R89). TRA and TRB take their decision of R222 at their next period start (R205), and the actuators go to FREE at that of ACT
(R297). -/
def State.safeState (s : State) : RegionId → State
  | .sup => s
  | .hst => s.modHost (fun h => { h with stopped := true })
  | .tra => s.modTr .a (fun t => { t with decide := true, toCatch := 0, start := false })
  | .trb => s.modTr .b (fun t => { t with decide := true, toCatch := 0, start := false })
  | .spn =>
    ((each spanBridges (State.select · .off) s).setRunNext 6 .stopped).modSpan (fun p => { p with
      mode := .off, test := none, active := 0,
      burst := false, shedding := false, bypReq := false, bypDue := false, bypExit := false, burstReq := false,
      disEnd := false})
    |>.drive .bch
  | .chg =>
    let s1 := each (regBridges .chg) (State.select · .off) (s.endSession .fault)
    (((s1.setRunNext 8 .tracking).setRunNext 9 .stopped).setRunNext 10 .running).modChg (fun x => { x with
      mode := .off, spanWait := false, startDue := false, peerBad := 0, peerOver := 0, raised := false})
  | .act => s

/-- The start test of a span is abandoned at once by REGION-SAFE and by the block; the command under test is refused with a
rank (R239). -/
def State.abandonTest (s : State) (rank : Nat) : State :=
  match s.span.test with
  | none => s
  | some t =>
    (s.modSpan (fun p => { p with test := none })).raiseCls evSpnModeRefused .note 4 0xF 0xFF (wd (spCode t.goal)) (wd rank) t.tag

/-! ### Wash rotation (R474) -/

/-- The replica of a rotation position, 3 x engine + replica. -/
def washLaw (p : BitVec 6) : LawId := Fin.ofNat 16 (p.toNat / 3)
def washRep (p : BitVec 6) : RepId := Fin.ofNat 3 (p.toNat % 3)

/-- The position after a replica; past the last one a rotation is complete: counted, timed, WASH_PASS. -/
def State.washNext (s : State) : State :=
  if s.wash.pos.toNat + 1 < 48 then s.modWash (fun w => { w with pos := w.pos + 1, wait := false })
  else
    (s.modWash (fun w => { w with
      pos := 0, wait := false, rots := satInc w.rots, total := w.total + 1, rotAt := s.tim.devTime,
      lastTime := BitVec.ofNat 32 ((s.tim.devTime - w.rotAt).toNat / 400) })).raise evWashPass 0 6 0xFF (s.wash.total + 1) 0

/-- A slot ends; the next one follows after `WASH.SPACING`. A shadow test that still runs in it ends without record. -/
def State.washEnd (s : State) : State := s.modWash (fun w => { w with inSlot := false, slotEnd := s.tim.devTime, shadow := none })

/-- A replica under test goes back to its triad by way of a darning (R471). -/
def State.washBack (s : State) (l : LawId) (k : RepId) : State :=
  if ((s.law l).rep k).st = .washed then
    s.modLaw l (fun x => { x.modRep k (fun r => { r with st := .darning }) with darnDue := some k })
  else s

/-- A region entering REGION-SAFE ends a slot in it without result, and the rotation moves on. -/
def State.washAbort (s : State) (r : RegionId) : State :=
  if s.wash.inSlot && decide (lawReg (washLaw s.wash.pos) = r) then
    ((s.washBack (washLaw s.wash.pos) (washRep s.wash.pos)).washEnd).washNext
  else s

/-- A halt of a law cluster ends without a resume when its region enters REGION-SAFE (R132). A bridge that a halt has made HALTED stays
HALTED until DBG_BRG_RESUME or a reset, after a region halt too (R45), so the chopper of a HALTED `BRG.BCH` does not follow the output of
`WIN12` (DESIGN CHOICE, log 102). -/
def State.endHalts (s : State) (r : RegionId) : State :=
  each (regLaws r) (fun s l => s.modLaw l (fun x => { x with halted := false, haltReq := false })) s

/-- DEVICE-SAFE (R39): every region in its safe state, the brake applied, `OK_OUT` low, once; the marker names the cause. -/
def State.deviceSafe (s : State) (code : Half) : State :=
  if s.power.devSafe then s
  else
    let s1 := (s.modPower (fun p => { p with devSafe := true, devCause := code, okOut := false })).raisePkg evDeviceSafeEntered
      (wd code.toNat) s.tim.tideIndex
    let s2 := each allRegs (fun s r =>
      if s.isSafe r then s
      else
        let t := if r = .hst then s else (((if r = .spn then s.abandonTest 1 else s).washAbort r).endHalts r).safeState r
        t.modReg r (fun x => { x with safe := decide (r ≠ .hst ∧ r ≠ .sup), cause := code, halted := false, haltReq := false })) s1
    (s2.abortBrakeTest.brakeOff 0).farewell

/-- REGION-SAFE of a region for the event with a code (R32, R442). That of SUP is not held at region level: it is DEVICE-SAFE at
once. That of HST brings the host-loss reaction in every other region. -/
def State.regionSafe (s : State) (r : RegionId) (code : Half) : State :=
  match r with
  | .sup => s.deviceSafe code
  | _ =>
    if s.isSafe r || s.power.devSafe then s
    else
      let s00 := if r = .spn then s.abandonTest 2 else s
      let s0 := match regSide r with
        | some x => if s.btSel x then s00.abortBrakeTest else s00
        | none => s00
      let s1 := (s0.modReg r (fun x => { x with safe := true, cause := code, halted := false, haltReq := false })).raiseReg
        evRegionSafeEntered r (wd code.toNat) s.tim.tideIndex
      let s2 := ((s1.safeState r).washAbort r).endHalts r
      if r = .hst then s2.hostLoss false else s2

/-- The reaction of an event that takes its region to REGION-SAFE. -/
def State.safeBy (s : State) (r : RegionId) (c : Cause) : State := s.regionSafe r (codeOf c.lvl (regCode r) c.num)

/-- Raise a law-cluster event and take its region to REGION-SAFE (R30). -/
def State.lawSafe (s : State) (c : Cause) (l : LawId) (unit : Nat) (d0 d1 : Word) : State :=
  (s.raiseLaw c l unit d0 d1).safeBy (lawReg l) c

/-- ARM_REFUSED with the number of the condition (R136) under the tag of its record. -/
def State.armRefused (s : State) (b : BridgeId) (n : Nat) (tag : Half) : State :=
  s.raiseCls evArmRefused .note (regCode (brgReg b)) (brgClu b) (brgClu b) (wd n) 0 tag

/-- An isolating cause has reached a bridge at the instant of its arming: the cause wins, and ARM_REFUSED is recorded with it (R174). R174
gives no condition number: it names 3, the cluster is ISOLATED (DESIGN CHOICE, log 95). -/
def State.armedBefore (s : State) (b : BridgeId) : State :=
  match (s.brg b).armedAt with
  | some (t, tag) => if t = s.tim.devTime then (s.modBrg b (fun x => { x with armedAt := none })).armRefused b 3 tag else s
  | none => s

/-! ### Phases of the span converter (R235, R251) -/

/-- Phase k, counted from 0, is available while its bridge is not ISOLATED. -/
def State.phAvail (s : State) (k : Nat) : Bool := !s.isIso (spanBridges.getD k .sp1)
def State.phAvailList (s : State) : List Nat := (List.range 4).filter s.phAvail
def phMask (ks : List Nat) : BitVec 4 := BitVec.ofNat 4 (ks.foldl (fun n k => n + 2 ^ k) 0)

/-- The burst phase: the lowest-numbered available phase (R252). -/
def State.burstPhase (s : State) : List Nat := s.phAvailList.take 1

/-- The phase of a span bridge that has entered ISOLATE is lost (R251): it is active no longer, and SPN_PHASE_LOST is raised; below `N_PH_MIN` a
region whose phases carry current goes to REGION-SAFE. Where no active phase is left, STANDBY takes the burst phase, and REGULATE every phase
that remains (DEDUCED, log 98). -/
def State.phaseLost (s : State) (k : Nat) : State :=
  let n := s.phAvailList.length
  let carries := match s.span.mode with | .standby => true | .regulate => true | .bypass => true | .off => false | .discharge => false
  let under := decide (n < s.parN (comId .spn 0x0D)) && carries
  let cls := if under then RClass.regionSafe else RClass.limit
  let left := s.span.active &&& ~~~(phMask [k])
  let s1 := s.modSpan (fun p => { p with
    active := if left ≠ 0 then left
      else match p.mode with
        | .standby => phMask s.burstPhase
        | .regulate => phMask s.phAvailList
        | .bypass => 0 | .off => 0 | .discharge => 0
    shedding := p.shedding && decide (p.out ≠ k), shedOk := false })
  let s2 := s1.raiseCls evSpnPhaseLost cls 4 0xF (k + 1) (F.ofNat n) (wd (clsRank cls)) 0
  if under then s2.safeBy .spn evSpnPhaseLost else s2

/-- A bridge enters ISOLATE, with what follows of it at once; an isolated one stays so (R169, R174, R251). -/
def State.toIso (s : State) (b : BridgeId) (cause : Nat) (hard : Bool) : State :=
  let s1 := s.isolate b cause hard
  if s.isIso b then s1
  else
    let s2 := s1.armedBefore b
    match spanBridges.idxOf? b with
    | some k => s2.phaseLost k
    | none => s2

/-- Raise a bridge event and isolate the bridge. -/
def State.isoBy (s : State) (c : Cause) (b : BridgeId) (unit : Nat) (d0 d1 : Word) (hard : Bool) : State :=
  (s.raiseBrg c b unit d0 d1).toIso b c.num hard

end Sys2Proof.Machine
end

