-- ==== Sys2Proof/Machine/Pair.lean ====
section
/-! DEFINITION. The pair states and their moves (R395, R405, R407, R409, R410), and the reaction of a cluster's level (R21). -/

namespace Sys2Proof.Machine

def ns5 : Nat := 16
def ns50 : Nat := 160

/-- No mirror is usable any more (R402, R409). -/
def Hawser.noMirrors (h : Hawser) : Hawser := { h with mirrors := Vector.replicate 7 {}, mateHealth := none }

/-- A follower that has lost its lead runs free on `XTAL_I`: what remains of the steering ends (R409, log 11). -/
def State.runFree (s : State) : State :=
  if s.power.straps.pair then s.modTim (fun t => { t with steer := 0, steering := false }) else s

/-- To CARRYING with MATE_LOST: 1 FAREWELL, 2 link loss with `MATE_PRES` low, 3 `MATE_PRES` low in SPLIT (R407). -/
def State.toCarrying (s : State) (why : Nat) : State :=
  ((s.modHaws (fun h => { h.noMirrors with
    pair := .carrying, rejoin := false, splitReq := false, bigErr := 0 })).raisePair evMateLost (wd why) 0).runFree

/-- To SPLIT (R405, R410). -/
def State.split (s : State) : State :=
  s.modHaws (fun h => { h.noMirrors with pair := .split, rejoin := false, bigErr := 0 })

/-- To SPLIT with an event (R405). -/
def State.toSplit (s : State) (c : Cause) : State := s.split.raisePair c 0 0

/-- `MATE_PRES` is low and not judged faulty. -/
def State.mateGone (s : State) : Bool := !s.haws.pres && !s.haws.mpFault

/-- SPLIT with no link and `MATE_PRES` low moves to CARRYING (R405). -/
def State.splitCheck (s : State) : State :=
  if s.haws.pair = .split ∧ !s.haws.linkUp ∧ s.mateGone then s.toCarrying 3 else s

/-- The link counts as lost (R395, R405, R410). PAIR_SKEW and the loss in one tide leave LINK_LOST on record (R415). -/
def State.linkLoss (s : State) : State :=
  if !s.pairOn then s
  else
    let s1 := (s.modHaws (fun h => { h.noMirrors with
      linkUp := false, timed := false, locked := false, losses := if h.linkUp then satInc h.losses else h.losses })).runFree
    match s.haws.pair with
    | .solo => s1
    | .paired => if s.mateGone then s1.toCarrying 2 else s1.toSplit evLinkLost
    | .carrying => s1.modHaws (fun h => { h with rejoin := false })
    | .split =>
      let s2 := if s.haws.skewTide = some s.tim.tideIndex ∧ s.haws.linkUp then s1.raisePair evLinkLost 0 0 else s1
      s2.splitCheck

/-- SPLIT becomes PAIRED with the link formed, equal tide indices and an error, measured since then, within 50 ns (R405); a device whose mate carries
starts its rejoin (R410). It does not re-form while the mate still asks for SPLIT (DEDUCED, log 11). -/
def State.formPair (s : State) : State :=
  let h := s.haws
  if h.pair = .split ∧ h.linkUp ∧ h.timed ∧ h.tideEq ∧ h.err.natAbs ≤ ns50 ∧ !h.mateFlags.getLsbD 0 ∧ !h.adopt then
    let carried := match h.mateHealth with | some b => decide (b.pair.toNat % 4 = 3) | none => false
    (s.modHaws (fun h => { h with
      pair := .paired, rejoin := carried, splitReq := false, bigErr := 0, shareTold := false,
      epochSkew := 0, epochTold := false, spSkew := 0, spTold := false,
      kPair := if carried then Vector.replicate 2 F.zero else h.kPair })).raisePair evPairFormed 0 0
  else s

/-- The mate's k_pair in use of a side, from its last mirror: word 9 (R401, R410). -/
def State.mateK (s : State) (x : Side) : Option F32 :=
  let m := s.haws.mirrors[rIx (sideReg x)]
  if m.valid then m.words[9]? else none

/-- The share the mate reported last (R401, R403). -/
def State.mateShare (s : State) : Option F32 := s.haws.mateHealth.map (·.share)

/-- A CARRYING device ends the rejoin once the mate holds its share in both traction regions (R410). -/
def State.rejoinCheck (s : State) : State :=
  let full := fun x => match s.mateK x, s.mateShare with | some k, some p => F.eq k p | _, _ => false
  if s.haws.pair = .carrying ∧ s.haws.linkUp ∧ s.haws.rejoin ∧ full .a = true ∧ full .b = true then
    (s.modHaws (fun h => { h with pair := .paired, rejoin := false, shareTold := false })).raisePair evPairFormed 0 0
  else s

/-- A mirror of a region is usable while PAIRED and at most two of its periods old (R402). -/
def State.mirrorAge (s : State) (r : RegionId) : Nat := (s.tim.devTime - s.haws.mirrors[rIx r].sample).toNat

def State.mirrorFresh (s : State) (r : RegionId) : Bool :=
  s.haws.mirrors[rIx r].valid && decide (s.mirrorAge r ≤ 2 * s.periodTicks r)

def State.mirrorUsable (s : State) (r : RegionId) : Bool := decide (s.haws.pair = .paired) && s.mirrorFresh r

/-- k_pair of a side at a period start of its region (R404, R410). -/
def State.kPairAt (s : State) (x : Side) : F32 :=
  let share := s.par (hawId 1)
  match s.haws.pair with
  | .solo => F.one
  | .split => share
  | .paired =>
    if s.haws.rejoin then
      let k := s.haws.kPair[sIx x]
      let up := match (s.tr x).mode with | .hold => true | .torque => true | .speed => true | _ => false
      if up || F.pos k then F.min share (F.fma (F.div share (s.par (hawId 7))) (s.tSec (sideReg x)) k) else k
    else share
  | .carrying =>
    if s.haws.rejoin && s.mirrorFresh (sideReg x) then
      (match s.mateK x with | some k => F.sub F.one k | none => F.one)
    else F.one

/-- The rejoining device has reached its share in both regions. -/
def State.rejoinDone (s : State) : State :=
  let share := s.par (hawId 1)
  if s.haws.pair = .paired ∧ s.haws.rejoin ∧ F.eq s.haws.kPair[(0 : Fin 2)] share ∧ F.eq s.haws.kPair[(1 : Fin 2)] share then
    s.modHaws (fun h => { h with rejoin := false })
  else s

/-- A change of k_pair takes effect at the period start of its region (R404). -/
def State.pairPeriod (s : State) (x : Side) : State :=
  -- a mirror that became unusable ends the rejoin on either device (R410)
  let s0 := if s.haws.rejoin ∧ s.haws.mirrors[rIx (sideReg x)].valid ∧ !s.mirrorFresh (sideReg x) then
      (match s.haws.pair with
       | .paired => s.split
       | _ => s.modHaws (fun h => { h with rejoin := false }))
    else s
  (s0.modHaws (fun h => { h with kPair := h.kPair.set (sIx x) (s0.kPairAt x) })).rejoinDone

/-- A commit that changes `PAIR_EN` applies (R405). -/
def State.pairEnable (s : State) (on : Bool) : State :=
  if on then
    s.modHaws (fun h => { { h.noMirrors with
      pair := .split, linkUp := false, timed := false, locked := false, rejoin := false, conflict := false, silent := false,
      farewells := 0 } with queue := [], sending := none, wire := [], adopt := false, mateFlags := 0 })
  else
    s.modHaws (fun h => { { h.noMirrors with
      pair := .solo, linkUp := false, timed := false, locked := false, rejoin := false, splitReq := false } with
      queue := [], sending := none, wire := [], adopt := false, mpFault := false })

/-- The reaction of a cluster's level under R21: ISOLATE for bridge, CAN and check clusters, REGION-SAFE for law and sense
clusters and for what SUP holds beside them; a fault of the host endpoint is REGION-SAFE of HST; that of the hawser cluster is
HAWSER_FAULT's link loss. -/
def State.cluReact (s : State) (r : RegionId) (clu : Nat) (code : Half) : State :=
  match cluOf r clu with
  | some (.brg b) => s.toIso b (code.toNat % 1024) false
  | some (.can c) => s.modCan c (fun x => { x with isolated := true, st := .off })
  | some .check => { s with chkIso := true }
  | some (.sns n) => (s.modSns n (fun y => { y with fault := true })).regionSafe r code
  | some .hawser => (s.modHaws (fun h => { h with fault := true })).linkLoss
  | _ => s.regionSafe r code

end Sys2Proof.Machine
end

