-- ==== Sys2Proof/Machine/Outcome.lean ====
section
/-! DEFINITION. The three shapes of a meaning: what happens only outside reset, what needs a unit the command names, and
plain completion (`done`, Events.lean). -/

namespace Sys2Proof.Machine

/-- The device is out of reset: T0 has passed (R464). -/
def State.live (s : State) : Bool := decide (s.power.phase ≠ .inReset)

/-- Completion of something that the device does only outside reset: in reset its lands and logic stand still (R457). -/
def whenLive (s : State) (f : State → State) : Host.Outcome State Fault Refusal := done s (if s.live then f s else s)

/-- The same for a command that names a unit with a part it must have; the device has no such part otherwise. -/
def whenUnit (ok : Bool) (s : State) (f : State → State) : Host.Outcome State Fault Refusal :=
  if ok then whenLive s f else .fault .noSuchUnit

end Sys2Proof.Machine
end

