-- ==== Sys2Proof/Machine/Refuse.lean ====
section
/-! DEFINITION. The ranks of R452 at which a mode command is refused before its region's chapter judges it (R453, R454). -/

namespace Sys2Proof.Machine

/-- A commanded self-test holds the region OFF (R470): kind 3 names the region, kind 4 the device. -/
def State.testHolds (s : State) (r : RegionId) : Bool :=
  s.st.busy && (decide (s.st.kind = 4) || (decide (s.st.kind = 3) && decide (s.st.region.toNat = regCode r)))

/-- A commanded self-test holds a cluster or its region (R136). -/
def State.testHoldsClu (s : State) (r : RegionId) (clu : Nat) : Bool :=
  s.testHolds r || (s.st.busy && decide (s.st.kind.toNat < 3) && decide (s.st.region.toNat = regCode r) &&
    decide (s.st.cluster.toNat = clu))

/-- The first governing state that refuses a mode command of a region: DEVICE-SAFE, then REGION-SAFE; 0 for none. -/
def State.safeRank (s : State) (r : RegionId) : Nat :=
  if s.power.devSafe then 1 else if s.isSafe r then 2 else 0

/-- The first non-zero rank of a list of judgements. -/
def firstRank : List Nat → Nat
  | [] => 0
  | n :: ns => if n = 0 then firstRank ns else n

/-- A rank where its condition holds. -/
def rank (n : Nat) (c : Bool) : Nat := if c then n else 0

end Sys2Proof.Machine
end

