-- ==== Sys2Proof/Machine/LawIo.lean ====
section
/-! DEFINITION. What a run of a law engine reads, its set-point and its following error (R72, R74, R87, R92 to R97), and the
transformations the forms share. The order of the fused multiply-adds inside a line of pseudocode is the model's (log 13). -/

namespace Sys2Proof.Machine

/-- What a run yields: the state with the run's status and events, its output words and the run-state words it writes. -/
structure FormOut where
  st    : State
  outs  : List F32
  words : List (Nat × F32)

/-! ### Inputs -/

/-- The newest value of a channel in the strobed set, if the set holds the channel. -/
def RunIn.inSet (f : RunIn) (c : ChanId) : Option SetVal := f.set.reverse.find? (fun v => decide (v.chan = c))

/-- The value a run reads of a channel: that of its strobed set, else the latest value at S (R92). -/
def RunIn.val (f : RunIn) (c : ChanId) : F32 :=
  match f.inSet c with
  | some v => v.val
  | none => f.vals.getD c.val 0

/-- Its over-range flag, which travels with the value (R179). -/
def RunIn.ovr (f : RunIn) (c : ChanId) : Bool :=
  match f.inSet c with
  | some v => v.ovr
  | none => f.ovrs.getLsbD c.val

/-- The full-scale value on its side (R227). -/
def RunIn.fullOf (f : RunIn) (c : ChanId) : F32 :=
  match f.inSet c with
  | some v => v.full
  | none => f.fulls.getD c.val 0

/-- `AINnn` by number. -/
def RunIn.ain (f : RunIn) (n : Nat) : F32 := f.val (Fin.ofNat 54 n)
/-- The full-scale value of `AINnn` on the side of its last conversion (R227). -/
def RunIn.ainFull (f : RunIn) (n : Nat) : F32 := f.fullOf (Fin.ofNat 54 n)
def RunIn.ainOvr (f : RunIn) (n : Nat) : Bool := f.ovr (Fin.ofNat 54 n)

/-- Output word k of another engine as visible at S (R74); zero before its first output. -/
def RunIn.out (f : RunIn) (l : LawId) (k : Nat) : F32 := (f.outs.getD l.val []).getD k 0

/-- The parameters that govern a run in flight: those in force at its S (R87). -/
def State.withRunParams (s : State) (f : RunIn) : State := { s with params := f.old.getD s.params }

/-! ### Set-points (R93 to R96) -/

/-- The set-point of a run, whether fallback 0 governs it, whether its ramp still moves it in this run, and the words it writes. -/
structure SpOut where
  sp    : F32
  zero  : Bool
  ramp  : Bool
  words : List (Nat × F32)

/-- The raw input of a source (R93, R94): V for the analog inputs, Hz and duty for the pulse inputs; none where no period has
been measured. -/
def RunIn.source (f : RunIn) (src : Nat) : Option F32 :=
  let freq := fun (p : Word) => if p = 0 then none else some (F.div (F.ofNat 400000000) (F.ofNat p.toNat))
  let duty := fun (p h : Word) => if p = 0 then none else some (F.div (F.ofNat h.toNat) (F.ofNat p.toNat))
  match src with
  | 1 => some (f.ain 44)
  | 2 => some (f.ain 45)
  | 3 => freq f.agreed.sp0Period
  | 4 => duty f.agreed.sp0Period f.agreed.sp0High
  | 5 => freq f.agreed.sp1Period
  | 6 => duty f.agreed.sp1Period f.agreed.sp1High
  | _ => none

/-- A pulse input whose last rising edge is the time-out or more ago (R95). -/
def RunIn.spStale (f : RunIn) (src : Nat) (tmo : F32) : Bool :=
  let since := if src = 3 ∨ src = 4 then f.agreed.sp0Since else if src = 5 ∨ src = 6 then f.agreed.sp1Since else 0
  F.le tmo (F.div (F.ofNat since.toNat) (F.ofNat 400000000)) && decide (3 ≤ src)

/-- The raw input where it is valid: inside a valid band, and a pulse input not stale (R95). -/
def RunIn.validSource (f : RunIn) (src : Nat) (lo hi tmo : F32) : Option F32 :=
  match f.source src with
  | none => none
  | some x => if F.le lo x && F.le x hi && !f.spStale src tmo then some x else none

/-- The input counts as lost after a run with these invalid and valid times (R95): it has been invalid for `SP_TIMEOUT`, or its loss
stands and it has not yet been valid again for `SP_TIMEOUT`. -/
def State.spLostBy (s : State) (l : LawId) (told : Bool) (bad good : F32) : Bool :=
  let lim := s.lawP l 0xE8
  F.le lim bad || (told && F.lt good lim)

/-- The set-point of R95 with the default source `ring`. The clamp acts only in forms with an external source (R93). A commit that
changes `SP_SRC` starts the new source's times at zero (R96). Before a newly selected source has ever been valid, its last valid set-point
is the one left by the source before it, zero at first (DESIGN CHOICE, log 92). -/
def State.spRun (s : State) (l : LawId) (f : RunIn) (ring : F32) : SpOut :=
  let t := s.lawT l
  let src := s.parN (lawId l 0xE0)
  let fresh := decide (F.toNat (s.rw l rwSpSrc) ≠ src)
  let bad0 := if fresh then F.zero else s.rw l rwSpBad
  let good0 := if fresh then F.zero else s.rw l rwSpGood
  let x := f.validSource src (s.lawP l 0xE6) (s.lawP l 0xE7) (s.lawP l 0xE8)
  let last := match x with
    | some v => F.fma (s.lawP l 0xE1) v (s.lawP l 0xE2)
    | none => s.rw l rwSpLast
  let bad := if src = 0 ∨ x.isSome then F.zero else F.add bad0 t
  let good := if src ≠ 0 ∧ x.isSome then F.add good0 t else F.zero
  let lost := decide (src ≠ 0) && s.spLostBy l (!fresh && (s.law l).spLost) bad good
  let fall := s.parN (lawId l 0xE9)
  let raw :=
    if src = 0 then ring
    else if !lost then last
    else if fall = 0 then F.zero else if fall = 1 then s.rw l rwSpLast else ring
  let sp := if formExt (lawForm l) then F.clamp raw (s.lawP l 0xE3) (s.lawP l 0xE4) else raw
  let filt := F.filter (s.rw l rwSpFilt) sp t (s.lawP l 0xE5)
  { sp := filt, zero := lost && decide (fall = 0), ramp := lost && decide (fall = 0) && !F.eq filt (s.rw l rwSpFilt),
    words := [(rwSpFilt, filt), (rwSpLast, if lost && decide (fall = 1) then s.rw l rwSpLast else last), (rwSpBad, bad),
      (rwSpGood, good), (rwSpSrc, F.ofNat src), (rwSpTmo, s.lawP l 0xE8), (rwSpLo, s.lawP l 0xE6), (rwSpHi, s.lawP l 0xE7)] }

/-- In the run in which a commit changes `SP_SRC` (R96): the old source, judged as in its last run, is invalid here too and its invalid time
reaches its time-out; answers that time and the time-out. -/
def State.spReplaced (s : State) (l : LawId) (f : RunIn) : Option (F32 × F32) :=
  let old := F.toNat (s.rw l rwSpSrc)
  let tmo := s.rw l rwSpTmo
  let bad := F.add (s.rw l rwSpBad) (s.lawT l)
  if old ≠ 0 ∧ !(s.law l).spLost ∧ (f.validSource old (s.rw l rwSpLo) (s.rw l rwSpHi) tmo).isNone ∧ F.le tmo bad then some (bad, tmo)
  else none

/-- A new source clears the loss of the old one, and a loss of the old one in this run is kept for its event (R96). -/
def State.spStatus (s : State) (l : LawId) (f : RunIn) : State :=
  if F.toNat (s.rw l rwSpSrc) ≠ s.parN (lawId l 0xE0) then
    s.modLaw l (fun x => { x with spLost := false, spOld := s.spReplaced l f })
  else s

/-! ### Following error (R97) -/

/-- The timer, the armed flag and the error of a run. The timer runs only in RUNNING with `FE_REACT` ≠ 0; `held` says that the output
is held at a limit from another engine or from the mode. -/
def State.feRun (s : State) (l : LawId) (e : F32) (held : Bool) : List (Nat × F32) :=
  let a := F.abs e
  if s.parN (lawId l 0xEC) = 0 ∨ !s.running l then [(rwFeErr, a)]
  else if held then [(rwFeErr, a)]
  else if F.lt (s.lawP l 0xEA) a then [(rwFeErr, a), (rwFeTimer, F.add (s.rw l rwFeTimer) (s.lawT l))]
  else if F.le a (F.mul (F.dec 9 (-1)) (s.lawP l 0xEA)) then [(rwFeErr, a), (rwFeTimer, F.zero), (rwFeArmed, F.one)]
  else [(rwFeErr, a)]

/-! ### Integrators (R87) -/

/-- One step of an integrator: frozen where the output it feeds is held at a clamp and the increment drives it further beyond. -/
def integ (x inc : F32) (atHi atLo frozen : Bool) : F32 :=
  if frozen || (atHi && F.pos inc) || (atLo && F.lt inc F.zero) then x else F.add x inc

/-- The integrator behind an output clamped between two bounds. -/
def integClamp (x inc raw lo hi : F32) : F32 := integ x inc (F.lt hi raw) (F.lt raw lo) false

/-! ### Transformations -/

def k23 : F32 := 0x3F2AAAAB
def kInvSqrt3 : F32 := 0x3F13CD3A
def kSqrt3half : F32 := 0x3F5DB3D7

/-- The amplitude-invariant Clarke transformation. -/
def clarke (a b c : F32) : F32 × F32 :=
  (F.mul k23 (F.fma (F.neg F.half) (F.add b c) a), F.mul kInvSqrt3 (F.sub b c))

/-- Park: rotation into the frame at an angle. -/
def park (al be : F32) (th : Angle) : F32 × F32 :=
  let c := F.cosA th
  let n := F.sinA th
  (F.fma al c (F.mul be n), F.fma be c (F.neg (F.mul al n)))

def invPark (d q : F32) (th : Angle) : F32 × F32 :=
  let c := F.cosA th
  let n := F.sinA th
  (F.fma d c (F.neg (F.mul q n)), F.fma d n (F.mul q c))

/-- The magnitude of a vector. -/
def mag (x y : F32) : F32 := F.sqrt (F.fma x x (F.mul y y))

/-- The three phase voltages of a vector. -/
def phases (al be : F32) : F32 × F32 × F32 :=
  let h := F.mul (F.neg F.half) al
  (al, F.fma kSqrt3half be h, F.fma (F.neg kSqrt3half) be h)

/-- A duty from 0 to 1. -/
def duty01 (d : F32) : F32 := F.clamp d F.zero F.one

/-- Space-vector modulation with min-max zero-sequence injection (R210). -/
def svmLinear (al be vdc : F32) : F32 × F32 × F32 :=
  let (a, b, c) := phases al be
  let z := F.mul F.half (F.add (F.max a (F.max b c)) (F.min a (F.min b c)))
  let r := F.recip vdc
  let d := fun v => duty01 (F.fma (F.sub v z) r F.half)
  (d a, d b, d c)

/-- The duties of the hexagon vertex nearest to a vector. -/
def vertex (a b c : F32) : F32 × F32 × F32 :=
  let m := F.max (F.abs a) (F.max (F.abs b) (F.abs c))
  let pick := fun (v : F32) (self other : Bool) =>
    if F.pos v then (if self then F.one else F.zero) else (if other then F.one else F.zero)
  if F.eq (F.abs a) m then (pick a true false, pick a false true, pick a false true)
  else if F.eq (F.abs b) m then (pick b false true, pick b true false, pick b false true)
  else (pick c false true, pick c false true, pick c true false)

/-- Hold angles, as 16-bit turn fractions, that make the fundamental of the clipped and held vector equal the requested magnitude, for the 64
modulations 1 + 0.1027 k / 63 (R210): the solution h of
(2/sqrt3 sin h + integral from h to 30 degrees of min(m, 1/cos(30 degrees - x)) dx) / (pi/6) = m. -/
def holdTable : List Nat :=
  [0, 4, 12, 22, 35, 49, 65, 83, 103, 124, 147, 172, 198, 226, 256, 287] ++
  [320, 355, 392, 431, 472, 515, 560, 607, 656, 708, 763, 820, 881, 944, 1010, 1081] ++
  [1155, 1233, 1316, 1403, 1497, 1597, 1704, 1820, 1940, 2058, 2173, 2287, 2399, 2510, 2622, 2733] ++
  [2844, 2956, 3069, 3184, 3301, 3420, 3542, 3669, 3801, 3939, 4086, 4245, 4421, 4624, 4883, 5461]

/-- The hold angle at a modulation between 1 and 1.1027: the device's own value where it lies between those of the two neighbouring entries,
as it must (R210); 30 degrees from 1.1027 on. -/
def holdAngle (m : F32) : Angle :=
  let x := F.mul (F.div (F.sub m F.one) (F.dec 1027 (-4))) (F.ofNat 63)
  let k := (F.floor x).toNat
  let lo := holdTable.getD k 5461
  let hi := holdTable.getD (k + 1) 5461
  let v := (Config.holdAngle m).toNat
  if lo ≤ v ∧ v ≤ hi then Config.holdAngle m else BitVec.ofNat 16 lo

/-- A vector brought within a modulation limit, its angle kept (DEDUCED, log 93). -/
def svmLimit (al be vdc lim : F32) : F32 × F32 :=
  let m := F.mul (mag al be) (F.mul F.sqrt3 (F.recip vdc))
  if F.lt lim m then let k := F.div lim m; (F.mul k al, F.mul k be) else (al, be)

/-- Space-vector modulation inside its limit (R210): linear up to m = 1; above it the vector is clipped to the hexagon, and held at the
nearest vertex within the hold angle of the device's table, which reaches 30 degrees at 1.1027 (log 5). -/
def svmIn (al be vdc : F32) : F32 × F32 × F32 :=
  let m := F.mul (mag al be) (F.mul F.sqrt3 (F.recip vdc))
  if F.le m F.one then svmLinear al be vdc
  else
    let (a, b, c) := phases al be
    let top := F.max (F.abs a) (F.max (F.abs b) (F.abs c))
    let hold := holdAngle m
    if F.le (F.mul (mag al be) (F.cosA hold)) top then vertex a b c
    else
      let span := F.sub (F.max a (F.max b c)) (F.min a (F.min b c))
      let k := if F.lt vdc span then F.div vdc span else F.one
      svmLinear (F.mul k al) (F.mul k be) vdc

/-- Space-vector modulation up to a modulation limit, its third argument (R103, R210, R293). -/
def svm (al be vdc lim : F32) : F32 × F32 × F32 :=
  let v := svmLimit al be vdc lim
  svmIn v.1 v.2 vdc

/-- A pending value with no shift. -/
def plainDuty (d : F32) : Duty := { d := d }

end Sys2Proof.Machine
end

