-- ==== Sys2Proof/Machine/TrForms.lean ====
section
/-! DEFINITION. The traction forms: FOC current, speed/torque and observer (R98 to R100, R202 to R233, R402, R404, R455). -/

namespace Sys2Proof.Machine

/-! ### Loss records (R322) -/

/-- Add one run's on-time fraction and current to a record. -/
def State.addLoss (s : State) (k : Fin 38) (a i : F32) : State :=
  s.modTherm (fun t => { t with
    cur := t.cur.set k { t.cur[k] with
      a := F.add t.cur[k].a a, iAbs := F.fma a (F.abs i) t.cur[k].iAbs, iSq := F.fma a (F.mul i i) t.cur[k].iSq,
      n := t.cur[k].n + 1 } })

/-- Both switches are off and a diode conducts (R322): the low one for a current out of the switch node, the high one for a current into it;
both halves of a dual-active-bridge bridge share it (DEDUCED, log 14). A traction or battery current counts out of the node, and a grid
current into it. -/
def diodeTimes (b : BridgeId) (i : F32) : F32 × F32 :=
  if F.isZero i then (F.zero, F.zero)
  else if isDab b then (F.half, F.half)
  else if F.pos i == decide (brgReg b = .chg) then (F.one, F.zero)
  else (F.zero, F.one)

/-- The on-time fractions of a bridge's high and low side, each of its switch or its diode, for a high-side duty (R322, log 14). -/
def State.onTimes (s : State) (b : BridgeId) (d i : F32) : F32 × F32 :=
  match s.outNow b with
  | .pwm => (d, F.sub F.one d)
  | .lowOn => (F.zero, F.one)
  | .highOn => (F.one, F.zero)
  | .off => diodeTimes b i | .blocked => diodeTimes b i | .tripped => diodeTimes b i

/-- The records of a bridge's two switches for one run. -/
def State.addBridgeLoss (s : State) (b : BridgeId) (d i : F32) : State :=
  let on := s.onTimes b d i
  let put := fun (s : State) (g : Option GsId) (a : F32) =>
    match g with | some g => s.addLoss (Fin.ofNat 38 g.val) a i | none => s
  put (put s (gsOf b .high) on.1) (gsOf b .low) on.2

/-! ### Modes -/

/-- HOLD, TORQUE or SPEED: output PWM (R203). -/
def driveMode : TrMode → Bool
  | .hold => true | .torque => true | .speed => true | .off => false | .free => false | .asc => false | .catch => false

/-- The machine is short-circuited: ASC, CATCH from ASC, or bridges kept until their first loads (R203, R206). -/
def trShorted (t : Traction) : Bool := decide (t.mode = .asc) || (decide (t.mode = .catch) && t.catchAsc) || t.keep

/-- A rotor loss without counting: the loss count is full (R219, R220, R225). -/
def State.loseRotor (s : State) (x : Side) : State :=
  s.modTr x (fun t => { t with nLost := s.parN (comId (sideReg x) 0x05) })

/-- A channel of a side after the exchange of `DIR_INV` (R202): position 0, 1, 2 in one of its two clusters. -/
def State.trChan (s : State) (x : Side) (second : Bool) (n : Nat) : Nat :=
  let base := (if x = .a then 0 else 6) + (if second then 3 else 0)
  let m := if s.parOn (comId (sideReg x) 0) then (if n = 1 then 2 else if n = 2 then 1 else 0) else n
  base + m

/-- Three values of a side in the forward convention; a phase current with the over-range flag is used at its full-scale value (R227). -/
def State.trAbc (s : State) (f : RunIn) (x : Side) (second : Bool) : F32 × F32 × F32 :=
  let v := fun n =>
    let c := s.trChan x second n
    if !second && f.ainOvr c then f.ainFull c else f.ain c
  (v 0, v 1, v 2)

def State.trOvr (s : State) (f : RunIn) (x : Side) (second : Bool) : Bool :=
  [0, 1, 2].any (fun n => f.ainOvr (s.trChan x second n))

/-- Stator current or terminal voltage as a vector. -/
def State.trVec (s : State) (f : RunIn) (x : Side) (second : Bool) : F32 × F32 :=
  let v := s.trAbc f x second
  clarke v.1 v.2.1 v.2.2

/-- The torque of a current vector, 1.5 p (psi i_q + (L_d - L_q) i_d i_q). -/
def State.torqueOf (s : State) (x : Side) (id iq : F32) : F32 :=
  let l := focLaw x
  let k := F.mul (F.dec 15 (-1)) (s.lawP l 0x04)
  F.mul k (F.fma (F.mul (F.sub (s.lawP l 0x01) (s.lawP l 0x02)) id) iq (F.mul (s.lawP l 0x03) iq))

/-! ### FOC current (R207 to R212) -/

/-- The MTPA table (R207): linear interpolation between the two points that bracket |t|. -/
def State.mtpa (s : State) (l : LawId) (t : F32) : F32 × F32 :=
  let tmax := s.lawP l 0x20
  if !F.pos tmax then (F.zero, F.zero)
  else
    let u := F.mul (F.div (F.abs t) tmax) (F.ofNat 31)
    let k := if F.le (F.ofNat 31) u then 31 else (F.floor u).toNat
    let j := min 31 (k + 1)
    let w := F.sub u (F.ofNat k)
    let at_ := fun base => if k = 31 then s.lawP l (base + 31) else F.lerp (s.lawP l (base + k)) (s.lawP l (base + j)) w
    (at_ 0x21, F.mul (if F.lt t F.zero then F.neg F.one else F.one) (at_ 0x41))

/-- The current-vector limit (R209), and whether it acts on the d axis. -/
def State.limitCurrent (s : State) (l : LawId) (id iq : F32) : F32 × F32 × Bool :=
  let m := s.lawP l 0x09
  if F.lt m (F.abs id) then (F.neg m, F.zero, true)
  else
    let room := F.sqrt (F.max (F.fma m m (F.neg (F.mul id id))) F.zero)
    (id, F.clamp iq (F.neg room) room, false)

/-- The torque reference a current loop follows: zero in HOLD, that of the brake test in its region (R203, R307), else the output of
the speed/torque loop. -/
def State.focTorque (s : State) (f : RunIn) (x : Side) : F32 :=
  if (s.tr x).mode = .hold then
    match s.brake.test with
    | some b => if b.side = x then b.torque else F.zero
    | none => F.zero
  else f.out (speedLaw x) 0

/-- The shift that keeps a phase's edges out of the quiet window, and whether none can (R211). The window lies around the S that falls into
the carrier period (DEDUCED, log 96). -/
def State.quietShift (s : State) (x : Side) (b : BridgeId) (d : F32) : F32 × Bool :=
  if F.le d F.zero || F.le F.one d then (F.zero, false)
  else
    let r := sideReg x
    let tc := ticksSec (s.carrierTicks b)
    let pre := F.div (s.comP r 0x0F) tc
    let post := F.div (s.comP r 0x10) tc
    let s1 := F.sub (s.lawP (focLaw x) 0xF0) (s.pairPhase b (s.brgP b 0x01))
    let s0 := if F.lt s1 F.zero then F.add s1 F.one else s1
    let e := onEdges (s.parN (brgId b 0x00)) d
    let inside := fun (v : F32) => F.le (F.sub s0 pre) v && F.le v (F.add s0 post)
    if !inside e.1 && !inside e.2 then (F.zero, false)
    else
      let up := F.sub (F.add s0 post) e.1
      let dn := F.sub (F.sub s0 pre) e.2
      let okUp := F.le F.zero up && F.le (F.add e.2 up) F.one
      let okDn := F.le dn F.zero && F.le F.zero (F.add e.1 dn)
      if okUp && (!okDn || F.le up (F.neg dn)) then (up, false)
      else if okDn then (dn, false)
      else (F.zero, true)

/-- The plausibility of the link voltage a current loop reads as a latest value (R228): LINK_UNTRUSTED is raised once and takes the decision
of R222 with the last trusted value, without CATCH. -/
def State.linkCheck (s : State) (f : RunIn) (x : Side) : State :=
  let flag := f.ainOvr 12
  let fault := (s.snsC 4).fault
  let n := if flag then (s.tr x).nLink + 1 else 0
  let bad := fault || decide (3 ≤ n)
  let v := if flag || fault then (s.tr x).vLast else f.ain 12
  let s1 := s.modTr x (fun t => { t with nLink := n, linkBad := bad, vLast := v })
  let told := (s.tr x).linkBad
  if bad && !told && decide ((s.tr x).mode ≠ .off) then
    let s3 := s1.raiseReg evLinkUntrusted (sideReg x) (f.ain 12) 0
    if s.isSafe (sideReg x) || s.power.devSafe then s3
    else s3.modTr x (fun t => { t with decide := true, toCatch := 0 })
  else s1

/-- Over-range phase currents (R227). -/
def State.currentCheck (s : State) (f : RunIn) (x : Side) (ovr : Bool) : State :=
  let n := if ovr then (s.tr x).nOvr + 1 else 0
  let s1 := s.modTr x (fun t => { t with nOvr := n })
  if n = 3 then s1.lawSafe evCurrentOverrange (focLaw x) 0xFF (f.ain (s.trChan x false 0)) 0 else s1

/-- The FOC current form (R98, R203, R207 to R212, R220, R227, R228). -/
def runFoc (l : LawId) (f : RunIn) (s0 : State) : FormOut :=
  let x := lawSide l
  let r := sideReg x
  let t := s0.lawT l
  let P := s0.lawP l
  let running := s0.running l
  let ovr := s0.trOvr f x false
  let i := s0.trVec f x false
  let tr := s0.tr x
  let s1 := (s0.currentCheck f x ovr).linkCheck f x
  let vdc := F.max (f.ain 12) F.one
  -- angle: the low-speed start's own (R220), else the observer's
  let start := tr.start && running
  let wDir := if tr.mode = .speed then F.sign (f.out (speedLaw x) 4) else F.sign (f.out (speedLaw x) 5)
  let wIf := F.slew (s0.rw l rwIfSpeed) (F.mul wDir (s0.comP r 0x12)) (F.mul (s0.comP r 0x13) t)
  let thIf : Angle := (s0.rw l rwIfAngle).setWidth 16 + F.toAngle (F.mul wIf t)
  let theta : Angle := if start then thIf else (f.out (obsLaw x) 0).setWidth 16
  let we := if start then wIf else f.out (obsLaw x) 1
  let s2 := if start && F.le (s0.comP r 0x12) (F.abs wIf) then s1.loseRotor x else s1
  let dq := park i.1 i.2 theta
  let id := dq.1
  let iq := dq.2
  -- references
  let m := s0.mtpa l (s0.focTorque f x)
  let fw0 := s0.rw l rwFw
  let lim := s0.limitCurrent l (F.add m.1 fw0) m.2
  let iStart := F.mul (F.sign wIf) (s0.comP r 0x11)
  let nB := s0.parN (comId r 0x14)
  let u := F.div (F.ofNat (nB + 1 - tr.blend)) (F.ofNat (max 1 nB))
  let idRef := if start then F.zero else if tr.blend ≠ 0 then F.lerp F.zero lim.1 u else lim.1
  let iqRef := if start then iStart else if tr.blend ≠ 0 then F.lerp (s0.rw l rwIfIq) lim.2.1 u else lim.2.1
  -- PI and decoupling
  let ed := F.sub idRef id
  let eq := F.sub iqRef iq
  let dec := s0.parOn (lawId l 0x0C)
  let cd := if dec then F.neg (F.mul we (F.mul (P 0x02) iq)) else F.zero
  let cq := if dec then F.mul we (F.fma (P 0x01) id (P 0x03)) else F.zero
  let app := if trShorted tr then (F.zero, F.zero) else let v := s0.trVec f x true; park v.1 v.2 theta
  let intD := if running then s0.rw l rwIntD else F.sub (F.sub app.1 (F.mul (P 0x05) ed)) cd
  let intQ := if running then s0.rw l rwIntQ else F.sub (F.sub app.2 (F.mul (P 0x07) eq)) cq
  let vd0 := F.add (F.fma (P 0x05) ed intD) cd
  let vq0 := F.add (F.fma (P 0x07) eq intQ) cq
  let vmax := F.mul (F.mul (P 0x0B) vdc) kInvSqrt3
  let vd := F.clamp vd0 (F.neg vmax) vmax
  let vqRoom := F.sqrt (F.max (F.fma vmax vmax (F.neg (F.mul vd vd))) F.zero)
  let vq := F.clamp vq0 (F.neg vqRoom) vqRoom
  let vReq := mag vd0 vq0
  let vNeed := F.mul (mag vd vq) (F.mul F.sqrt3 (F.recip (P 0x0B)))
  -- integrators and field weakening
  let intD1 := if running then
      integ intD (F.mul (F.mul (P 0x06) ed) t) (F.lt vmax vd0) (F.lt vd0 (F.neg vmax)) ovr else intD
  let intQ1 := if running then
      integ intQ (F.mul (F.mul (P 0x08) eq) t) (F.lt vqRoom vq0) (F.lt vq0 (F.neg vqRoom)) ovr else intQ
  let vLim := F.mul (F.sub F.one (P 0x0A)) vmax
  let fw := if lim.2.2 then fw0 else F.clamp (F.fma (F.mul (P 0x61) (F.sub vLim vReq)) t fw0) (P 0x62) F.zero
  -- modulation
  let thOut := theta + F.toAngle (F.mul we (P 0x0D))
  let vab := invPark vd vq thOut
  let d := svm vab.1 vab.2 vdc (P 0x0B)
  let swap := s0.parOn (comId r 0)
  let ds := if swap then (d.1, d.2.2, d.2.1) else d
  let bs := sideBridges x
  let q1 := s0.quietShift x (bs.getD 0 .ta1) ds.1
  let q2 := s0.quietShift x (bs.getD 1 .ta1) ds.2.1
  let q3 := s0.quietShift x (bs.getD 2 .ta1) ds.2.2
  let miss := running && (q1.2 || q2.2 || q3.2)
  let s3 :=
    if miss then
      let told := (s2.tr x).quietTold
      let s4 := s2.modTr x (fun t => { t with quiet := satInc t.quiet, quietTold := true })
      if told then s4 else s4.raiseLaw evQuietMiss l 0xFF 0 0
    else s2
  let tm := s0.torqueOf x id iq
  let s5 := s3.modTr x (fun y => { y with iq := iq, blend := if start then y.blend else y.blend - 1 })
  -- losses
  let ia := s0.trAbc f x false
  let is := if swap then (ia.1, ia.2.2, ia.2.1) else ia
  let s6 := ((s5.addBridgeLoss (bs.getD 0 .ta1) ds.1 is.1).addBridgeLoss (bs.getD 1 .ta1) ds.2.1 is.2.1).addBridgeLoss
    (bs.getD 2 .ta1) ds.2.2 is.2.2
  let s7 := s6.addLoss (if x = .a then 36 else 37) F.one (mag id iq)
  let fe := s0.feRun l (mag ed eq) (start || decide (tr.blend ≠ 0))
  { st := s7
    outs := [ds.1, ds.2.1, ds.2.2, q1.1, q2.1, q3.1, vab.1, vab.2, vNeed, id, iq, tm]
    words := fe ++ [(rwIntD, intD1), (rwIntQ, intQ1), (rwFw, fw), (rwIfAngle, if start then thIf.setWidth 32 else theta.setWidth 32),
      (rwIfSpeed, if start then wIf else F.zero), (rwIfIq, if start then iStart else s0.rw l rwIfIq)] }

/-! ### Speed/torque (R99, R213 to R217, R402, R404, R455) -/

/-- A throttle factor as visible at S; 1 before the first judgement (R327). -/
def RunIn.factor (f : RunIn) (k : Nat) : F32 := if (f.outs.getD 14 []).isEmpty then F.one else f.out 14 k

/-- The limits of the motoring and the generating quadrant (R99, R213, R244, R327, R404, R455). -/
def State.torqueLimits (s : State) (l : LawId) (f : RunIn) (wm : F32) : F32 × F32 :=
  let x := lawSide l
  let P := s.lawP l
  let fx := f.factor (if x = .a then 0 else 1)
  let pl := F.div (P 0x04) (F.max (F.abs wm) F.one)
  let share := fun v => if s.haws.pair = .split then F.mul v (s.par (hawId 2)) else v
  let mot := share (F.min (P 0x02) (F.min pl (F.min (F.mul fx (P 0x02)) (F.mul f.kMot (P 0x02)))))
  let gen := share (F.min (P 0x03) (F.min pl (F.min (F.mul (F.min fx (f.factor 6)) (P 0x03)) (F.mul f.kGen (P 0x03)))))
  if s.brake.mode = .released then (mot, gen) else (F.zero, F.zero)

/-- The ramp of R214: at `ACC` away from zero, at `DEC` toward it, stopping at zero in the run that would cross. -/
def rampSpeed (w target acc dec t : F32) : F32 :=
  if F.isZero w then F.slew F.zero target (F.mul acc t)
  else
    let neg := F.lt w F.zero
    let m := F.abs w
    let g := if neg then F.neg target else target
    let n := if F.le m g then F.min g (F.fma acc t m) else F.max (F.max g F.zero) (F.fma (F.neg dec) t m)
    if neg then F.neg n else n

/-- The reversal gate (R214): whether a reference against the motion is held. -/
def State.gateHolds (s : State) (l : LawId) (w wm : F32) : Bool :=
  F.lt (F.mul (F.sign w) (F.sign wm)) F.zero && F.lt (s.lawP l 0x09) (F.abs wm)

/-- The allocation of R216: ta and tb with the limits of the two sides. -/
def State.allocate (s : State) (l : LawId) (ta tb ha hb : F32) : F32 × F32 :=
  let la := F.neg ha
  let lb := F.neg hb
  let p :=
    if s.parN (lawId l 0x21) = 0 then
      let e := F.add (F.max (F.max (F.sub ta ha) (F.sub tb hb)) F.zero) (F.min (F.min (F.sub ta la) (F.sub tb lb)) F.zero)
      (F.sub ta e, F.sub tb e)
    else
      let ea := F.sub ta (F.clamp ta la ha)
      let eb := F.sub tb (F.clamp tb lb hb)
      (F.add (F.sub ta ea) eb, F.add (F.sub tb eb) ea)
  (F.clamp p.1 la ha, F.clamp p.2 lb hb)

/-- The partner of vectoring counts as lost (R217): not in TORQUE, or its limits not refreshed for two of its periods. -/
def State.partnerLost (s : State) (f : RunIn) (x : Side) : Bool :=
  let y := otherSide x
  decide ((s.tr y).mode ≠ .torque) ||
  decide (2 * s.periodTicks (sideReg y) < (f.at_ - (s.tr y).limAt).toNat)

/-- Own torque after vectoring, own word 12 (slewing after a loss or return), and whether the partner is lost (R215 to R217). -/
def State.vectoring (s : State) (l : LawId) (f : RunIn) (tq wm : F32) (lims : F32 × F32) : F32 × Bool × Bool :=
  let x := lawSide l
  let mode := s.parN (lawId l 0x20)
  if mode = 0 ∨ (s.tr x).mode ≠ .torque then (tq, false, false)
  else
    let other := speedLaw (otherSide x)
    let oT := f.out other 3
    let d := if mode = 2 then F.div (F.mul f.mz (s.lawP l 0x23)) (F.mul (s.lawP l 0x24) (s.lawP l 0x25)) else F.zero
    let tot := if mode = 2 then tq else F.add tq oT
    let own := if mode = 2 then (if x = .a then F.fma F.half tq (F.neg d) else F.fma F.half tq d) else tq
    let oth := if mode = 2 then (if x = .a then F.fma F.half tq d else F.fma F.half tq (F.neg d)) else oT
    let lim := if F.le F.zero (F.mul own wm) then lims.1 else lims.2
    let step := F.mul (s.lawP l 0x08) (s.lawT l)
    let prev := s.rw l rwTown
    if s.partnerLost f x then
      if s.parOn (lawId l 0x22) then (F.clamp (F.mul F.half tot) (F.neg lim) lim, true, true)
      else (F.slew prev F.zero step, true, true)
    else
      let a := if x = .a then (s.allocate l own oth lim (f.out other 2)).1 else (s.allocate l oth own (f.out other 2) lim).2
      if F.isZero (s.rw l rwVecSlew) then (a, false, false)
      else
        let n := F.slew prev a step
        (n, !F.eq n a, false)

/-- The mirrored int_w and w_ref that a follower takes in SPEED (R402). -/
def State.aligned (s : State) (x : Side) : Option (F32 × F32) :=
  let m := s.haws.mirrors[rIx (sideReg x)]
  if s.parOn (hawId 9) && s.power.straps.pair && decide ((s.tr x).mode = .speed) && s.mirrorUsable (sideReg x) then
    match m.words[6]?, m.words[7]? with
    | some a, some b => some (a, b)
    | _, _ => none
  else none

/-- The speed/torque form. Outputs: torque reference, shaft power, limit of the quadrant, own set torque, speed reference, torque request. -/
def runSpeed (l : LawId) (f : RunIn) (s0 : State) : FormOut :=
  let x := lawSide l
  let t := s0.lawT l
  let P := s0.lawP l
  let running := s0.running l
  let mode := (s0.tr x).mode
  let sp := s0.spRun l f f.sp
  let wm := f.out (obsLaw x) 4
  let tm := f.out (focLaw x) 11
  let k := s0.haws.kPair[sIx x]
  let lims := s0.torqueLimits l f wm
  let al := s0.aligned x
  let wPrev := match al with | some p => p.2 | none => s0.rw l rwWref
  let intPrev := match al with | some p => p.1 | none => s0.rw l rwIntW
  -- SPEED
  let wRamp := rampSpeed wPrev (F.clamp sp.sp (F.neg (P 0x05)) (P 0x05)) (P 0x06) (P 0x07) t
  let speed := running && decide (mode = .speed)
  let gate := speed && s0.gateHolds l wRamp wm
  let wRef := if !running then wm else if !speed then wPrev else if gate then F.zero else wRamp
  let tSpeed := F.fma (P 0x00) (F.sub wRef wm) intPrev
  -- TORQUE
  let tSet := F.slew (s0.rw l rwTreq) sp.sp (F.mul (P 0x08) t)
  let meas := F.div tm (F.max k (F.dec 1 (-3)))
  let tq := if !running then meas else if speed then tSpeed else tSet
  let vec := if running then s0.vectoring l f tSet wm lims else (tq, false, false)
  let req := if !running ∨ speed then tq else vec.1
  let lim := if F.le F.zero (F.mul req wm) then lims.1 else lims.2
  let raw := F.mul k req
  let tRef := if running then F.clamp raw (F.neg lim) lim else tm
  let intW := if !running then req else if !speed then intPrev
    else integClamp intPrev (F.mul (F.mul (P 0x01) (F.sub wRef wm)) t) raw (F.neg lim) lim
  let own := F.min (if F.le F.zero (F.mul req wm) then P 0x02 else P 0x03) (F.div (P 0x04) (F.max (F.abs wm) F.one))
  let clampedExt := (F.lt raw (F.neg lim) || F.lt lim raw) && F.lt lim own
  -- the zero ramp still lowers the reference (R95, R109)
  let ramps := sp.ramp || (sp.zero && !F.eq wRef wPrev)
  let fe := if speed then s0.feRun l (F.sub wRef wm) (clampedExt || ramps) else []
  -- events
  let s1 := s0.spStatus l f
  let s2 := if gate && !(s0.tr x).revHeld then s1.raiseReg evReversalHeld (sideReg x) wm (P 0x09) else s1
  let s3 := if vec.2.2 && !(s0.tr x).vecLost then s2.raiseReg evVecPartnerLost (sideReg x) 0 0 else s2
  let clampOn := decide (s0.brake.mode = .applied) && driveMode mode && !F.isZero sp.sp
  let s4 := if clampOn && !(s0.tr x).clampTold then s3.raiseReg evBrakeClamp (sideReg x) sp.sp 0 else s3
  let s5 := s4.modTr x (fun y => { y with
    revHeld := gate, vecLost := vec.2.2, clampTold := decide (s0.brake.mode ≠ .released) && (y.clampTold || clampOn), tRef := tRef })
  { st := s5
    outs := [tRef, F.mul tRef wm, lim, tSet, wRef, req]
    words := sp.words ++ fe ++ [(rwWref, wRef), (rwIntW, intW), (rwTreq, if running ∧ !speed then tSet else req), (rwTown, req),
      (rwVecSlew, if vec.2.1 then F.one else F.zero)] }

/-! ### Observer (R100, R218, R219, R221, R224 to R227) -/

/-- The encoder's electrical angle (R218): the count since the index pulse, negated under `ENC_INV` and `DIR_INV`, to the nearest code. -/
def State.encAngle (s : State) (x : Side) (count : Half) : Angle :=
  let l := obsLaw x
  let neg := s.parOn (lawId l 0x20) != s.parOn (comId (sideReg x) 0)
  let c := if neg then -count.toInt else count.toInt
  let lines := max 1 (s.parN (lawId l 0x04))
  BitVec.ofInt 16 (F.nearest (c * Int.ofNat (s.parN (lawId (focLaw x) 0x04)) * 65536) (4 * lines)) + F.toAngle (s.lawP l 0x05)

/-- The mate's angle and electrical speed for CATCH, where usable (R225): its last mirror, advanced by the mirror's age. -/
def State.mateAngle (s : State) (x : Side) : Option (Angle × F32) :=
  let r := sideReg x
  let m := s.haws.mirrors[rIx r]
  if (s.tr x).mode = .catch ∧ s.parOn (comId r 0x08) ∧ s.mirrorUsable r then
    match m.words[0]?, m.words[1]?, m.words[2]? with
    | some a, some w, some c =>
      if F.le (s.comP r 0x03) c then
        some (a.setWidth 16 + F.toAngle (s.comP r 0x09) + F.toAngle (F.mul w (ticksSec (s.mirrorAge r))), w)
      else none
    | _, _, _ => none
  else none

/-- The filtered flux and its timers (R226), in a run that meets the filter conditions. -/
def State.fluxRun (s : State) (x : Side) (psiHat : F32) : State :=
  let r := sideReg x
  let t := s.lawT (obsLaw x)
  let n := s.periodTicks r
  let time := s.comP r 0x0C
  let nom := s.lawP (focLaw x) 0x03
  let p := F.filter (s.tr x).psi psiHat t (F.mul (F.dec 25 (-2)) time)
  let low := F.lt p (F.mul (s.comP r 0x0A) nom)
  let high := F.lt (F.mul (s.comP r 0x0B) nom) p
  s.modTr x (fun y =>
    let inT := if low || high then 0 else y.fluxInT + n
    let back := decide (secTicks time ≤ inT)
    { y with
      psi := p, fluxLoT := if low then y.fluxLoT + n else 0, fluxHiT := if high then y.fluxHiT + n else 0,
      fluxInT := inT, loTold := y.loTold && !back, hiTold := y.hiTold && !back })

/-- An encoder event (R219): the encoder is out until a region reset; with `ENC_FALLBACK` = 0 it is a rotor loss. -/
def State.encEvent (s : State) (c : Cause) (x : Side) (v : F32) (inUse : Bool) : State :=
  let fall := s.parOn (lawId (obsLaw x) 0x22)
  let cls := if fall then RClass.note else RClass.limit
  let s1 := (s.raiseCls c cls (regCode (sideReg x)) (lawClu (obsLaw x)) 0xFF v (wd (clsRank cls)) 0).modTr x (fun y => { y with
    encOut := true, nEnc := 0, nLost := if inUse then 0 else y.nLost })
  if fall || !driveMode (s.tr x).mode then s1 else s1.loseRotor x

/-- The counts of CATCH (R224, R225). `mate` says that this run used the mate's angle: lock is declared at its end. -/
def State.catchRun (s : State) (x : Side) (conf eMag : F32) (mate : Bool) : State :=
  let r := sideReg x
  let n := s.parN (comId r 0x06)
  let tr := s.tr x
  if tr.mode ≠ .catch then s
  else
    let lock := if mate then n else if F.le (s.comP r 0x03) conf then tr.nLock + 1 else 0
    let still := if !tr.catchAsc && decide (s.parN (lawId (obsLaw x) 0x04) = 0) &&
        F.lt eMag (F.mul F.half (s.lawP (obsLaw x) 0x02)) then tr.nStill + 1 else 0
    let s1 := s.modTr x (fun y => { y with
      nLock := lock, nStill := still, catchT := y.catchT + s.periodTicks r, mateRuns := if mate then n else y.mateRuns })
    if still = n ∧ !tr.locked ∧ !tr.still ∧ lock < n then
      (s1.raiseReg evCatchStandstill r eMag (F.mul F.half (s.lawP (obsLaw x) 0x02))).modTr x (fun y => { y with still := true })
    else s1

/-- The runs that the observer has left to confirm a lock on the mate's angle (R225), in every mode after CATCH. Where they pass without
confidence it is a rotor loss in HOLD, TORQUE and SPEED; in FREE and ASC, where no torque rests on the angle, the count ends (DEDUCED,
log 96). -/
def State.confirmRun (s : State) (x : Side) (sure : Bool) : State :=
  let tr := s.tr x
  if tr.mode = .catch ∨ tr.mateRuns = 0 then s
  else if sure then s.modTr x (fun y => { y with mateRuns := 0, nLost := 0 })
  else if tr.mateRuns = 1 then
    (let s1 := s.modTr x (fun y => { y with mateRuns := 0 })
     if driveMode tr.mode then s1.loseRotor x else s1)
  else s.modTr x (fun y => { y with mateRuns := y.mateRuns - 1 })

/-- The rotor-loss count and the end of a low-speed start or of a mate's confirmation (R220, R221, R225). `src` governed this run. -/
def State.lossRun (s : State) (x : Side) (conf : F32) (src : AngleSrc) : State :=
  let r := sideReg x
  let tr := s.tr x
  let sure := F.le (s.comP r 0x03) conf
  if !driveMode tr.mode then (s.modTr x (fun y => { y with nLost := 0 })).confirmRun x sure
  else
    if tr.start then
      let n := if sure then tr.nLock + 1 else 0
      if s.parN (comId r 0x06) ≤ n then
        s.modTr x (fun y => { y with start := false, blend := s.parN (comId r 0x14), nLock := 0, nLost := 0 })
      else s.modTr x (fun y => { y with nLock := n })
    else if tr.mateRuns ≠ 0 then s.confirmRun x sure
    else if src = .observer then
      s.modTr x (fun y => { y with nLost := if F.lt conf (s.comP r 0x04) then y.nLost + 1 else 0 })
    else s.modTr x (fun y => { y with nLost := 0 })

/-- The observer form. Outputs: angle code, electrical speed, flux estimate, confidence, mechanical speed. -/
def runObs (l : LawId) (f : RunIn) (s0 : State) : FormOut :=
  let x := lawSide l
  let r := sideReg x
  let t := s0.lawT l
  let P := s0.lawP l
  let Q := s0.lawP (focLaw x)
  let tr := s0.tr x
  let i := s0.trVec f x false
  let u := s0.trVec f x true
  let mate := s0.mateAngle x
  let th0 : Angle := match mate with | some m => m.1 | none => (s0.rw l rwTheta).setWidth 16
  let int0 := match mate with | some m => m.2 | none => s0.rw l rwIntPll
  -- extended back-EMF with the voltage applied in the previous period
  let inv := F.recip t
  let emf := fun v i i1 => F.sub (F.fma (F.neg (Q 0x00)) i v) (F.mul (Q 0x02) (F.mul (F.sub i i1) inv))
  let eal := emf (s0.rw l rwVal1) i.1 (s0.rw l rwIal)
  let ebe := emf (s0.rw l rwVbe1) i.2 (s0.rw l rwIbe)
  let e := park eal ebe th0
  let idq := park i.1 i.2 th0
  let err := F.div (F.neg e.1) (F.max (F.abs e.2) (P 0x02))
  let we := F.fma (P 0x00) err int0
  let int1 := F.fma (F.mul (P 0x01) err) t int0
  let th1 : Angle := th0 + F.toAngle (F.mul we t)
  let wm := F.div we (F.max (Q 0x04) F.one)
  let psiHat := F.sub (F.div e.2 (F.max (F.abs we) (P 0x03))) (F.mul (F.sub (Q 0x01) (Q 0x02)) idq.1)
  let cf := F.mul (F.min F.one (F.div (F.abs e.2) (P 0x02))) (F.max F.zero (F.sub F.one (F.mul F.two (F.abs err))))
  let conf := if s0.trOvr f x true then F.zero else cf
  -- the voltage applied now, for the next run
  let v := if trShorted tr then (F.zero, F.zero) else if driveMode tr.mode then (f.out (focLaw x) 6, f.out (focLaw x) 7) else u
  -- encoder
  let hasEnc := decide (s0.parN (lawId l 0x04) ≠ 0)
  let encTh := s0.encAngle x f.agreed.encCount
  let useEnc := hasEnc && f.agreed.encIndex && !tr.encOut
  let sure := F.le (s0.comP r 0x03) conf
  let diff := F.abs (F.angleDiff encTh th1)
  let nEnc := if useEnc && sure && F.lt (P 0x21) diff then tr.nEnc + 1 else 0
  let src : AngleSrc :=
    if useEnc then .encoder else if mate.isSome then .mate else if tr.start then .lowSpeed else .observer
  let theta := if useEnc then encTh else th1
  -- status kept after every voted run (R222)
  let trusted := F.le (s0.comP r 0x04) conf
  let psi0 := if tr.psiSet then tr.psi else Q 0x03
  let s1 := s0.modTr x (fun y => { y with
    psi := psi0, psiSet := true, conf := conf, speed := wm, angle := theta, src := src, nEnc := nEnc, enc := f.agreed.encCount })
  let s2 := if sure && F.le (s0.comP r 0x0E) (F.abs we) then s1.fluxRun x psiHat else s1
  let s3 :=
    if trusted then
      s2.modTr x (fun y => { y with
        good := true, eLast := F.mul F.sqrt3 (F.mul (F.abs we) (F.max y.psi (Q 0x03))) })
    else s2
  let s4 := (s3.catchRun x conf (mag eal ebe) mate.isSome).lossRun x conf src
  let s5 :=
    if hasEnc && f.agreed.encFault && !tr.encOut then s4.encEvent evEncFault x F.zero useEnc
    else if useEnc && decide (s0.parN (comId r 0x05) ≤ nEnc) then s4.encEvent evEncMismatch x diff true
    else s4
  { st := s5
    outs := [theta.setWidth 32, we, psiHat, conf, wm]
    words := s0.feRun l err false ++ [(rwTheta, th1.setWidth 32), (rwIntPll, int1), (rwWe, we), (rwIal, i.1), (rwIbe, i.2),
      (rwVal1, v.1), (rwVbe1, v.2)] }

end Sys2Proof.Machine
end

