-- ==== Sys2Proof/Machine/Actuators.lean ====
section
/-! DEFINITION. The gear actuators: hall decoding, the position form (`LAW11` to `LAW13`, R106, R291 to R294) and the modes (R295 to R298). -/

namespace Sys2Proof.Machine

/-! ### Hall states (R291, R292) -/

/-- The sector of a hall state under a sequence; none for the states 0 and 7. -/
def hallSector (order : Nat) (h : Nat) : Option Nat :=
  let seq := if order = 0 then [1, 3, 2, 6, 4, 5] else [1, 5, 4, 6, 2, 3]
  let i := seq.idxOf h
  if i < 6 then some i else none

/-- What a hall state adds to the count: the edge of an adjacent move, and whether it moved two sectors or more. -/
def hallMove (prev now : Option Nat) : Int × Bool :=
  match prev, now with
  | some p, some n =>
    let d := (n + 6 - p) % 6
    if d = 0 then (0, false) else if d = 1 then (1, false) else if d = 5 then (-1, false) else (0, true)
  | _, _ => (0, false)

/-- The hall decoding of a run: counts, direction, and HALL_FAULT after three bad runs in a row. The last valid sector stays the reference
over an invalid state (log 19). -/
def State.hallRun (s : State) (a : ActId) (l : LawId) (g : Agreed) : State :=
  let x := s.actu a
  let now := hallSector (s.parN (lawId l 0x20)) g.hall.toNat
  let m := hallMove x.sector now
  let bad := now.isNone || m.2
  let n := if bad then x.badRuns + 1 else 0
  let ok := if bad then 0 else x.okRuns + 1
  let edges := x.edges + m.1
  let s1 := s.modAct a (fun y => { y with
    hall := g.hall, sector := if now.isSome then now else y.sector, edges := edges
    forward := if m.1 = 0 then y.forward else decide (0 < m.1)
    badRuns := n, okRuns := ok, fault := y.fault && decide (ok < 3) })
  if n = 3 then
    (s1.modAct a (fun y => { y with
      fault := true, freeDue := true, faults := satInc y.faults
      posOk := y.posOk && s.parOn (lawId l 0x07)})).raiseLaw evHallFault l (a.val + 1) 0 0
  else s1

/-! ### Quantities (R293) -/

/-- Edge interval in seconds. -/
def edgeSec (ticks : Word) : F32 := F.max (F.ofRat (Int.ofNat (25 * ticks.toNat)) (10 ^ 10)) (F.dec 1 (-6))

/-- No edge for four intervals or for 100 ms. -/
def hallStill (g : Agreed) : Bool :=
  decide (g.edgeTicks = 0) || decide (4 * g.edgeTicks.toNat ≤ g.sinceEdge.toNat) || decide (40000000 ≤ g.sinceEdge.toNat)

def thirdPi : F32 := 0x3F860A92
def sixthPi : F32 := 0x3F060A92

/-- Output speed and electrical speed. -/
def State.hallSpeed (s : State) (a : ActId) (l : LawId) (g : Agreed) : F32 × F32 :=
  if hallStill g then (F.zero, F.zero)
  else
    let r := F.recip (edgeSec g.edgeTicks)
    let d := fun v => if (s.actu a).forward then v else F.neg v
    (d (F.mul (s.lawP l 0x22) r), d (F.mul thirdPi r))

/-- The commutation angle: the sector's centre, or the last edge's boundary turned on inside the sector. -/
def State.hallAngle (s : State) (a : ActId) (l : LawId) (g : Agreed) (we : F32) : Angle :=
  let x := s.actu a
  let ofs := F.toAngle (s.lawP l 0x21)
  let sec := BitVec.ofNat 16 (x.sector.getD 0)
  if s.parOn (lawId l 0x0A) && F.le (s.lawP l 0x2A) (F.abs we) then
    let turn := F.mul we (F.ofRat (Int.ofNat (25 * g.sinceEdge.toNat)) (10 ^ 10))
    if x.forward then ofs + F.toAngle thirdPi * sec + F.toAngle (F.clamp turn F.zero thirdPi)
    else ofs + F.toAngle thirdPi * (sec + 1) + F.toAngle (F.clamp turn (F.neg thirdPi) F.zero)
  else ofs + F.toAngle thirdPi * sec + F.toAngle sixthPi

/-- The commanded current before its clamp, and the following error, of a run (R106, R295). -/
structure ActCmd where
  iRef : F32
  wErr : F32
  err  : F32
  lim  : F32
  atHi : Bool
  atLo : Bool

def State.actCmd (s : State) (a : ActId) (l : LawId) (sp ring x w iAct intWx : F32) : ActCmd :=
  let P := s.lawP l
  let iMax := P 0x06
  let mode := (s.actu a).mode
  if mode = .current then
    let i := F.clamp ring (F.neg iMax) iMax
    { iRef := i, wErr := F.zero, err := F.sub i iAct, lim := iMax, atHi := false, atLo := false }
  else
    let goal := if mode = .park then P 0x25 else F.clamp sp (P 0x23) (P 0x24)
    let lim := if mode = .park then F.min (P 0x28) iMax else iMax
    let wRef := F.clamp (F.mul (P 0x00) (F.sub goal x)) (F.neg (P 0x01)) (P 0x01)
    let raw := F.fma (P 0x02) (F.sub wRef w) intWx
    { iRef := F.clamp raw (F.neg lim) lim, wErr := F.sub wRef w, err := F.sub goal x, lim := lim, atHi := F.lt lim raw
      atLo := F.lt raw (F.neg lim) }

/-- What parking and slipping make of the position (R297). -/
def State.parkRun (s : State) (a : ActId) (l : LawId) (x : F32) : State :=
  let y := s.actu a
  let off := F.abs (F.sub x (s.lawP l 0x25))
  let tol := s.lawP l 0x26
  if y.mode ≠ .park then s
  else if y.parked then
    let slip := decide (s.parN (lawId l 0x29) < (y.edges - y.parkAt).natAbs) ||
      (s.parOn (lawId l 0x07) && F.lt (F.mul F.two tol) off)
    if slip && !y.slip then
      (s.modAct a (fun z => { z with slip := true })).raiseCls evParkSlip .note 6 0xF (a.val + 1) off tol 0
    else s
  else s.modAct a (fun z => { z with settleT := if F.le off tol then z.settleT + s.periodTicks .act else 0 })

/-- The position form. Outputs: the three high-side duties and the position. -/
def runPosition (l : LawId) (f : RunIn) (s0 : State) : FormOut :=
  let a := lawAct l
  let P := s0.lawP l
  let t := s0.lawT l
  let running := s0.running l
  let s1 := (s0.spStatus l f).hallRun a l f.agreed
  let sp := s0.spRun l f f.sp
  let iu := f.ain (48 + 2 * a.val)
  let iv := f.ain (49 + 2 * a.val)
  let iw := F.neg (F.add iu iv)
  let spd := s1.hallSpeed a l f.agreed
  let th := s1.hallAngle a l f.agreed spd.2
  let iab := clarke iu iv iw
  let iAct := (park iab.1 iab.2 th).2
  let analog := s0.parOn (lawId l 0x07)
  let x := if analog then F.fma (P 0x08) (f.ain (41 + a.val)) (P 0x09) else F.mul (P 0x22) (F.ofInt (s1.actu a).edges)
  let int0 := s0.rw l rwIntWx
  let c0 := s1.actCmd a l sp.sp f.sp x spd.1 iAct int0
  -- TRACKING: the current reference equals the measured current and the voltage is zero (R89)
  let intWx := if running then int0 else F.sub iAct (F.mul (P 0x02) c0.wErr)
  let iRef := if running then c0.iRef else iAct
  let ei := F.sub iRef iAct
  let intIa := if running then s0.rw l rwIntIa else F.zero
  let v := F.fma (P 0x04) ei intIa
  let vm := F.max (f.ain 40) F.one
  let ab := invPark F.zero v th
  let d := svm ab.1 ab.2 vm F.one
  let full := F.mul vm kInvSqrt3
  let intWx1 := if running then integ int0 (F.mul (F.mul (P 0x03) c0.wErr) t) c0.atHi c0.atLo (decide ((s0.actu a).mode = .current)) else intWx
  let intIa1 := if running then integ intIa (F.mul (F.mul (P 0x05) ei) t) (F.lt full v) (F.lt v (F.neg full)) false else intIa
  let s2 := s1.modAct a (fun y => { y with
    pos := x, speed := spd.1, posOk := if analog then !f.ainOvr (41 + a.val) else y.posOk })
  { st := s2.parkRun a l x
    outs := [d.1, d.2.1, d.2.2, x]
    words := sp.words ++ s0.feRun l c0.err (sp.ramp || ((c0.atHi || c0.atLo) && F.lt c0.lim (P 0x06))) ++
      [(rwIntWx, intWx1), (rwIntIa, intIa1)] }

/-! ### Modes (R295 to R297) -/

def actModeOf : Nat → Option ActMode
  | 0 => some .off | 1 => some .free | 2 => some .current | 3 => some .position | 4 => some .park | _ => none

/-- A mode that drives its bridges. -/
def actDrives : ActMode → Bool
  | .current => true | .position => true | .park => true | .off => false | .free => false

/-- Enter a mode; PARK begins moving. -/
def State.actEnter (s : State) (a : ActId) (m : ActMode) : State :=
  let s1 := s.modAct a (fun y => { y with
    mode := m, parked := false, settleT := 0, slip := false, parkDue := false, freeDue := false })
  if m = .off then (s1.disarmAll (actBridges a)).setRun (actLaw a) .stopped
  else if m = .free then each (actBridges a) (State.select · .off) (s1.setRun (actLaw a) .tracking)
  else each (actBridges a) (State.select · .pwm) (s1.setRun (actLaw a) .running)

/-- PARK, parked: the three low sides short the windings. -/
def State.actPark (s : State) (a : ActId) : State :=
  each (actBridges a) (State.select · .lowOn)
    ((s.modAct a (fun y => { y with parked := true, parkDue := false, slip := false, parkAt := y.edges })).setRun (actLaw a) .tracking)

/-- The triggers of R297 for one actuator: REGION-SAFE, DEVICE-SAFE and the ISOLATE of one of its bridges among them. -/
def State.actTriggers (s : State) (a : ActId) : State :=
  let x := s.actu a
  if s.isSafe .act || s.power.devSafe then (if x.mode = .free then s else s.actEnter a .free)
  else if (actBridges a).any s.isIso && actDrives x.mode then s.actEnter a .free
  else if x.freeDue then (if actDrives x.mode then s.actEnter a .free else s.modAct a (fun y => { y with freeDue := false }))
  else if x.slip && x.parked then s.actEnter a .park
  else if x.parkDue && decide (x.mode = .park) && !x.parked then s.actPark a
  else s

/-- The actuators at the ACT period start. -/
def State.actPeriod (s : State) : State := each allActs State.actTriggers s

/-- A halted region, or one of the actuator's bridges or its engine (rank 6 of R453). -/
def State.actDebug (s : State) (a : ActId) (m : ActMode) : Bool :=
  let now := (s.actu a).mode
  s.regHalt .act ||
  (actDrives m && (actBridges a).any (fun b => decide ((s.brg b).arm = .halted))) ||
  (!actDrives now && actDrives m && (s.law (actLaw a)).halted)

/-- The cases of R296 beyond REGION-SAFE. -/
def State.actRule (s : State) (a : ActId) (m : ActMode) : Bool :=
  let x := s.actu a
  (decide (x.mode = .off) && decide (m ≠ .free) && decide (m ≠ .off)) ||
  (actDrives m && (!(actBridges a).all s.isArmed || x.fault)) ||
  ((decide (m = .position) || decide (m = .park)) && !x.posOk)

/-- The rank that refuses an actuator mode command, 0 for none. -/
def State.actRefusal (s : State) (a : ActId) (m : ActMode) : Nat :=
  firstRank [s.safeRank .act, rank 6 (s.actDebug a m), rank 12 (s.testHolds .act), rank 10 (s.actRule a m)]

/-- SET_MODE of an actuator; a trigger of the same period start comes first. -/
def State.actCommand (s0 : State) (a : ActId) (m : ActMode) (tag : Half) : State :=
  let s := s0.actTriggers a
  let k := s.actRefusal a m
  if k ≠ 0 then s.raiseCls evActModeRefused .note 6 0xF (a.val + 1) (wd (actCode m)) (wd k) tag
  else if (s.actu a).mode = m then s else s.actEnter a m

/-- ACT_PARKED (R297): the position has stayed within tolerance for `T_PARK_SETTLE`; the actuator is parked at the next period start. -/
def doActParked (a : ActId) (s : State) : State :=
  let x := s.actu a
  let l := actLaw a
  if x.mode = .park ∧ !x.parked ∧ !x.parkDue ∧ x.settleT ≠ 0 ∧ secTicks (s.lawP l 0x27) ≤ x.settleT then
    (s.modAct a (fun y => { y with parkDue := true })).raiseCls evActParked .note 6 0xF (a.val + 1) 0 0 0
  else s

def execActParked (a : ActId) (s : State) : Host.Outcome State Fault Refusal := whenLive s (doActParked a)

/-- SET_POSITION (R294): with `POS_SRC` = 0 the edge count becomes the one nearest to the commanded position, and the position is valid. -/
def State.setPos (s : State) (a : ActId) (v : F32) : State :=
  let l := actLaw a
  if s.parOn (lawId l 0x07) then s
  else
    let q := F.toRat v
    let p := F.toRat (s.lawP l 0x22)
    let n := F.nearest (q.1 * Int.ofNat p.2) (q.2 * p.1.toNat)
    s.modAct a (fun y => { y with edges := n, posOk := true, pos := F.mul (s.lawP l 0x22) (F.ofInt n) })

end Sys2Proof.Machine
end

