-- ==== Sys2Proof/Machine/Brake.lean ====
section
/-! DEFINITION. Safe brake control (R301 to R308). Brake records apply at slack points, which are SUP period starts (R65), so they
take effect as they apply. -/

namespace Sys2Proof.Machine

/-- A word of `LAW15`. -/
def State.brkP (s : State) (w : Nat) : F32 := s.lawP 15 w

/-- A BRAKE apply record: accepted in every mode; a running test is aborted (R303, R308). -/
def State.brakeApply (s : State) (tag : Half) : State := s.abortBrakeTest.brakeOff tag

/-- The first case of R303 that refuses a release; 0 for none. -/
def State.releaseCase (s : State) : Nat :=
  if s.power.devSafe || s.power.brownout then 1
  else if s.brake.testFailed then 2
  else if s.sto.block && s.parOn (lawId 15 0x2C) then 3
  else if s.brake.mode = .test then 4
  else if F.isZero (s.brkP 0x20) then 5
  else 0

/-- Pull-in begins: both switches on, APPLIED with `BRK.PULLING` set (R302). -/
def State.pullIn (s : State) (tag : Half) : State :=
  if s.brake.mode = .applied ∧ !s.brake.pulling then
    s.modBrake (fun b => { b with
      pulling := true, judge := false, pulled := false, hs := true, ls := true, pulse := 0, bad := [], miss := 0,
      tag := tag })
  else s

/-- A BRAKE release record: a case of R303 refuses it; one that arrives in a brake test aborts the test (R308). -/
def State.brakeRelease (s : State) (tag : Half) : State :=
  if s.releaseCase ≠ 0 then (s.raiseBrk evBrkReleaseRefused 0xFF (wd s.releaseCase) 0 tag).abortBrakeTest
  else s.pullIn tag

/-- The sides that `BT_SEL` names, TRA before TRB (R307). -/
def State.btSides (s : State) : List Side := [Side.a, Side.b].filter s.btSel

/-- The first condition of R306 that fails; 0 for none. -/
def State.testCase (s : State) : Nat :=
  if s.brake.mode ≠ .applied ∨ s.brake.pulling then 1
  else if !(s.btSides.all (fun x => decide ((s.tr x).mode = .hold) && decide ((s.tr x).src = .encoder))) then 2
  else if !(s.btSides.all (fun x => F.lt (F.abs (s.tr x).speed) (s.brkP 0x34))) then 3
  else if s.sto.block then 4
  else if s.power.brownout then 5
  else 0

/-- A BRAKE test record (R306, R307): step 1 begins at the period start of the first region that follows. -/
def State.brakeTest (s : State) (tag : Half) : State :=
  if s.testCase ≠ 0 then s.raiseBrk evBrakeTestRefused 0xFF (wd s.testCase) 0 tag
  else
    match s.btSides with
    | [] => s
    | x :: _ => s.modBrake (fun b => { b with
        mode := .test, test := some { side := x, step := 0, torque := 0, held := 0, enc := 0, encSet := false, tag := tag } })

/-- The running test, where the observer run of its side that is in flight still judges it (R319). -/
def State.testInRun (s : State) : Option BrakeTest :=
  s.brake.test.filter (fun t => (s.law (obsLaw t.side)).flight.isSome)

/-- A brake fault: both switches off, SUP to REGION-SAFE, hence DEVICE-SAFE (R305). A test that fails in the same run still sets
`BRK.TEST_FAILED` (R319). -/
def State.brakeFault (s : State) (c : Cause) (row : Nat) (d0 d1 : F32) : State :=
  (((s.modBrake (fun b => { b with
    late := s.testInRun, lastRow := if row = 0 then b.lastRow else BitVec.ofNat 3 row })).raiseBrk c 0xFF d0 d1 0).brakeOff 0).safeBy
    .sup c

/-- What a row of R304 demands of the readback: the level of `BRK_FB`, and whether `BRK_ISNS` must read zero. -/
def rowWant (row : Nat) : Bool × Bool :=
  match row with
  | 1 => (false, true) | 2 => (true, true) | 3 => (true, false) | 4 => (false, false) | _ => (true, true)

/-- The readback against a row: the measured value and the limit it breaks, where it does (R301, R304). -/
def State.rowMiss (s : State) (row : Nat) (v i : F32) : Option (F32 × F32) :=
  let hiLim := F.mul (F.dec 7 (-1)) s.power.vsupNow
  let loLim := F.mul (F.dec 2 (-1)) s.power.vsupNow
  let want := rowWant row
  if want.1 && !F.le hiLim v then some (v, hiLim)
  else if !want.1 && !F.le v loLim then some (v, loLim)
  else if want.2 && !F.lt i (s.brkP 0x25) then some (i, s.brkP 0x25)
  else none

/-- Judge a conversion outside pulses: three consecutive mismatches are one failure (R304). -/
def State.judgeRow (s : State) (row : Nat) (v i : F32) : State :=
  match s.rowMiss row v i with
  | none => s.modBrake (fun b => { b with miss := 0 })
  | some m =>
    if s.brake.miss + 1 < 3 then s.modBrake (fun b => { b with miss := b.miss + 1 })
    else (s.modBrake (fun b => { b with miss := 0 })).brakeFault evBrkReadbackFail row m.1 m.2

/-- The mean over one SUP period in RELEASED (R304, R319). -/
def State.judgeMean (s : State) : State :=
  if s.brake.meanDue && decide (s.brake.nI ≠ 0) then
    let mean := F.div s.brake.sumI (F.ofNat s.brake.nI)
    let s1 := s.modBrake (fun b => { b with meanDue := false, sumI := 0, nI := 0 })
    if F.lt mean (s.brkP 0x23) then s1.brakeFault evBrkCoilOpen 3 mean (s.brkP 0x23)
    else if F.lt (s.brkP 0x24) mean then s1.brakeFault evBrkReadbackFail 3 mean (s.brkP 0x24)
    else s1
  else s

/-- A conversion of `BRK_FB` and `BRK_ISNS`, in volts at the lands, judged against `VSUP` as it is then (R301 to R305). -/
def doBrakeConversion (fb isns vsup : F32) (s : State) : State :=
  let v := F.mul fb (s.brkP 0x2A)
  let i := F.mul isns (s.brkP 0x2B)
  let s1 := (s.modPower (fun p => { p with vsupNow := vsup })).modBrake (fun b => { b with
    fbHigh := F.le (F.mul (F.dec 7 (-1)) vsup) v, iCoil := i })
  let b := s1.brake
  if F.lt (s.brkP 0x24) i then s1.brakeFault evBrkOvercurrent 0 i (s.brkP 0x24)
  else if b.pulling then
    if b.judge then
      (if F.lt i (s.brkP 0x21) then s1.brakeFault evBrkPullFail 0 i (s.brkP 0x21)
       else s1.modBrake (fun b => { b with judge := false, pulled := true }))
    else s1
  else if b.pulse ≠ 0 then s1.modBrake (fun b => { b with bad := ((s.tim.devTime, s1.rowMiss b.pulse.toNat v i) :: b.bad).take 2 })
  else if b.mode = .released then
    let s2 := s1.judgeMean
    let s3 := if s2.brake.mode = .released then s2.judgeRow 3 v i else s2
    if s3.brake.mode = .released then s3.modBrake (fun b => { b with sumI := F.add b.sumI i, nI := b.nI + 1 }) else s3
  else s1.judgeRow 1 v i

/-- BRAKE_CONVERSION (R301). -/
def execBrakeConversion (fb isns vsup : F32) (s : State) : Host.Outcome State Fault Refusal :=
  whenLive s (doBrakeConversion fb isns vsup)

/-- A test pulse starts: the on-pulse of the high side in APPLIED, the two off-pulses in turn in RELEASED (R304). None runs during
pull-in or inside another. -/
def doTestPulse (s : State) : State :=
  let b := s.brake
  if b.pulling ∨ b.pulse ≠ 0 then s
  else if b.mode = .released then
    if b.nextLow then s.modBrake (fun b => { b with pulse := 5, nextLow := false, hs := true, ls := false, bad := [] })
    else s.modBrake (fun b => { b with pulse := 4, nextLow := true, hs := false, ls := true, bad := [] })
  else s.modBrake (fun b => { b with pulse := 2, hs := true, ls := false, bad := [] })

/-- BRK_TEST_PULSE (R304). -/
def execBrkTestPulse (s : State) : Host.Outcome State Fault Refusal := whenLive s doTestPulse

/-- The first mismatch of a pulse that ends now, in the order of its conversions: the last conversion counts always, one before it where it too fell in
the last 10 us (R304). -/
def Brake.pulseMiss (b : Brake) (now : Time) : Option (F32 × F32) :=
  match b.bad with
  | [] => none
  | [x] => x.2
  | x :: y :: _ => if (now - y.1).toNat ≤ 4000 then y.2.or x.2 else x.2

/-- A pulse ends: the conversions of its last 10 us, one or two, judge it; the switches return to their mode (R304). -/
def doTestPulseEnd (s : State) : State :=
  let b := s.brake
  if b.pulse = 0 then s
  else
    let on := decide (b.mode = .released)
    let s1 := s.modBrake (fun b => { b with pulse := 0, hs := on, ls := on, bad := [] })
    match b.pulseMiss s.tim.devTime with
    | some m => s1.brakeFault evBrkReadbackFail b.pulse.toNat m.1 m.2
    | none => s1.modBrake (fun b => { b with lastTp := s.tim.tideIndex })

/-- BRK_TEST_PULSE_END (R304). -/
def execBrkTestPulseEnd (s : State) : Host.Outcome State Fault Refusal := whenLive s doTestPulseEnd

/-- `BRK_PULL_TIME` ends (R302). -/
def doPullInEnd (s : State) : State :=
  if s.brake.pulling && !s.brake.pulled then s.modBrake (fun b => { b with judge := true }) else s

/-- PULL_IN_END (R302). -/
def execPullInEnd (s : State) : Host.Outcome State Fault Refusal := whenLive s doPullInEnd

/-- The brake's part of a SUP period start: RELEASED after a good pull-in (R302), and the mean of the period is due (R304). -/
def State.brakePeriod (s : State) : State :=
  if s.brake.pulling && s.brake.pulled then
    (s.modBrake (fun b => { b with
      mode := .released, pulling := false, pulled := false, sumI := 0, nI := 0, meanDue := false,
      nextLow := false, miss := 0})).raiseBrk evBrkReleased 0xFF 0 0 s.brake.tag
  else if s.brake.mode = .released then s.modBrake (fun b => { b with meanDue := true })
  else s

end Sys2Proof.Machine
end

