-- ==== Sys2Proof/Machine/ChForms.lean ====
section
/-! DEFINITION. The forms of the charger region: PFC (`LAW08`, R103, R269, R275, R276), DAB power (`LAW09`, R104, R279) and charge profile
and power path (`LAW10`, R105, R278 to R285, R456). -/

namespace Sys2Proof.Machine

/-! ### The AC source (R273 to R276) -/

/-- The lowest of the four AC limits. -/
def State.acMin (s : State) : F32 :=
  let c := s.chg
  F.min (F.min c.icp c.ipp) (F.min c.iph (s.comP .chg 0x00))

/-- Pilot, cable and phase count are valid and the lowest limit is above zero. -/
def State.acNow (s : State) : Bool :=
  s.chg.pilotOk && decide (s.chg.cable = .valid) && decide (s.chg.phases ≠ 0) && F.pos s.acMin

/-- What a change of one of the inputs does: an invalid source is lost at once, a valid one begins to settle. -/
def State.srcSettle (s : State) : State :=
  if s.acNow then s.modChg (fun c => { c with settling := true, settleAt := if c.settling then c.settleAt else s.tim.devTime })
  else s.modChg (fun c => { c with settling := false, srcOk := false, iSrc := F.zero })

/-- The limit of a set of present grid phases, and its count code: 3 three phases, 1 phase 1 alone, 0 any other set (R275). -/
def State.phaseSet (s : State) (v : Vector F32 3) : BitVec 2 × F32 :=
  let on := fun (k : Fin 3) => F.le (s.comP .chg 0x03) v[k]
  if on 0 && on 1 && on 2 then (3, s.comP .chg 0x02)
  else if on 0 && !on 1 && !on 2 then (1, s.comP .chg 0x01)
  else (0, F.zero)

/-- The RMS over the last grid period (R269): a period is one turn of the grid angle, over which each run adds the squares of the phase
voltages; at its end their mean roots are the new values. -/
structure GridSum where
  rms   : Vector F32 3
  words : List (Nat × F32)

/-- One run of the sums, for an angle advance in 16-bit codes. -/
def State.gridSum (s : State) (va vb vc : F32) (step : Int) : GridSum :=
  let sq := fun (k : Nat) (v : F32) => F.fma v v (s.rw 8 (rwGridSq k))
  let a := sq 0 va
  let b := sq 1 vb
  let c := sq 2 vc
  let n := F.add (s.rw 8 rwGridN) F.one
  let turn := F.toInt (s.rw 8 rwGridTurn) + step
  let done := decide (65536 ≤ turn.natAbs)
  let root := fun (x : F32) => F.sqrt (F.div x n)
  let keep := fun (x : F32) => if done then F.zero else x
  { rms := if done then #v[root a, root b, root c] else s.chg.vrms
    words := [(rwGridSq 0, keep a), (rwGridSq 1, keep b), (rwGridSq 2, keep c), (rwGridN, keep n),
      (rwGridTurn, F.ofRat (turn.tmod 65536) 1)] }

/-- The RMS values of a run and the phase count they give. -/
def State.gridRun (s : State) (v : Vector F32 3) : State :=
  let p := s.phaseSet v
  let s1 := s.modChg (fun c => { c with vrms := v, phases := p.1, iph := p.2 })
  (if s.chg.phases ≠ 0 ∧ p.1 = 0 then s1.raiseReg evPhaseCountBad .chg v[(0 : Fin 3)] (s.comP .chg 0x03) else s1).srcSettle

/-! ### PFC -/

/-- The PFC form. Outputs: the three high-side duties. -/
def runPfc (l : LawId) (f : RunIn) (s0 : State) : FormOut :=
  let P := s0.lawP l
  let t := s0.lawT l
  let running := s0.running l
  let va := f.ain 20
  let vb := f.ain 21
  let vc := f.ain 22
  let bus := f.ain 23
  let th0 : Angle := (s0.rw l rwGridAngle).setWidth 16
  let w0 := s0.rw l rwGridW
  let th := Config.gridAngle va vb vc (P 0x05) th0 w0
  let w := Config.gridSpeed va vb vc (P 0x05) th0 w0
  let vab := clarke va vb vc
  let iab := clarke (f.ain 24) (f.ain 25) (f.ain 26)
  let v := park vab.1 vab.2 th
  let i := park iab.1 iab.2 th
  -- the ring set-point itself: the form has no external source, and its filter words act on none (DESIGN CHOICE, log 92)
  let sp := f.sp
  let e := F.sub sp bus
  -- id_ref from 0 to f_P i_in_lim (R327)
  let lim := F.mul (f.factor 3) (f.out 10 1)
  let intB := if running then s0.rw l rwIntBus else F.sub i.1 (F.mul (P 0x03) e)
  let raw := F.fma (P 0x03) e intB
  let idRef := F.clamp raw F.zero lim
  let wl := F.mul w (P 0x00)
  let ed := F.sub idRef i.1
  let eq := F.neg i.2
  let intD := if running then s0.rw l rwIntGd else F.sub (F.mul wl i.2) (F.mul (P 0x01) ed)
  let intQ := if running then s0.rw l rwIntGq else F.sub (F.neg (F.mul wl i.1)) (F.mul (P 0x01) eq)
  let ud := F.sub (F.fma wl i.2 v.1) (F.fma (P 0x01) ed intD)
  let uq := F.sub (F.fma (F.neg wl) i.1 v.2) (F.fma (P 0x01) eq intQ)
  let vdc := F.max bus F.one
  let ab := invPark ud uq th
  let d := svm ab.1 ab.2 vdc F.one
  -- the grid integrators stand still where the voltage is at its limit and they push it further (R87)
  let atMax := F.lt vdc (F.mul F.sqrt3 (mag ud uq))
  let intD1 := if running then integ intD (F.mul (F.mul (P 0x02) ed) t) (atMax && F.lt ud F.zero) (atMax && F.pos ud) false else intD
  let intQ1 := if running then integ intQ (F.mul (F.mul (P 0x02) eq) t) (atMax && F.lt uq F.zero) (atMax && F.pos uq) false else intQ
  let intB1 := if running then integClamp intB (F.mul (F.mul (P 0x04) e) t) raw F.zero lim else intB
  let sums := s0.gridSum va vb vc (th - th0).toInt
  let s1 := s0.gridRun sums.rms
  let s2 := ((s1.addBridgeLoss .pf1 d.1 (f.ain 24)).addBridgeLoss .pf2 d.2.1 (f.ain 25)).addBridgeLoss .pf3 d.2.2 (f.ain 26)
  { st := s2
    outs := [d.1, d.2.1, d.2.2]
    words := s0.feRun l e (F.lt lim raw) ++ sums.words ++ [(rwIntGd, intD1), (rwIntGq, intQ1), (rwIntBus, intB1), (rwGridAngle, th.setWidth 32),
      (rwGridW, w)] }

/-! ### DAB power -/

/-- CHG serves the loads alone because SPN does not convert (R456). -/
def State.spanIdle (s : State) : Bool :=
  (match s.chg.mode with | .acIn => true | .peerIn => true | .pass => true | .off => false | .peerOut => false) &&
  (match s.span.mode with | .standby => false | .regulate => false | .bypass => false | .off => true | .discharge => true)

/-- The set-point after the droop of R279 and the holds of R284 and R454. -/
def State.dabSet (s : State) (f : RunIn) (sp pMax bus vPeer : F32) : F32 :=
  match s.chg.mode with
  | .peerIn =>
    let a := F.clamp sp F.zero (F.mul (s.comP .chg 0x0C) (F.max (F.sub bus (s.comP .chg 0x09)) F.zero))
    F.min (F.min a (F.mul (s.comP .chg 0x06) (F.mul vPeer (s.comP .chg 0x07)))) (f.out 7 5)
  | .peerOut =>
    if s.chg.batAbsent || decide (s.span.mode = .off) then F.zero
    else F.neg (F.min (F.min (F.abs sp) (F.mul (s.comP .chg 0x0C) (F.max (F.sub (s.comP .chg 0x08) bus) F.zero))) pMax)
  | .acIn => sp | .pass => sp | .off => sp

/-- The DAB power form. Outputs: the phase shift and the measured power. Power is measured on the charger bus (log 18). -/
def runDab (l : LawId) (f : RunIn) (s0 : State) : FormOut :=
  let P := s0.lawP l
  let t := s0.lawT l
  let running := s0.running l
  let bus := f.ain 23
  let link := f.ain 12
  -- without a battery, or while the span does not convert, `LAW10` holds the link through the DAB in PEER_IN too (R284, R456)
  let ringMode := match s0.chg.mode with
    | .peerIn => !(s0.chg.batAbsent || s0.spanIdle) | .peerOut => true | .acIn => false | .pass => false | .off => false
  let r := s0.spRun l f (if ringMode then f.sp else f.out 10 0)
  let pMax := F.mul (f.factor 4) (P 0x05)
  let sp := s0.dabSet f r.sp pMax bus (f.ain 29)
  let fDab := F.recip (ticksSec s0.dabTicks)
  let k := F.div (F.mul (P 0x01) (F.mul bus link)) (F.mul (F.mul F.two (F.mul F.pi F.pi)) (F.mul fDab (P 0x00)))
  let pMeas := F.mul bus (f.ain 27)
  let e := F.sub sp pMeas
  let int0 := if running then s0.rw l rwIntP else F.sub (F.sub pMeas sp) (F.mul (P 0x03) e)
  let raw := F.add (F.fma (P 0x03) e sp) int0
  let p := F.clamp raw (F.neg pMax) pMax
  let a := F.div (F.abs p) (F.max k F.one)
  let full := F.mul F.half (F.sub F.pi (F.sqrt (F.max (F.fma F.pi F.pi (F.neg (F.mul (F.ofNat 4) a))) F.zero)))
  -- the phase shift stands at `PHI_MAX`, or at pi/2 beyond the greatest power (R87)
  let clip := F.le (P 0x02) full || F.le (F.mul F.pi F.pi) (F.mul (F.ofNat 4) a)
  let phi := F.mul (F.sign p) (F.min full (P 0x02))
  let int1 := if running then integ int0 (F.mul (F.mul (P 0x04) e) t) (F.lt pMax raw || (clip && F.pos p))
      (F.lt raw (F.neg pMax) || (clip && F.lt p F.zero)) false else int0
  let s1 := s0.spStatus l f
  let s2 := (((s1.addBridgeLoss .dp1 F.half (f.ain 27)).addBridgeLoss .dp2 F.half (f.ain 27)).addBridgeLoss
    .ds1 F.half (f.ain 28)).addBridgeLoss .ds2 F.half (f.ain 28)
  { st := s2
    outs := [phi, pMeas]
    words := r.words ++ s0.feRun l e (r.ramp || (F.lt pMax (F.abs raw) && F.lt pMax (P 0x05))) ++ [(rwIntP, int1)] }

/-! ### Charge profile and power path -/

/-- The source that the present mode draws from is valid (R276, R277), with the run's peer voltage. -/
def State.srcValid (s : State) (conn : Bool) (vPeer : F32) : Bool :=
  match s.chg.mode with
  | .acIn => s.chg.srcOk
  | .pass => s.chg.srcOk
  | .peerIn => conn && F.le (s.comP .chg 0x09) vPeer && F.le vPeer (s.comP .chg 0x0A)
  | .off => false | .peerOut => false

/-- p_src of the mode before its limits (R278). -/
def State.srcPower (s : State) (vPeer iPeer : F32) : F32 :=
  let c := s.chg
  let eff := s.comP .chg 0x06
  let v := c.vrms
  let mean := if c.phases = 3 then F.mul (F.recip (F.ofNat 3)) (F.add v[(0 : Fin 3)] (F.add v[(1 : Fin 3)] v[(2 : Fin 3)])) else v[(0 : Fin 3)]
  let ac := F.mul eff (F.mul (F.ofNat c.phases.toNat) (F.mul mean c.iSrc))
  match c.mode with
  | .acIn => ac
  | .pass => F.sub ac (F.min (F.neg (F.mul vPeer iPeer)) (s.comP .chg 0x0D))
  | .peerIn => F.mul eff (F.mul vPeer (s.comP .chg 0x07))
  | .off => F.zero | .peerOut => F.zero

/-- Counts of R279 and R271 and the fault they declare. -/
def State.peerRun (s : State) (conn : Bool) (bus iPeer : F32) : State :=
  let c := s.chg
  let inPeer := match c.mode with | .peerIn => true | .peerOut => true | .pass => true | .off => false | .acIn => false
  let raised := decide (c.mode = .peerOut) && (c.raised || F.le (s.comP .chg 0x09) bus)
  let expect := inPeer && (decide (c.mode ≠ .peerOut) || raised)
  let bad := if expect && !conn then c.peerBad + 1 else 0
  let lim := F.mul (F.dec 11 (-1)) (s.comP .chg 0x07)
  let hi := if inPeer && F.lt lim (F.abs iPeer) then c.peerOver + 1 else 0
  let wrong := decide (c.mode = .acIn) && conn
  let fault := !c.peerFault && (decide (10 ≤ bad) || decide (10 ≤ hi) || wrong)
  let s1 := s.modChg (fun c => { c with
    raised := raised, peerBad := bad, peerOver := hi, peerConn := conn, peerFault := c.peerFault || fault,
    peerFaultAt := if fault then some s.tim.devTime else c.peerFaultAt })
  if fault then s1.raiseReg evPeerFault .chg iPeer lim else s1

/-- The session's counts in one run (R281): they run while the session can charge. -/
def State.sessionRun (s : State) (charging : Bool) (iChg iCc iBat : F32) : State :=
  let c := s.chg
  let t := s.periodTicks .chg
  let low := charging && decide (c.session = .cc) && F.lt iChg (F.mul (F.dec 98 (-2)) iCc)
  let same := charging && decide (c.session = .cv) && F.eq iChg iCc
  let cc := if low then c.ccRuns + 1 else 0
  let cv := if same then c.cvRuns + 1 else 0
  let term := if charging && decide (c.session = .cv) && F.lt iBat (s.comP .chg 0x0F) then c.termT + t else 0
  let toCv := decide (10 ≤ cc)
  let toCc := decide (10 ≤ cv)
  let s1 := s.modChg (fun c => { c with
    session := if toCv then .cv else if toCc then .cc else c.session
    ccRuns := if toCv then 0 else cc, cvRuns := if toCc then 0 else cv, termT := if toCc then 0 else term
    timerRun := false, absRun := false })
  if toCv then s1.raiseReg evChargeCv .chg iChg iCc else s1

/-- The counts of R283. `on` says that the detection is in force. -/
def State.absenceRun (s : State) (on : Bool) (iBat pBat iShare vBat : F32) : State :=
  let floor := s.comP .chg 0x12
  let call := F.lt (F.mul F.two (F.mul floor vBat)) (F.abs pBat) || F.lt (F.mul F.two floor) (F.abs iShare)
  let hit := on && F.lt (F.abs iBat) floor && call
  s.modChg (fun c => { c with
    absV := if hit && decide (c.absRuns = 0) then c.vBatPrev else c.absV
    absRuns := if hit then c.absRuns + 1 else 0, vBatPrev := vBat })

/-- The charge form. Outputs: p_dab_ref, i_in_lim, bat_chg_lim, bat_dis_lim, i_chg, p_bat, p_src. -/
def runCharge (l : LawId) (f : RunIn) (s0 : State) : FormOut :=
  let P := s0.lawP l
  let t := s0.lawT l
  let vb := f.ain 13
  let vl := f.ain 12
  let ib := f.ain 14
  let bus := f.ain 23
  let vp := f.ain 29
  let ip := f.ain 30
  let r := s0.spRun l f f.sp
  let limTh := F.mul (f.factor 5) r.sp
  let iCc := F.min r.sp limTh
  let ecv := F.sub (P 0x00) vb
  let intCv := s0.rw l rwIntCv
  let rawC := F.fma (P 0x01) ecv intCv
  let iChg := F.clamp rawC F.zero iCc
  let intCv1 := integClamp intCv (F.mul (F.mul (P 0x02) ecv) t) rawC F.zero iCc
  -- source (R268, R278)
  let conn := F.lt (F.ofNat 60) bus && F.le (F.abs (F.sub vp bus)) (s0.comP .chg 0x0B)
  let valid := s0.srcValid conn vp
  let pMax := s0.lawP 9 0x05
  let pSrc := if valid then F.min (F.min (s0.srcPower vp ip) (f.out 7 5)) (F.min pMax (F.mul (f.factor 4) pMax)) else F.zero
  -- power path (R280, R456)
  let wait := s0.spanIdle
  let absent := s0.chg.batAbsent
  let alone := absent || wait
  let pLoad := f.out 7 1
  let left := F.sub pSrc pLoad
  let ev := F.sub (f.out 7 2) vl
  let intVl := if alone then s0.rw l rwIntVl else F.zero
  let rawP := F.fma vl (F.fma (s0.comP .chg 0x15) ev intVl) pLoad
  let session := match s0.chg.session with | .cc => true | .cv => true | .none => false | .done => false | .ended => false
  let pBat := if alone then F.zero else if session then F.min (F.mul iChg vb) left else F.min F.zero left
  let pDab := if alone then F.clamp rawP F.zero pSrc else F.add pLoad pBat
  let intVl1 := if alone then integClamp intVl (F.mul (F.mul (s0.comP .chg 0x16) ev) t) rawP F.zero pSrc else F.zero
  let chgLim := if absent then F.zero else iChg
  let disLim := if absent then F.zero else f.out 7 12
  -- the region
  let s1 := s0.spStatus l f
  let s2 := if wait && !s0.chg.spanWait then s1.raiseReg evChgSpanWait .chg 0 0 else s1
  let s3 := (s2.peerRun conn bus ip).sessionRun (session && valid && !alone) iChg iCc ib
  let live := decide (s0.chg.mode ≠ .off) && !wait && !absent
  let s4 := (s3.absenceRun live ib pBat (f.out 7 0) vb).modChg (fun c => { c with
    spanWait := wait, pSrc := pSrc, vBus := bus, vPeer := vp, iPeer := ip
    limThrot := F.lt limTh r.sp })
  let s5 := if F.lt (s0.comP .chg 0x14) bus then (s4.raiseReg evChgBusOv .chg bus (s0.comP .chg 0x14)).safeBy .chg evChgBusOv else s4
  { st := s5
    outs := [pDab, F.mul F.sqrt2 s0.chg.iSrc, chgLim, disLim, iChg, pBat, pSrc]
    words := r.words ++ [(rwIntCv, intCv1), (rwIntVl, intVl1)] }

end Sys2Proof.Machine
end

