-- ==== Sys2Proof/Machine/Trips.lean ====
section
/-! DEFINITION. Trip slots (R158 to R161). -/

namespace Sys2Proof.Machine

/-- The level at which a trip slot sees its source (R158, R172). -/
def State.srcLevel (s : State) (v : Nat) : Bool :=
  if 256 ≤ v ∧ v < 304 then (s.win (Fin.ofNat 48 (v - 256))).hi.out
  else if 512 ≤ v ∧ v < 560 then (s.win (Fin.ofNat 48 (v - 512))).lo.out
  else if v = 768 then s.tripIn.getLsbD 0
  else if v = 769 then s.tripIn.getLsbD 1
  else false

/-- The output of a source is held after a commit, so it cannot start a trip (R193). -/
def State.srcHeld (s : State) (v : Nat) : Bool :=
  if 256 ≤ v ∧ v < 304 then (s.win (Fin.ofNat 48 (v - 256))).hold
  else if 512 ≤ v ∧ v < 560 then (s.win (Fin.ofNat 48 (v - 512))).hold
  else false

/-- Source and action of slot k (R172). -/
def State.slotSrc (s : State) (b : BridgeId) (k : Nat) : Nat := s.parN (brgId b (0x0D + k))
def State.slotDoes (s : State) (b : BridgeId) (k : Nat) : Nat := s.parN (brgId b (0x11 + k))

/-- The slot has an action, its input is active, and it may act: its source is not held, or it acted before the hold. -/
def State.slotOn (s : State) (b : BridgeId) (k : Nat) : Bool :=
  decide (s.slotDoes b k ≠ 0) && s.srcLevel (s.slotSrc b k) && (!s.srcHeld (s.slotSrc b k) || (s.brg b).slots.getLsbD k)

/-- Some active slot has the action. -/
def State.slotAct (s : State) (b : BridgeId) (act : Nat) : Bool :=
  (List.range 4).any (fun k => s.slotOn b k && decide (s.slotDoes b k = act))

/-- The active slots as a mask. -/
def State.slotMask (s : State) (b : BridgeId) : BitVec 4 :=
  BitVec.ofNat 4 ((List.range 4).foldl (fun n k => n + bit (s.slotOn b k) * 2 ^ k) 0)

/-- Count an action 1 trip (R160): once per carrier period; the first of a window raises TRIP_CBC, the last one that `TRIP_LIMIT`
allows isolates the bridge. -/
def State.countTrip (s : State) (b : BridgeId) : State :=
  let x := s.brg b
  if x.counted then s
  else
    let n := x.trips + 1
    let first := decide (x.trips = 0)
    let s1 := s.modBrg b (fun x => { x with
      counted := true, trips := n, winLeft := if first then s.parN (brgId b 0x0C) else x.winLeft })
    let s2 := if first then s1.raiseBrg evTripCbc b 0xFF 0 0 else s1
    if s.parN (brgId b 0x0B) ≤ n then s2.isoBy evTripLatched b 0xFF (F.ofNat n) (s.brgP b 0x0B) false else s2

/-- Let the slots of a bridge act on their inputs (R158, R159, R161). A slot that turns active acts once: action 2 isolates,
whatever else turns active with it; action 3 puts the bridge into ASC, and acts again only after the release; action 1 ends the cycle
unless ASC governs. -/
def State.evalTrips (s : State) (b : BridgeId) : State :=
  if !s.isArmed b then s
  else
    let m := s.slotMask b
    let fresh := m &&& ~~~(s.brg b).slots
    let newAct := fun act => (List.range 4).any (fun k => fresh.getLsbD k && decide (s.slotDoes b k = act))
    let s1 := s.modBrg b (fun x => { x with slots := m })
    if newAct 2 then s1.isoBy evTripLatched b 0xFF 0 0 false
    else if newAct 3 && !(s.brg b).asc then
      ((s1.modBrg b (fun x => { x with asc := true })).raiseBrg evTripAsc b 0xFF 0 0).drive b
    else if newAct 1 && !(s.brg b).asc then ((s1.modBrg b (fun x => { x with cbc := true })).drive b).countTrip b
    else s1

/-- Every bridge's slots. -/
def State.evalAllTrips (s : State) : State := each allBridges State.evalTrips s

/-- At a region period start an ASC trip whose slot input is inactive is released, and a slot still active trips as for the first
time (R159). -/
def State.releaseAsc (s : State) (b : BridgeId) : State :=
  if (s.brg b).asc && !s.slotAct b 3 then
    ((s.modBrg b (fun x => { x with asc := false, slots := 0 })).drive b).evalTrips b
  else s

/-- TRIP_IN_CHANGE (R192): the level of a trip land reaches the slots that name it. -/
def execTripInChange (input : Fin 2) (level : Bool) (s : State) : Host.Outcome State Fault Refusal :=
  whenLive s (fun s =>
    ({ s with
      tripIn := BitVec.ofNat 2 (if input.val = 0 then bit level + 2 * bit (s.tripIn.getLsbD 1)
        else bit (s.tripIn.getLsbD 0) + 2 * bit level) }).evalAllTrips)

/-- TRIP_WINDOW_END (R160): the window has no period left, and the count returns to zero. -/
def execTripWindowEnd (b : BridgeId) (s : State) : Host.Outcome State Fault Refusal :=
  whenLive s (fun s => if (s.brg b).winLeft = 0 then s.modBrg b (fun x => { x with trips := 0 }) else s)

end Sys2Proof.Machine
end

