-- ==== Sys2Proof/Machine/Windows.lean ====
section
/-! DEFINITION. Window monitors and the checks of bank T (R189 to R195). -/

namespace Sys2Proof.Machine

/-- The parameter ID of word k of a monitor (R198). -/
def winId (w : WinId) (k : Nat) : Nat :=
  let p := chanPos (winChan w)
  snsParId p.1 (0xA0 + 8 * p.2 + k)

def State.winOn (s : State) (w : WinId) : Bool := s.parOn (winId w 0)

/-- Take n samples of a level into the filter's history, newest in bit 0. -/
def shiftIn (h : BitVec 15) (level : Bool) : Nat → BitVec 15
  | 0 => h
  | n + 1 => shiftIn (BitVec.ofNat 15 (h.toNat * 2 + bit level)) level n

/-- At least k of the last n samples were active (R191). -/
def majority (h : BitVec 15) (k n : Nat) : Bool :=
  decide (k ≤ ((List.range n).filter (fun j => h.getLsbD j)).length)

def getComp (w : Win) : Comp → CompSt
  | .hi => w.hi | .lo => w.lo

def setComp (w : Win) (c : Comp) (x : CompSt) : Win :=
  match c with
  | .hi => { w with hi := x }
  | .lo => { w with lo := x }

/-- The comparator output changes and holds its level for a number of 160 MHz samples: the fast path reaches the trip slots, the
majority filter follows, and a filtered output that becomes active sets the latch bit (R191, R192). -/
def doWindowCrossing (w : WinId) (c : Comp) (level : Bool) (samples : Nat) (s : State) : State :=
  if !s.winOn w || (s.win w).hold then s
  else
    let x := getComp (s.win w) c
    let h := shiftIn x.hist level (min samples 15)
    let f := majority h (s.parN (winId w 5)) (s.parN (winId w 6))
    let hit := f && !x.filt
    let s1 := s.modWin w (fun v => setComp v c { x with out := level, hist := h, filt := f, latch := x.latch || hit })
    let s2 :=
      if hit && !x.latch then
        s1.raiseSns evWinHit (chanPos (winChan w)).1 w.val (match c with | .hi => 0 | .lo => 1) (wd (bit x.latch))
      else s1
    let s3 := if w.val = 12 ∧ c = .hi ∧ level then s2.modSpan (fun p => { p with pfcDue := true }) else s2
    s3.evalAllTrips.drive .bch

/-- WINDOW_CROSSING (R189, R191, R192). -/
def execWindowCrossing (w : WinId) (c : Comp) (level : Bool) (samples : Byte) (s : State) : Host.Outcome State Fault Refusal :=
  whenLive s (doWindowCrossing w c level samples.toNat)

/-- WINDOW_HOLD_RELEASE (R193): the outputs may start trips again. -/
def execWindowHoldRelease (w : WinId) (s : State) : Host.Outcome State Fault Refusal :=
  whenLive s (fun s => (s.modWin w (fun v => { v with hold := false })).evalAllTrips)

/-- `LATCH` = 1: the latch bit clears at the region's period start unless the filtered output is still active (R191). -/
def State.clearLatches (s : State) (w : WinId) : State :=
  if s.parOn (winId w 7) then
    s.modWin w (fun v => { v with
      hi := { v.hi with latch := v.hi.latch && v.hi.filt }, lo := { v.lo with latch := v.lo.latch && v.lo.filt } })
  else s

/-! ### Bank T (R194, R195) -/

/-- A window monitor of a stand-in's group by its number. -/
def winNo (n : Nat) : WinId := Fin.ofNat 48 n

/-- The next enabled member of a group after a monitor, in ascending order and wrapping. -/
def State.nextMember (s : State) (k : Fin 3) (after : Nat) : Option Nat :=
  let g := (List.range 8).map (fun j => 8 * k.val + j)
  let on := g.filter (fun n => s.winOn (winNo n))
  match on.filter (fun n => decide (after < n)) with
  | n :: _ => some n
  | [] => on.head?

/-- The first enabled member of a group. -/
def State.firstMember (s : State) (k : Fin 3) : Option Nat :=
  ((List.range 8).map (fun j => 8 * k.val + j)).find? (fun n => s.winOn (winNo n))

/-- At a tide boundary an idle stand-in begins a check of the next enabled member, or repeats one; one abandoned at this boundary begins
again at the next (R194, R195). -/
def State.beginCheck (s : State) (k : Fin 3) : State :=
  let x := s.wst k
  if x.state ≠ 0 then s
  else if x.wait then s.modWst k (fun y => { y with wait := false })
  else if (x.again || x.redo) && s.winOn (winNo x.mon.toNat) then
    s.modWst k (fun y => { y with state := 1, step := 1, bad2 := false, redo := false })
  else
    -- an unstarted rotation stands before the first member of its group
    match (if x.step = 0 then s.firstMember k else s.nextMember k x.mon.toNat) with
    | none => s
    | some n => s.modWst k (fun y => { y with state := 1, step := 1, mon := BitVec.ofNat 6 n, bad2 := false, again := false, redo := false })

/-- A member fails: the stand-in carries its paths, the member is masked and the group's checks stop (R195). -/
def State.memberFails (s : State) (k : Fin 3) : State :=
  let w := winNo (s.wst k).mon.toNat
  let n := (chanPos (winChan w)).1
  (((s.modWst k (fun y => { y with state := 2, step := 6 })).modWin w (fun v => { v with failed := true })).raiseSns
    evWinCheckFail n w.val 0 0).raiseSns evWinCheckStopped n w.val 0 0

/-- A step of a check ends (R194, R195). `steady` says that the input was steady over D, which step 2 needs to be judged. -/
def doStandinCheckStep (k : Fin 3) (ok steady : Bool) (s : State) : State :=
  let x := s.wst k
  if x.state ≠ 1 then s
  else if x.step = 1 then
    (if ok then s.modWst k (fun y => { y with step := 2 })
     else (s.modWst k (fun y => { y with state := 3, step := 6 })).raise evStandinFail 0 6 0xFF 0 0)
  else if x.step = 2 then
    (if ok || !steady then s.modWst k (fun y => { y with step := 3 })
     else if x.again then s.memberFails k
     else s.modWst k (fun y => { y with step := 3, bad2 := true }))
  else if !ok then s.memberFails k
  else if x.step < 5 then s.modWst k (fun y => { y with step := y.step + 1 })
  else if x.bad2 then s.modWst k (fun y => { y with state := 0, step := 6, bad2 := false, again := true })
  else
    (s.modWst k (fun y => { y with state := 0, step := 6, again := false })).modWin (winNo x.mon.toNat)
      (fun v => { v with done := true })

/-- STANDIN_CHECK_STEP (R194). -/
def execStandinCheckStep (k : Fin 3) (ok steady : Bool) (s : State) : Host.Outcome State Fault Refusal :=
  whenLive s (doStandinCheckStep k ok steady)

/-- A commit that changes the thresholds, mode or hysteresis of a member abandons its check without result (R195): it begins again at the
next tide boundary, and what the check before it found stands. -/
def State.abandonCheck (s : State) (w : WinId) : State :=
  if w.val < 24 then
    let k : Fin 3 := Fin.ofNat 3 (w.val / 8)
    if (s.wst k).state = 1 ∧ (s.wst k).mon.toNat = w.val then
      s.modWst k (fun y => { y with state := 0, step := 6, bad2 := false, redo := true, wait := true })
    else s
  else s

end Sys2Proof.Machine
end

