-- ==== Sys2Proof/Machine/Sense.lean ====
section
/-! DEFINITION. Sense clusters (R176 to R188, R196, R197). -/

namespace Sys2Proof.Machine

/-! ### Instants -/

/-- Units of 312.5 ps in a region's period. -/
def State.periodUnits (s : State) (r : RegionId) : Nat := 8 * s.periodTicks r

/-- The sample instant of an engine after its period start, to the nearest 312.5 ps (R70). -/
def State.sUnits (s : State) (l : LawId) : Nat :=
  let q := F.toRat (s.lawP l 0xF0)
  (F.nearest (q.1 * Int.ofNat (s.periodUnits (lawReg l))) q.2).toNat

/-! ### Conversions -/

/-- A fault of a sense cluster takes its region to REGION-SAFE (R30). -/
def State.snsFault (s : State) (n : SnsId) (c : Cause) : State := (s.modSns n (fun y => { y with fault := true })).safeBy (snsReg n) c

/-- The 16-bit signed code nearest to a number, saturated (R178). -/
def satCode (x : Int) : Half := BitVec.ofInt 16 (max (-32768) (min 32767 x))

/-- The corrected code of a raw code at a gain, under the factory trim of a channel (R178). Index 54 is the converter's own
internal levels. -/
def correct (chan gain : Nat) (raw : Half) : Half :=
  satCode (F.nearest ((Int.ofNat raw.toNat - 32768 - Config.trimOffset chan gain) * Int.ofNat (Config.trimGain chan gain)) 65536)

/-- The pin voltage of a corrected code at a gain, VMID + c VREF/(65536 g) with VREF 4.096 V (R176, R178). -/
def pinVolts (c : Half) (gain : Nat) : F32 :=
  F.ofRat (2048 * 65536 * Int.ofNat gain + c.toInt * 4096) (65536 * 1000 * gain)

/-- Duration of a sequence entry in ns: its sample time to the nearest 5 ns, and 80 ns (R177). -/
def State.entryNs (s : State) (n : SnsId) (e : Nat) : Nat :=
  let t := F.toRat (s.par (snsParId n (4 * e + 1)))
  5 * (F.nearest (t.1 * 200000000) t.2).toNat + 80

/-- Sequence words of an entry (R198). -/
def State.seqChan (s : State) (n : SnsId) (e : Nat) : Option ChanId :=
  let v := s.parN (snsParId n (4 * e))
  if v = 0 then none else (snsChans n)[v - 1]?
def State.seqGain (s : State) (n : SnsId) (e : Nat) : Nat := s.parN (snsParId n (4 * e + 2))
def State.seqSet (s : State) (n : SnsId) (e : Nat) : Nat := s.parN (snsParId n (4 * e + 3))

/-- The entries of a set, in table order; set 0 is the scan (R180). -/
def State.entriesOf (s : State) (n : SnsId) (k : Nat) : List Nat :=
  (List.range 16).filter (fun e => (s.seqChan n e).isSome && decide (s.seqSet n e = k))

/-- Owner and second receiver of a set (R198). -/
def lawNo (v : Nat) : Option LawId := if h : v < 16 then some ⟨v, h⟩ else none
def State.setOwner (s : State) (n : SnsId) (k : Nat) : Option LawId := lawNo (s.parN (snsParId n (0x3F + k)))
def State.setShare (s : State) (n : SnsId) (k : Nat) : Option LawId := lawNo (s.parN (snsParId n (0x43 + k)))

/-- Add one corrected code to the accumulators; the count saturates and then the sum stops (R184). -/
def Acc.take (a : Acc) (c : Half) (ovr : Bool) : Acc :=
  let first := decide (a.count = 0)
  { sum := if a.count = 0xFFFFFF then a.sum else a.sum + BitVec.ofInt 48 c.toInt
    count := if a.count = 0xFFFFFF then a.count else a.count + 1
    lo := if first || decide (c.toInt < a.lo.toInt) then c else a.lo
    hi := if first || decide (a.hi.toInt < c.toInt) then c else a.hi
    ovr := a.ovr || ovr }

/-- Words of a channel (R198). -/
def chanParId (c : ChanId) (w : Nat) : Nat := snsParId (chanPos c).1 (0x50 + 8 * (chanPos c).2 + w)

/-- The physical value of a pin voltage on a channel (R178). -/
def State.phys (s : State) (c : ChanId) (v : F32) : F32 := F.fma (s.par (chanParId c 0)) v (s.par (chanParId c 1))

/-- The physical value at the end of the range of R176 on the side of a code. -/
def State.rangeEnd (s : State) (c : ChanId) (code : Half) (gain : Nat) : F32 :=
  s.phys c (pinVolts (if code.toInt < 0 then 0x8000 else 0x7FFF) gain)

/-- The band check (R186): raised once when armed, armed again after 16 values inside. -/
def State.bandCheck (s : State) (n : SnsId) (c : ChanId) (x : F32) : State :=
  let lo := s.par (chanParId c 2)
  let hi := s.par (chanParId c 3)
  if F.lt lo hi then
    if F.lt x lo || F.lt hi x then
      if (s.chan c).band then
        (s.modChan c (fun y => { y with band := false, inside := 0 })).raiseSns evSnsBand n (chanPos c).2 x
          (if F.lt x lo then lo else hi)
      else s.modChan c (fun y => { y with inside := 0 })
    else if (s.chan c).band then s
    else s.modChan c (fun y => { y with inside := y.inside + 1, band := decide (15 ≤ y.inside) })
  else s

/-- Outside its band, whatever the arming (R187). -/
def State.outOfBand (s : State) (c : ChanId) (x : F32) : Bool :=
  let lo := s.par (chanParId c 2)
  let hi := s.par (chanParId c 3)
  F.lt lo hi && (F.lt x lo || F.lt hi x)

def gainCode (g : Nat) : Nat := if g = 8 then 3 else if g = 4 then 2 else if g = 2 then 1 else 0

/-- Push a legacy word (R187, R188): the rounds pushed are those whose number since the cluster's start is a multiple of `LQ_DECIM`, and the
window end that lets LQ_OVERFLOW be raised again is that of either window (DESIGN CHOICE, log 94). -/
def State.lqPush (s : State) (n : SnsId) (w : Word) : State :=
  if !(s.parOn (snsParId n 0x48)) || decide ((s.snsC n).rounds % max 1 (s.parN (snsParId n 0x49)) ≠ 0) then s
  else if (s.snsC n).lq.length < 64 then s.modSns n (fun y => { y with lq := y.lq ++ [w] })
  else
    let s1 := s.modSns n (fun y => { y with lqOvf := true, lqTold := true })
    if (s.snsC n).lqTold then s1 else s1.raiseSns evLqOverflow n 0xFF 0 0

/-- Whether an engine that shares a set takes the strobe of its owner in the same period: the owner's S lies no later (R183). -/
def State.shareSame (s : State) (owner l : LawId) : Bool := decide (s.sUnits owner ≤ s.sUnits l)

/-- A change to the run in flight of an engine. -/
def State.modFlight (s : State) (l : LawId) (g : RunIn → RunIn) : State := s.modLaw l (fun x => { x with flight := x.flight.map g })

/-- Deliver a set value to the run in flight of its owner, and to that of the sharer where it waits for this set (R183). -/
def State.deliver (s : State) (n : SnsId) (k : Nat) (v : SetVal) : State :=
  match s.setOwner n k with
  | none => s
  | some o =>
    let s1 := (s.modFlight o (fun f => if f.noSet then f else { f with set := f.set ++ [v] })).modLaw o
      (fun x => { x with lastSet := x.lastSet ++ [v] })
    match s.setShare n k with
    | none => s1
    | some h => s1.modFlight h (fun f => if f.waits.contains (n, k) then { f with set := f.set ++ [v] } else f)

/-- A strobed set has ended: the scan goes on, and a sharer waits for it no longer. -/
def State.setEnd (s : State) (n : SnsId) (k : Nat) : State :=
  let s1 := s.modSns n (fun y => { y with busy := 0, setPos := 0 })
  match s.setShare n k with
  | none => s1
  | some h => s1.modFlight h (fun f => { f with waits := f.waits.filter (fun x => decide (x ≠ (n, k))) })

/-! ### The sample of the chopper's current (R243) -/

/-- The sample time of `AIN19` in the set of `LAW07`, in ns from the strobe: its start and end. -/
def State.chopSample (s : State) : Option (Nat × Nat) :=
  match [1, 2, 3].find? (fun k => decide (s.setOwner 4 k = some 7)) with
  | none => none
  | some k =>
    let es := s.entriesOf 4 k
    let before := es.takeWhile (fun e => decide (s.seqChan 4 e ≠ some 19))
    if before.length = es.length then none
    else
      let a := (before.map (s.entryNs 4)).foldl (· + ·) 0
      some (a, a + s.entryNs 4 (es.getD before.length 0) - 80)

/-- ch_on_at_sample of R243: the commanded on-interval of the chopper covers the whole sample time. A switch held on under rank 3 of R145 is
on throughout. Judged as the conversion ends, with the compare value and the output of that instant. -/
def State.chopOn (s : State) : Bool :=
  if s.outNow .bch = .lowOn then true
  else
  match s.chopSample with
  | none => false
  | some w =>
    let t := s.tSec .spn
    let c := (s.brg .bch).cmp
    let e := onEdges (s.parN (brgId .bch 0x00)) c.d
    let off := F.sub (s.lawP 7 0xF0) (s.brgP .bch 0x01)
    let pos := fun ns => F.add off (F.div (F.dec (Int.ofNat ns) (-9)) t)
    let a := pos w.1
    let b := pos w.2
    let inside := fun k => F.le (F.add e.1 c.delta) (F.add a k) && F.le (F.add b k) (F.add e.2 c.delta)
    decide (s.outNow .bch = .pwm) && F.pos c.d && (inside F.zero || inside F.one || inside (F.neg F.one))

/-- The run of `LAW07` in flight notes it as its own `AIN19` is converted. -/
def State.chopNote (s : State) (n : SnsId) (k : Nat) (c : ChanId) : State :=
  if n = 4 ∧ c = 19 ∧ s.setOwner n k = some 7 then s.modFlight 7 (fun f => { f with chop := s.chopOn }) else s

/-! ### The sequence (R180, R181, R501) -/

/-- The entry that ends next: of the running set, else of the scan round with its automatic entries last. The levels of the converter
check alternate (R196). -/
def State.entryDue (s : State) (n : SnsId) (e : ScanEntry) : Bool :=
  let y := s.snsC n
  let scan := s.entriesOf n 0
  match e with
  | .seq i _ _ => decide ((if y.busy = 0 then scan[y.scanPos]? else (s.entriesOf n y.busy)[y.setPos]?) = some i.val)
  | .check low _ => decide (y.busy = 0 ∧ y.scanPos = scan.length ∧ low = !y.high)
  | .readback _ => decide (y.busy = 0 ∧ y.scanPos = scan.length + 1 ∧ 7 ≤ n.val)

/-- The end of a scan round (R181). `ROUND_MAX` takes the durations of all entries that complete in the round, those of strobed sets with
them, and not the abandoned part of an entry; a round cut by a region halt or a new sequence is not counted (DESIGN CHOICE, log 94). -/
def State.roundEnd (s : State) (n : SnsId) : State :=
  s.modSns n (fun y => { y with
    rounds := y.rounds + 1, roundNs := 0, scanPos := 0,
    roundMax := if y.roundMax.toNat < y.roundNs then satAdd 0 y.roundNs else y.roundMax })

/-- After a region resume a channel takes nothing until its next window starts (R45). -/
def State.accHeld (s : State) (n : SnsId) (c : ChanId) : Bool := (s.snsC n).accWait.getLsbD (s.parN (chanParId c 4))

/-- A sequence entry ends (R177 to R188). -/
def doSeqEntry (n : SnsId) (e : Fin 16) (raw : Half) (ovr : Bool) (s : State) : State :=
  match s.seqChan n e.val with
  | none => s
  | some c =>
    let k := s.seqSet n e.val
    let g := s.seqGain n e.val
    let code := correct c.val g raw
    let x := s.phys c (pinVolts code g)
    let full := s.rangeEnd c code g
    let told := (s.chan c).told
    let s1 := s.modChan c (fun y => { y with
      code := code, val := x, ovr := ovr, full := full, acc := if s.accHeld n c then y.acc else y.acc.take code ovr, told := told || ovr })
    let s2 := if ovr && !told then s1.raiseSns evSnsOverrange n (chanPos c).2 x full else s1
    let s3 := (s2.bandCheck n c x).modSns n (fun y => { y with roundNs := y.roundNs + s.entryNs n e.val })
    let s4 := s3.lqPush n (packWord [(0, 16, (code + 0x8000).toNat), (16, 4, (chanPos c).2), (20, 2, gainCode g), (22, 2, k),
      (24, 1, bit ovr), (25, 1, bit (s.outOfBand c x)), (26, 4, e.val), (31, 1, 1)])
    if k = 0 then s4.modSns n (fun y => { y with scanPos := y.scanPos + 1 })
    else
      let s5 := (s4.deliver n k ⟨c, x, ovr, full⟩).chopNote n k c
      if (s.entriesOf n k).length ≤ (s.snsC n).setPos + 1 then s5.setEnd n k
      else s5.modSns n (fun y => { y with setPos := y.setPos + 1 })

/-- Clusters that read back the DACs of their bank C, M or X monitors: `SNS07` to `SNS11` (R181). -/
def hasReadback (n : SnsId) : Bool := decide (7 ≤ n.val)

/-- The converter check at VREF/4 or 3 VREF/4 (R196): two consecutive failures are a fault of the sense cluster. `CHECK_DEV` holds the low 16
bits of the deviation (DESIGN CHOICE, log 94). -/
def doConvCheck (n : SnsId) (low : Bool) (raw : Half) (s : State) : State :=
  let dev := (correct 54 1 raw).toInt - (if low then -16384 else 16384)
  let bad := decide (16 < dev.natAbs)
  let fails := if bad then (s.snsC n).fails + 1 else 0
  let s1 := s.modSns n (fun y => { y with
    checkDev := BitVec.ofInt 16 dev, fails := fails, roundNs := y.roundNs + 100, scanPos := y.scanPos + 1, high := low })
  let s2 :=
    if fails = 2 then (s1.raiseSns evAdcCheckFail n 0xFF (F.ofInt dev) (F.ofNat 16)).snsFault n evAdcCheckFail else s1
  if hasReadback n then s2 else s2.roundEnd n

/-- The threshold readback of the DAC whose turn it is (R197). -/
def doReadback (n : SnsId) (raw : Half) (s : State) : State :=
  let pos := (s.snsC n).dacPos
  let s1 := (s.modSns n (fun y => { y with
    dacPos := (y.dacPos + 1) % (2 * snsWins n), roundNs := y.roundNs + 280 })).roundEnd n
  match (winsOf n)[pos / 2]? with
  | none => s1
  | some w =>
    let c : Comp := if pos % 2 = 0 then .hi else .lo
    let x := getComp (s.win w) c
    let got := (correct 54 1 raw).toInt + 32768
    let bad := decide (128 < (got - 64 * Int.ofNat x.code.toNat).natAbs)
    let cnt := if bad then x.dacBad + 1 else 0
    let s2 := s1.modWin w (fun v => setComp v c { x with dacBad := cnt })
    if cnt = 2 then
      let on := s.winOn w
      let cls := if on then RClass.regionSafe else RClass.note
      let s3 := (s2.modWin w (fun v => { v with dacFail := true })).raiseCls evWinDacFail cls (regCode (snsReg n)) (snsClu n)
        w.val (F.ofRat got 16000) (wd (clsRank cls)) 0
      if on then s3.snsFault n evWinDacFail else s3
    else s2

/-- One entry of a cluster whose sequence runs, where its turn has come; automatic entries and scan entries run only while no strobed set
does (R180). -/
def doScanEntry (n : SnsId) (e : ScanEntry) (s : State) : State :=
  if (s.snsC n).stopped || !s.entryDue n e then s
  else
    match e with
    | .seq i raw ovr => doSeqEntry n i raw ovr s
    | .check low raw => doConvCheck n low raw s
    | .readback raw => doReadback n raw s

/-- SCAN_ENTRY_COMPLETE (R177). -/
def execScanEntryComplete (n : SnsId) (e : ScanEntry) (s : State) : Host.Outcome State Fault Refusal := whenLive s (doScanEntry n e)

/-- The end of the accumulator window of the channels of a cluster that choose it: 0 tide period, 1 region period (R184). -/
def State.accEnd (s : State) (n : SnsId) (win : Nat) : State :=
  if (s.snsC n).stopped then s
  else
    let cs := (snsChans n).filter (fun c => decide (s.parN (chanParId c 4) = win))
    if cs.isEmpty then s
    else if (s.snsC n).accWait.getLsbD win then
      -- the first window after a region resume starts here (R45)
      (each cs (fun s c => s.modChan c (fun y => { y with acc := {}, told := false })) s).modSns n (fun y => { y with accWait := y.accWait &&& ~~~(BitVec.ofNat 2 (2 ^ win)) })
    else
      (each cs (fun s c => s.modChan c (fun y => { y with snap := y.acc, acc := {}, told := false })) s).modSns n
        (fun y => { y with snapTide := s.tim.tideIndex, lqTold := false })

/-- The channels of a set. -/
def State.setChans (s : State) (n : SnsId) (k : Nat) : List ChanId := (s.entriesOf n k).filterMap (s.seqChan n)

/-- A sharer whose S is the owner's own S uses the set of this strobe: what it has taken of an earlier one goes, and it waits (R183). -/
def State.shareStrobe (s : State) (n : SnsId) (k : Nat) (o : LawId) : State :=
  match s.setShare n k, (s.law o).flight with
  | some h, some g => s.modFlight h (fun f =>
      if f.units = g.units then
        { f with set := f.set.filter (fun v => !(s.setChans n k).contains v.chan), waits := (n, k) :: f.waits }
      else f)
  | _, _ => s

/-- A strobe of one set of a cluster for its owner (R180, R201): a set that still converts makes the late one collide. -/
def State.strobe (s : State) (n : SnsId) (k : Nat) : State :=
  match s.setOwner n k with
  | none => s
  | some o =>
    if (s.snsC n).stopped || (s.entriesOf n k).isEmpty then s
    else if (s.snsC n).busy ≠ 0 then
      ((s.modFlight o (fun f => { f with noSet := true })).raiseSns evStrobeCollide n 0xFF 0 0).snsFault n evStrobeCollide
    else
      ((s.modSns n (fun y => { y with busy := k, setPos := 0 })).modLaw o (fun x => { x with
        lastSet := x.lastSet.filter (fun v => !(s.setChans n k).contains v.chan) })).shareStrobe n k o

/-- The sets that a law engine owns, over the clusters of its region. -/
def State.ownSets (s : State) (l : LawId) : List (SnsId × Nat) :=
  (regSns (lawReg l)).flatMap (fun n => ([1, 2, 3].filter (fun k => decide (s.setOwner n k = some l))).map (fun k => (n, k)))

end Sys2Proof.Machine
end

