-- ==== Sys2Proof/Machine/Sample.lean ====
section
/-! DEFINITION. The start of a run: the sample instant of every law engine and the later passes of `LAW14` (R70, R72, R74, R112, R113,
R119, R120, R131). -/

namespace Sys2Proof.Machine

/-! ### Instants -/

/-- Device time of the start of a region's present period (R65). -/
def State.periodStart (s : State) (r : RegionId) : Time :=
  s.tim.tideStart + BitVec.ofNat 64 (((s.reg r).periods.toNat - 1) * s.periodTicks r)

/-- Device time reaches an instant that lies ahead (R10). -/
def State.reach (s : State) (t : Time) : State :=
  if s.tim.devTime < t then s.timeTo t else s

/-- The sample instant of a run of an engine in the present period, in 312.5 ps units of device time, nearest; pass k of `LAW14` follows k
quarters of a period later (R70). -/
def State.sampleUnits (s : State) (l : LawId) (k : Fin 4) : Time :=
  8 * s.periodStart (lawReg l) + BitVec.ofNat 64 (s.sUnits l + 2 * k.val * s.periodTicks (lawReg l))

/-- The tick of device time that holds it. -/
def State.sampleTime (s : State) (l : LawId) (k : Fin 4) : Time := s.sampleUnits l k / 8

/-- `APPLY_DELAY` in 312.5 ps units, nearest (R59, R70). -/
def State.delayUnits (s : State) (l : LawId) : Time := BitVec.ofNat 64 (secUnits (s.lawP l 0xF1))

/-! ### Replicas -/

/-- Darned replicas become ACTIVE at S (R124). -/
def Law.join (x : Law) : Law :=
  { x with reps := Vector.ofFn (fun k => if (x.rep k).joins then { x.rep k with st := .active, joins := false } else x.rep k) }

/-! ### The agreement round (R119, R120) -/

/-- The agreed value of a numeric input: the median of three samples, the smaller of two. -/
def agreeInt : List Int → Int
  | [] => 0
  | [a] => a
  | [a, b] => min a b
  | a :: b :: c :: _ => max (min a b) (min (max a b) c)

/-- The agreed value of a bit: the majority of three, the logical OR of two. -/
def agreeBit : List Bool → Bool
  | [] => false
  | [a] => a
  | [a, b] => a || b
  | a :: b :: c :: _ => (a && b) || (a && c) || (b && c)

/-- The agreed value of a wrapping counter: signed differences from the first sample, the rule, and the base added back. -/
def agreeCount : List Half → Half
  | [] => 0
  | b :: xs => b + BitVec.ofInt 16 (agreeInt ((b :: xs).map (fun x => (x - b).toInt)))

def agreeWord (xs : List Word) : Word := BitVec.ofInt 32 (agreeInt (xs.map (fun x => Int.ofNat x.toNat)))

/-- The agreed pin inputs of the replicas that take part, lowest number first. -/
def agree (ps : List PinSample) : Agreed :=
  let h := fun (i : Nat) => agreeBit (ps.map (fun p => p.hall.getLsbD i))
  { encCount := agreeCount (ps.map (·.encCount)), encIndex := agreeBit (ps.map (·.encIndex)),
    encFault := agreeBit (ps.map (·.encFault)),
    sp0Period := agreeWord (ps.map (·.sp0Period)), sp0High := agreeWord (ps.map (·.sp0High)),
    sp1Period := agreeWord (ps.map (·.sp1Period)), sp1High := agreeWord (ps.map (·.sp1High)),
    sp0Since := agreeWord (ps.map (·.sp0Since)), sp1Since := agreeWord (ps.map (·.sp1Since)),
    hall := BitVec.ofNat 3 (bit (h 0) + 2 * bit (h 1) + 4 * bit (h 2)),
    edgeTicks := agreeWord (ps.map (·.edgeTicks)), sinceEdge := agreeWord (ps.map (·.sinceEdge)) }

/-- The replicas whose samples the round uses: ACTIVE, not dropped from the crossing, and heard by cycle 31 (R113, R120). -/
def Law.heard (x : Law) : List RepId := x.active.filter (fun k => !(x.rep k).late && !(x.rep k).mute)

/-! ### Inputs of a run -/

/-- The output of an engine visible at an instant: one that became visible in the same bridge cycle of 2.5 ns is not yet (R74). -/
def Law.outAt (x : Law) (u : Time) : List F32 := if x.shownAt.map (· / 8) = some (u / 8) then x.prev else x.out

/-- k_gen and k_mot as they count at S: zero while SPN is in REGION-SAFE or `LAW07` has no voted output (R244, R245). -/
def State.linkFactors (s : State) (u : Time) : F32 × F32 :=
  if s.isSafe .spn || s.power.devSafe || !(s.law 7).voted then (F.zero, F.zero)
  else (((s.law 7).outAt u).getD 3 0, ((s.law 7).outAt u).getD 4 0)

/-- What is visible at S (R72, R74, R96, R191, R241, R245). -/
def State.runInputs (s : State) (l : LawId) (pins : Tri PinSample) (u : Time) : RunIn :=
  { vals := s.chans.toList.map (·.val)
    fulls := s.chans.toList.map (·.full)
    ovrs := BitVec.ofNat 54 ((s.chans.toList.zipIdx).foldl (fun n c => n + (if c.1.ovr then 2 ^ c.2 else 0)) 0)
    outs := s.laws.toList.map (·.outAt u)
    winOv := (s.win 12).hi.filt
    sp := (s.law l).ringSp
    mz := (s.law l).ringMz
    agreed := agree ((s.law l).heard.map (triGet pins))
    pins := pins
    units := u
    at_ := u / 8
    applyAt := u + s.delayUnits l
    first := decide ((s.reg (lawReg l)).periods = 1)
    kGen := (s.linkFactors u).1
    kMot := (s.linkFactors u).2 }

/-- The sets that an engine receives as sharer, with their owners (R183). -/
def State.sharedSets (s : State) (l : LawId) : List (SnsId × Nat × LawId) :=
  (regSns (lawReg l)).flatMap (fun n => ([1, 2, 3].filter (fun k => decide (s.setShare n k = some l))).filterMap (fun k =>
    (s.setOwner n k).map (fun o => (n, k, o))))

/-- What a sharer finds at its S of the owner's most recent strobe: its values so far (R183). -/
def State.sharedNow (s : State) (l : LawId) : List SetVal :=
  (s.sharedSets l).flatMap (fun x => (s.law x.2.2).lastSet.filter (fun v => (s.setChans x.1 x.2.1).contains v.chan))

/-- The shared sets that still convert at its S: their other values follow (R183). -/
def State.sharedWaits (s : State) (l : LawId) : List (SnsId × Nat) :=
  ((s.sharedSets l).filter (fun x => decide ((s.snsC x.1).busy = x.2.1))).map (fun x => (x.1, x.2.1))

/-! ### The sample instant -/

/-- How the crossing went for a replica: REPLICA_LATE for one that has not acknowledged it; one whose pin samples are missing at cycle 31
takes no part in the agreement and is odd at the vote (R113, R120). -/
def State.dropLate (s : State) (l : LawId) (acks : Tri Ack) (k : RepId) : State :=
  let act := decide (((s.law l).rep k).st = .active)
  let late := act && decide (triGet acks k = .late)
  let s1 := s.modLaw l (fun x => x.modRep k (fun r => { r with late := late, mute := act && decide (triGet acks k = .mute) }))
  if late then
    (s1.modLaw l (fun x => { x with lastOddTide := s.tim.tideIndex })).raiseLaw evReplicaLate l k.val 0 0
  else s1

/-- A halted cluster accepts a new set only where it stands at cycle 0 or at the end of a run (R131). -/
def State.acceptsSet (s : State) (l : LawId) : Bool :=
  !(s.law l).halted || decide ((s.law l).cycle = 0) || (s.law l).flight.isNone

/-- A run begins: its crossing, its agreement round and its inputs. -/
def State.beginRun (s : State) (l : LawId) (pins : Tri PinSample) (acks : Tri Ack) (u : Time) : State :=
  let s1 := each allReps (fun s k => s.dropLate l acks k) s
  s1.modLaw l (fun x => { x with
    flight := some { s1.runInputs l pins u with set := s1.sharedNow l, waits := s1.sharedWaits l }, cycle := if x.halted then 0 else x.cycle })

/-- Fewer than two ACTIVE replicas: no run, TRIAD_SPLIT, and REGION-SAFE (R112). The region falls at its next period start (R116). -/
def State.splitAtStart (s : State) (l : LawId) : State :=
  (s.raiseLaw evTriadSplit l 0xFF 0 0).modReg (lawReg l) (fun r => { r with
    safeDue := some (r.safeDue.getD (codeOf 1 (regCode (lawReg l)) evTriadSplit.num)) })

/-- The pin samples of a pass without any (R70). -/
def noPins : PinSample :=
  { encCount := 0, encIndex := false, encFault := false, sp0Period := 0, sp0High := 0, sp1Period := 0, sp1High := 0, sp0Since := 0,
    sp1Since := 0, hall := 0,
    edgeTicks := 0, sinceEdge := 0 }

/-- The sample instant of a run or of a pass of `LAW14`; pass 0 and every other engine strobe the sets they own (R70, R72). -/
def doSample (l : LawId) (k : Fin 4) (pins : Tri PinSample) (acks : Tri Ack) (s : State) : State :=
  let t := s.sampleTime l k
  let s1 := s.reach t
  let s2 := s1.modLaw l Law.join
  if !s2.runs l || !s2.cluUp (lawReg l) (lawClu l) || !s2.acceptsSet l || decide (t < (s2.law l).resumeAt) then s2
  else
    if (s2.law l).active.length < 2 then s2.splitAtStart l
    else
      let s3 := s2.beginRun l pins acks (s.sampleUnits l k)
      let s4 := if l = 14 then s3.modTherm (fun x => { x with passK := k }) else s3
      if k = 0 then each (s4.ownSets l) (fun s x => s.strobe x.1 x.2) s4 else s4

/-- SAMPLE_INSTANT (R72). -/
def execSampleInstant (l : LawId) (pins : Tri PinSample) (acks : Tri Ack) (s : State) : Host.Outcome State Fault Refusal :=
  whenLive s (doSample l 0 pins acks)

/-- LAW14_PASS: passes 1 to 3, each a quarter period after the one before (R70). -/
def execLaw14Pass (k : Fin 4) (s : State) : Host.Outcome State Fault Refusal :=
  whenUnit (decide (k ≠ 0)) s (doSample 14 k ⟨noPins, noPins, noPins⟩ ⟨.taken, .taken, .taken⟩)

end Sys2Proof.Machine
end

