-- ==== Sys2Proof/Machine/SpForms.lean ====
section
/-! DEFINITION. The forms of the span region: phase currents and shedding (`LAW06`, R101, R248, R249, R251, R252) and the link form with
the cascade and the chopper (`LAW07`, R102, R236, R241 to R246, R252, R254 to R258). -/

namespace Sys2Proof.Machine

/-- The active phases in rising order (R235). -/
def State.phActive (s : State) : List Nat := (List.range 4).filter (fun k => s.span.active.getLsbD k)

/-! ### Shedding (R248, R249) -/

/-- The shares of the active phases: 1/n each, or those of a ramp in progress. -/
def State.sharesNow (s : State) : Vector F32 4 :=
  let p := s.span
  let act := s.phActive
  let n := act.length
  let share := fun (k : Nat) =>
    if !act.contains k then F.zero
    else if p.shedding then
      (if k = p.out then p.sOut else F.div (F.sub F.one p.sOut) (F.ofNat (max 1 (n - 1))))
    else F.div F.one (F.ofNat (max 1 n))
  #v[share 0, share 1, share 2, share 3]

/-- The check at the first span period of a tide: the tides below the shed level, and a shed that begins. -/
def State.shedTide (s : State) (i : F32) : State :=
  let p := s.span
  let act := s.phActive
  let n := act.length
  let below := F.lt i (F.mul (s.lawP 6 0x21) (F.ofNat (n - 1)))
  let tides := if p.shedOk then p.shedTides + 1 else 0
  let s1 := s.modSpan (fun p => { p with shedTides := tides, shedOk := true })
  if !p.shedding && decide (s.parN (lawId 6 0x26) < n) && decide (s.parN (lawId 6 0x25) ≤ tides) && below then
    s1.modSpan (fun p => { p with shedding := true, out := act.getLastD 0, sOut := F.div F.one (F.ofNat n), shedTides := 0 })
  else s1

/-- The ramp of a shed in one run: abort, completion or a step (R248, R249). -/
def State.shedStep (s : State) (i : F32) : State :=
  let p := s.span
  let n := s.phActive.length
  if !p.shedding || p.abort then s
  else
    let step := F.recip (F.mul (F.ofNat n) (s.lawP 6 0x24))
    let so := F.sub p.sOut step
    let per := F.div i (F.ofNat (max 1 (n - 1)))
    if F.lt (s.lawP 6 0x23) per then
      (s.modSpan (fun p => { p with abort := true, aborts := satInc p.aborts })).raiseReg evShedAborted .spn per (s.lawP 6 0x23)
    else if F.le so F.zero then
      (s.modSpan (fun p => { p with
        active := p.active &&& ~~~(phMask [p.out]), shedding := false, sOut := F.zero, shedOk := false })).raise evPhaseShed 4 0xF (p.out + 1) 0 0
    else s.modSpan (fun p => { p with sOut := so })

/-- An added phase: the lowest-numbered inactive available one, with its integrator from zero; the phase added, if any. -/
def State.addPhase (s : State) (i : F32) : State × Option Nat :=
  let act := s.phActive
  let free := s.phAvailList.filter (fun k => !act.contains k)
  if !s.span.shedding && F.lt (F.mul (s.lawP 6 0x22) (F.ofNat act.length)) i then
    match free with
    | [] => (s, none)
    | k :: _ =>
      ((s.modSpan (fun p => { p with active := p.active ||| phMask [k] })).raise evPhaseAdded 4 0xF (k + 1) i
        (F.mul (s.lawP 6 0x22) (F.ofNat act.length)), some k)
  else (s, none)

/-- Shedding in one run of `LAW06` in REGULATE with `SHED_EN` = 1. -/
def State.shedRun (s : State) (f : RunIn) (i : F32) : State × Option Nat :=
  if !s.parOn (lawId 6 0x20) || decide (s.span.mode ≠ .regulate) then (s, none)
  else
    let s1 := if f.first then s.shedTide i else s
    let s2 := s1.shedStep i
    let ok := F.lt i (F.mul (s2.lawP 6 0x21) (F.ofNat (s2.phActive.length - 1)))
    (s2.modSpan (fun p => { p with shedOk := p.shedOk && ok })).addPhase i

/-! ### Phase currents (R101) -/

/-- One phase: its duty, and the integrator word. -/
def State.phaseRun (s : State) (f : RunIn) (k : Nat) (share iRef0 : F32) (running preset : Bool) : F32 × F32 :=
  let vl := F.max (f.ain 12) F.one
  let vb := f.ain 13
  let lim := F.mul (f.factor 2) (s.lawP 6 0x02)
  let iRef := F.clamp (F.mul share iRef0) (F.neg lim) lim
  let e := F.sub iRef (f.ain (15 + k))
  let p := F.mul (s.lawP 6 0x00) e
  let ff := F.div vb vl
  -- TRACKING: the output continues at 1 in BYPASS (R247), else at the feed-forward
  let int0 := if running then s.rw 6 (rwIntPh + k) else F.sub (if preset then F.sub vl vb else F.zero) p
  let raw := F.fma (F.add p int0) (F.recip vl) ff
  let int1 := if running then integClamp int0 (F.mul (F.mul (s.lawP 6 0x01) e) (s.lawT 6)) raw F.zero F.one else int0
  (duty01 raw, int1)

/-- A phase reference is held at a limit that the throttle factor lowers (R97, R327). -/
def State.refHeld (s : State) (f : RunIn) (iRef : F32) (sv : Vector F32 4) : Bool :=
  F.lt (f.factor 2) F.one && sv.toList.any (fun share => F.lt (F.mul (f.factor 2) (s.lawP 6 0x02)) (F.abs (F.mul share iRef)))

/-- The converter phase currents form. Outputs: the four high-side duties. -/
def runPhases (l : LawId) (f : RunIn) (s0 : State) : FormOut :=
  let running := s0.running l
  let iRef := f.out 7 0
  let i := F.abs iRef
  let sh := if running then s0.shedRun f i else (s0, none)
  let s1 := sh.1
  let sv := s1.sharesNow
  let inByp := decide (s0.span.mode = .bypass)
  let r := fun (k : Nat) (share : F32) =>
    let x := s0.phaseRun f k share iRef running inByp
    if sh.2 = some k then (duty01 (F.div (f.ain 13) (F.max (f.ain 12) F.one)), F.zero) else x
  let p0 := r 0 sv[(0 : Fin 4)]
  let p1 := r 1 sv[(1 : Fin 4)]
  let p2 := r 2 sv[(2 : Fin 4)]
  let p3 := r 3 sv[(3 : Fin 4)]
  let err := fun (k : Nat) (share : F32) => F.abs (F.sub (F.mul share iRef) (f.ain (15 + k)))
  let e := F.max (F.max (err 0 sv[(0 : Fin 4)]) (err 1 sv[(1 : Fin 4)])) (F.max (err 2 sv[(2 : Fin 4)]) (err 3 sv[(3 : Fin 4)]))
  let vl := f.ain 12
  let s2 := (((s1.addBridgeLoss .sp1 p0.1 (f.ain 15)).addBridgeLoss .sp2 p1.1 (f.ain 16)).addBridgeLoss
    .sp3 p2.1 (f.ain 17)).addBridgeLoss .sp4 p3.1 (f.ain 18)
  { st := s2
    outs := [p0.1, p1.1, p2.1, p3.1]
    words := s0.feRun l e (s0.refHeld f iRef sv) ++
      [(rwIntPh, p0.2), (rwIntPh + 1, p1.2), (rwIntPh + 2, p2.2), (rwIntPh + 3, p3.2)] }

/-! ### The chopper's check (R243) -/

/-- The counts of R256 and R257. -/
def State.chopCheck (s : State) (on : Bool) (iCh vLink : F32) : State :=
  let iExp := F.div (F.mul (s.lawP 7 0x24) vLink) (F.max (s.lawP 7 0x23) (F.dec 1 (-2)))
  s.modSpan (fun p =>
    if on then { p with chOpen := if F.lt iCh iExp then p.chOpen + 1 else 0 }
    else { p with chCond := if F.lt iExp iCh then p.chCond + 1 else 0 })

/-! ### The overvoltage cascade (R258) -/

/-- The excursion and its events, in a `LAW07` run. -/
def State.cascade (s : State) (vLink : F32) (winOv : Bool) : State :=
  let p := s.span
  let ovw := s.lawP 7 0x20
  let ov1 := s.lawP 7 0x21
  let use := !F.isZero ovw
  let ovOn := use && F.lt ovw vLink
  let exc := p.excursion || ovOn
  let low := F.lt vLink ovw
  let below := if exc && low then p.below + s.periodTicks .spn else 0
  let ended := exc && low && decide (s.tideTicks ≤ below)
  let hold := exc && use && F.le ov1 vLink
  let s1 := if ovOn && !p.excursion then s.raiseReg evOvWarn .spn vLink ovw else s
  let s2 := if hold && !p.ov1Told then s1.raiseReg evOvHold .spn vLink ov1 else s1
  let s3 := if winOv && !p.ovTrip then s2.raiseReg evOvTrip .spn vLink 0 else s2
  s3.modSpan (fun q => { q with
    excursion := exc && !ended, ov1Told := (p.ov1Told || hold) && !ended, below := if ended then 0 else below,
    ovTrip := winOv
    level := if winOv then 3 else if hold then 2 else if ovOn then 1 else 0 })

/-! ### Discharge (R254) -/

/-- The end of DISCHARGE as a run sees it. A battery that is still connected stops the chopper at once (R254, R255). -/
def State.disRun (s : State) (vLink iBat : F32) : State :=
  if s.span.mode ≠ .discharge ∨ s.span.disEnd then s
  else if F.lt vLink (s.comP .spn 0x0A) then
    (s.modSpan (fun p => { p with disEnd := true })).raiseReg evDischargeDone .spn vLink (s.comP .spn 0x0A)
  else if F.lt (s.comP .spn 0x0C) (F.abs iBat) then
    ((s.modSpan (fun p => { p with disEnd := true, chStop := true })).select .off .bch).raiseReg evDischargeFail .spn iBat (s.comP .spn 0x0C)
  else s.modSpan (fun p => { p with disT := p.disT + s.periodTicks .spn })

/-! ### Link voltage (R102, R241 to R246) -/

/-- The modes in which v_ref follows the measured link voltage and the integrator is preset (R236). -/
def linkPreset : SpMode → Bool
  | .off => true | .bypass => true | .discharge => true | .standby => false | .regulate => false

/-- The entry and exit conditions of BYPASS and the burst band, for the next period start (R246, R247, R252). -/
def State.linkFlags (s : State) (f : RunIn) (first : Bool) (vl vb ib iChgLim : F32) : State :=
  let p := s.span
  let dv := s.comP .spn 0x01
  let phOk := (List.range 4).all (fun k => F.le (F.abs (f.ain (15 + k))) (s.lawP 6 0x02))
  let batOk := F.le (F.neg (s.lawP 7 0x07)) ib && F.le ib iChgLim
  let ov := !F.isZero (s.lawP 7 0x20) && F.le (s.lawP 7 0x20) vl
  let enter := first && decide (p.mode = .regulate) && (p.bypReq || s.parOn (comId .spn 0x00)) &&
    F.le p.vTarget (F.add vb dv) && F.le (F.abs (F.sub vl vb)) dv && batOk && phOk && !ov
  let leave := decide (p.mode = .bypass) &&
    (F.lt (F.add vb (F.add dv (s.comP .spn 0x02))) p.vTarget || !phOk || !batOk || ov)
  let half := F.mul F.half (s.comP .spn 0x05)
  let lo := F.sub p.vRef half
  let hi := F.add p.vRef half
  let stand := decide (p.mode = .standby)
  -- above `OV_W` the band no longer governs: the burst phase runs (the edge note after R259)
  let start := stand && !p.burst && (F.lt vl lo || F.lt hi vl || ov)
  let reached := (if p.burstUp then F.le hi vl else F.le vl lo) && !ov
  s.modSpan (fun q => { q with
    bypDue := q.bypDue || enter, bypExit := q.bypExit || leave, burstReq := q.burstReq || start,
    burstUp := if start && !q.burstReq then F.lt vl lo else q.burstUp,
    burstEnd := q.burstEnd || (stand && p.burst && reached),
    burstOk := q.burstOk && decide (q.mode = .regulate) && decide (s.phActive.length = 1) && F.lt (F.abs q.iRef) (s.comP .spn 0x04) })

/-- The link form. Outputs: battery current reference, load power, v_ref, k_gen, k_mot, p_in_lim, chopper duty, i_chg_lim, v_target,
measured link voltage, battery voltage and battery current, `I_DIS_MAX`. -/
def runLink (l : LawId) (f : RunIn) (s0 : State) : FormOut :=
  let P := s0.lawP l
  let t := s0.lawT l
  let p := s0.span
  let vl := f.ain 12
  let vb := f.ain 13
  let ib := f.ain 14
  let sp := s0.spRun l f f.sp
  -- target (R241)
  let need := F.max (f.out 0 8) (f.out 3 8)
  let floor := F.max vb (F.max (P 0x00) sp.sp)
  let vOpt := F.clamp (F.div need (F.sub F.one (P 0x02))) floor (P 0x01)
  let first := f.first || p.first
  let vTarget := if first then vOpt else p.vTarget
  -- reference (R242, R236, R252)
  let preset := linkPreset p.mode
  let vRef := if preset then vl else F.slew p.vRef vTarget (F.mul (P 0x03) t)
  let half := F.mul F.half (s0.comP .spn 0x05)
  let ref := if p.burst then (if p.burstUp then F.add vRef half else F.sub vRef half) else vRef
  let e := F.sub ref vl
  -- battery current (R102, R243, R251, R280)
  let pLoad := F.add (f.out 1 1) (f.out 4 1)
  let iChgLim := F.min (P 0x06) (f.out 10 2)
  let nAv := s0.phAvailList.length
  let phLim := F.mul (F.ofNat nAv) (s0.lawP 6 0x02)
  let hi := if nAv < 4 then F.min iChgLim phLim else iChgLim
  let dis := F.min (P 0x07) (f.out 10 3)
  let lo := F.neg (if nAv < 4 then F.min dis phLim else dis)
  let ff := F.neg (F.div pLoad (F.max vb F.one))
  let int0 := if preset then F.sub (F.sub ff ib) (F.mul (P 0x04) e) else s0.rw l rwIntV
  let raw := F.sub ff (F.fma (P 0x04) e int0)
  let use := !F.isZero (P 0x20)
  let ovOn := use && F.lt (P 0x20) vl
  let iRef := if ovOn then hi else F.clamp raw lo hi
  let int1 := if preset then int0 else integ int0 (F.mul (F.mul (P 0x05) e) t) (F.lt raw lo) (F.lt hi raw) ovOn
  -- factors (R243, R258)
  let dOv := F.max (F.sub (P 0x21) (P 0x20)) F.one
  let kGen := if use then F.clamp (F.div (F.sub (P 0x21) vl) dOv) F.zero F.one else F.zero
  let kMot := F.clamp (F.div (F.fma F.two (P 0x22) (F.sub vl vRef)) (F.max (P 0x22) F.one)) F.zero F.one
  let dCh := if use then F.clamp (F.div (F.sub vl (P 0x20)) dOv) F.zero F.one else F.zero
  let pIn := if !use || F.lt (P 0x21) vl then F.zero else s0.lawP 9 0x05
  -- state of the region
  let s1 := (s0.spStatus l f).cascade vl f.winOv
  let sag := F.lt kMot F.one
  let s2 := if sag && !p.sagTold then s1.raiseReg evLinkSag .spn vl vRef else s1
  let s3 := (s2.disRun vl ib).chopCheck f.chop (f.ain 19) vl
  let s4 := s3.modSpan (fun q => { q with
    vTarget := vTarget, vRef := vRef, kGen := kGen, kMot := kMot, sagTold := sag, vLink := vl, vBat := vb, iBat := ib, iRef := iRef,
    pLoad := pLoad, first := false })
  let duty := if s4.span.chStop then F.zero
    else if p.mode = .discharge then F.max dCh (s0.comP .spn 0x09) else dCh
  let s5 := (s4.linkFlags f f.first vl vb ib iChgLim).modSpan (fun q => { q with duty := duty })
  -- losses of GS35 and of the resistor (R322)
  let on := if s0.outNow .bch = .pwm then (s0.brg .bch).cmp.d else if s0.outNow .bch = .lowOn then F.one else F.zero
  let s6 := (s5.addLoss 34 on (f.ain 19)).addLoss 35 F.one (f.ain 19)
  { st := s6
    outs := [iRef, pLoad, vRef, kGen, kMot, pIn, duty, iChgLim, vTarget, vl, vb, ib, P 0x07]
    words := sp.words ++ s0.feRun l (F.sub vRef vl) (ovOn || preset || sp.ramp || (sp.zero && !F.eq vRef p.vRef) ||
      (F.lt raw lo && F.lt (F.neg lo) (P 0x07)) || (F.lt hi raw && F.lt hi (P 0x06))) ++ [(rwIntV, int1)] }

end Sys2Proof.Machine
end

