-- ==== Sys2Proof/Machine/Thermal.lean ====
section
/-! DEFINITION. The thermal form (`LAW14`, R107, R320 to R331) and the regulator form (`LAW15`, R108, R302, R462). -/

namespace Sys2Proof.Machine

/-! ### The node map (R321) -/

/-- Module of a gate side's number n (from 0): TA, TB, SPN, PFC, DAB. -/
def gsModule (n : Nat) : Nat :=
  if n < 6 then 0 else if n < 12 then 1 else if n < 20 then 2 else if n < 26 then 3 else if n < 34 then 4 else 2

/-- What a node links upward to: a parent node, the coolant or the air. -/
inductive Up
  | node (n : Nat) | coolant | air
deriving DecidableEq, Repr

def nodeUp (n : Nat) : Up :=
  if n < 35 then .node (n + 35) else if n < 70 then .node (70 + gsModule (n - 35)) else if n < 75 then .node (n + 5)
  else if n < 80 then .coolant else if n < 82 then .node (n + 2) else if n < 84 then .coolant
  else if n = 84 then .node 85 else .air

/-- The node of sensor k. -/
def sensNode (k : Nat) : Nat := [70, 71, 72, 73, 74, 80, 81, 84].getD k 70

def State.nodeC (s : State) (n : Nat) : F32 := s.lawP 14 (0x20 + 2 * n)
def State.nodeR (s : State) (n : Nat) : F32 := s.lawP 14 (0x21 + 2 * n)

/-- The network is in use. -/
def State.thermOn (s : State) : Bool := decide (s.parN (lawId 14 0) = 86)

/-! ### Losses (R322, R323, R331) -/

/-- Switch type of a gate side's number. -/
def gsType (n : Nat) : Nat := if n < 12 then 0 else if n < 20 then 1 else if n < 26 then 2 else if n < 34 then 3 else 1

/-- A word of the energy store of a type. -/
def State.eWord (s : State) (ty k : Nat) : F32 := s.comP .sup (0x24 * ty + k)

/-- The commutation energy at a current and a voltage (R323). -/
def State.eTab (s : State) (ty : Nat) (i v : F32) : F32 :=
  let x := F.mul (F.div i (s.eWord ty 0x20)) (F.ofNat 7)
  let k := min 6 (F.floor x).toNat
  let u := F.sub x (F.ofNat k)
  let col := fun j => F.lerp (s.eWord ty (4 * k + j)) (s.eWord ty (4 * (k + 1) + j)) u
  let y := F.mul (F.div v (s.eWord ty 0x21)) (F.ofNat 4)
  if F.lt y F.one then F.mul (col 0) y
  else if F.le (F.ofNat 4) y then F.mul (col 3) (F.div v (s.eWord ty 0x21))
  else
    let j := min 2 ((F.floor y).toNat - 1)
    F.lerp (col j) (col (j + 1)) (F.sub y (F.ofNat (j + 1)))

/-- The loss of a switch over the previous SUP period of T seconds. -/
def State.switchLoss (s : State) (n : Nat) (t : F32) : F32 :=
  let r := s.therm.last[Fin.ofNat 38 n]
  let ty := gsType n
  let a := if r.n = 0 then F.zero else F.div r.a (F.ofNat r.n)
  let ia := if F.pos r.a then F.div r.iAbs r.a else F.zero
  let iq := if F.pos r.a then F.div r.iSq r.a else F.zero
  let v := if r.comm = 0 then F.zero else F.div r.v (F.ofNat r.comm)
  let cond := F.mul a (F.fma (s.eWord ty 0x22) ia (F.mul (s.eWord ty 0x23) iq))
  F.add cond (F.mul (F.div (F.ofNat r.comm) t) (s.eTab ty ia v))

/-- The mean square of a record whose current always counts. -/
def meanSq (r : LossRec) : F32 := if r.n = 0 then F.zero else F.div r.iSq (F.ofNat r.n)

/-- The loss input of a node. -/
def State.nodeLoss (s : State) (n : Nat) (t : F32) : F32 :=
  if n < 35 then s.switchLoss n t
  else if n = 80 then F.mul (F.mul (F.dec 15 (-1)) (s.lawP 0 0)) (meanSq s.therm.last[(36 : Fin 38)])
  else if n = 81 then F.mul (F.mul (F.dec 15 (-1)) (s.lawP 3 0)) (meanSq s.therm.last[(37 : Fin 38)])
  else if n = 84 then F.mul (s.lawP 7 0x23) (meanSq s.therm.last[(35 : Fin 38)])
  else F.zero

/-! ### The network's step (R107) -/

/-- Temperatures and inflow accumulators of all nodes. -/
structure Net where
  t   : List F32
  acc : List F32

/-- Update one node in a pass. -/
def State.stepNode (s : State) (dt : F32) (qIn : List F32) (x : Net) (n : Nat) : Net :=
  let t := x.t.getD n F.zero
  let up := match nodeUp n with
    | .node m => x.t.getD m F.zero
    | .coolant => s.lawP 14 0xCC
    | .air => s.lawP 14 0xCD
  let f := F.div (F.sub t up) (F.max (s.nodeR n) (F.dec 1 (-6)))
  let q := F.sub (F.add (s.nodeLoss n dt) (qIn.getD n F.zero)) f
  { t := x.t.set n (F.fma q (F.div dt (F.max (s.nodeC n) (F.dec 1 (-6)))) t)
    acc := match nodeUp n with
      | .node m => x.acc.set m (F.add (x.acc.getD m F.zero) f)
      | .coolant => x.acc | .air => x.acc }

/-- The nodes of a pass. -/
def passNodes (k : Nat) : List Nat := ((List.range 24).map (fun j => 24 * k + j)).filter (fun n => decide (n < 86))

/-! ### Sensors (R324, R325) -/

/-- Start temperatures at the first pass (R324): sensor nodes at their reading, their parent chain by division along the resistances, all
others at `T_INIT`. -/
def State.startTemps (s : State) (f : RunIn) : List F32 :=
  let base := List.replicate 86 (s.lawP 14 1)
  (List.range 8).foldl (fun ts k =>
    let n := sensNode k
    let v := f.ain (32 + k)
    let ts1 := ts.set n v
    match nodeUp n with
    | .node m =>
      let fix := match nodeUp m with | .air => s.lawP 14 0xCD | .coolant => s.lawP 14 0xCC | .node _ => s.lawP 14 0xCC
      ts1.set m (F.fma (F.sub v fix) (F.div (s.nodeR m) (F.add (s.nodeR n) (s.nodeR m))) fix)
    | .coolant => ts1 | .air => ts1) base

/-- The neighbours of a sensor. -/
def sensMates (k : Nat) : List Nat :=
  if k < 5 then [0, 1, 2, 3, 4].filter (fun j => decide (j ≠ k)) else if k = 5 then [6] else if k = 6 then [5] else []

/-- Judge one sensor with its residual in a period, given which sensors disagree. -/
def State.judgeSensor (s : State) (f : RunIn) (res : List F32) (dis : Nat → Bool) (k : Fin 8) : State :=
  let th := s.therm
  let mates := sensMates k.val
  let need := min (s.parN (lawId 14 0xD1)) mates.length
  let agree := (mates.filter (fun j => !dis j && !th.broken.getLsbD j)).length
  let enough := decide (need ≤ agree)
  let r := res.getD k.val F.zero
  let ovr := f.ainOvr (32 + k.val)
  let bad := if k.val = 7 then ovr else dis k.val
  let n := s.parN (lawId 14 0xD0)
  let ev := if bad && enough then s.rwN 14 (rwSensDis k.val) + 1 else 0
  let all := if bad then s.rwN 14 (rwSensAll k.val) + 1 else 0
  let fine := !ovr && F.le (F.abs r) (F.mul F.half (s.lawP 14 0xCF)) && enough
  let ok := if th.broken.getLsbD k.val && fine then s.rwN 14 (rwSensOk k.val) + 1 else 0
  let back := th.broken.getLsbD k.val && decide (10 * n ≤ ok)
  let s1 := (((s.setRw 14 (rwSensDis k.val) (F.ofNat ev)).setRw 14 (rwSensAll k.val) (F.ofNat all)).setRw 14 (rwSensOk k.val)
    (F.ofNat (if back then 0 else ok))).modTherm (fun y => { y with
      broken := if back then y.broken &&& ~~~(BitVec.ofNat 8 (2 ^ k.val)) else y.broken })
  if back then s1.raise evSensRestored 0 0xF (32 + k.val) r (F.mul F.half (s.lawP 14 0xCF)) else s1

/-- A sensor disagrees for `N_SENS` periods and too few neighbours agree (R325). -/
def State.drifts (s : State) : Bool :=
  let n := s.parN (lawId 14 0xD0)
  (List.range 8).any (fun k =>
    decide (n ≤ s.rwN 14 (rwSensAll k)) && decide (s.rwN 14 (rwSensDis k) < n) && !s.therm.broken.getLsbD k)

/-- The sensors in pass 0: residuals, judgement and anchoring. -/
def State.senseRun (s : State) (f : RunIn) (ts : List F32) (first : Bool) : State × List F32 :=
  let res := (List.range 8).map (fun k =>
    if first then F.zero else F.sub (f.ain (32 + k)) (ts.getD (sensNode k) F.zero))
  let tol := s.lawP 14 0xCF
  let dis := fun k => F.lt tol (F.abs (res.getD k F.zero)) || f.ainOvr (32 + k)
  let mask := (List.range 8).foldl (fun n k => n + bit (dis k) * 2 ^ k) 0
  let s1 := ((List.range 8).foldl (fun s k => s.judgeSensor f res dis (Fin.ofNat 8 k)) s).modTherm (fun y => { y with
    dis := BitVec.ofNat 8 mask })
  let d := s1.drifts
  let s2 := if d && !s.therm.drift then s1.raise evModelDrift 0 0xF 0xFF 0 0 else s1
  let s3 := s2.modTherm (fun y => { y with drift := d })
  let ts1 := (List.range 8).foldl (fun ts k =>
    if s.therm.broken.getLsbD k then ts
    else ts.set (sensNode k) (F.fma (s.lawP 14 0xCE) (res.getD k F.zero) (ts.getD (sensNode k) F.zero))) ts
  (s3, ts1)

/-! ### Throttling (R326 to R329) -/

/-- The nodes that govern a channel (R327). -/
def thNodes : ThrCh → List Nat
  | .a => [0, 1, 2, 3, 4, 5, 70, 80]
  | .b => [6, 7, 8, 9, 10, 11, 71, 81]
  | .s => [12, 13, 14, 15, 16, 17, 18, 19, 34, 72]
  | .p => [20, 21, 22, 23, 24, 25, 73]
  | .d => [26, 27, 28, 29, 30, 31, 32, 33, 74]
  | .c => []
  | .r => [84]

/-- The region whose code a channel's events carry (R333). -/
def thReg : ThrCh → RegionId
  | .a => .tra | .b => .trb | .s => .spn | .p => .chg | .d => .chg | .c => .chg | .r => .tra

/-- Class limit and rise limit of a governing node (R326). -/
def State.nodeLim (s : State) (n : Nat) : F32 :=
  s.lawP 14 (if n < 35 then 0xD2 else if n < 75 then 0xD3 else if n < 82 then 0xD4 else 0xD5)
def State.riseLim (s : State) (n : Nat) : F32 := s.lawP 14 (if n < 35 then 0xD6 else 0xD7)

/-- Hot by its rate of rise: inside the band below its limit and rising faster than allowed. -/
def State.hotByRise (s : State) (n : Nat) (t rise : F32) : Bool :=
  F.le (F.sub (s.nodeLim n) (s.lawP 14 0xD8)) t && F.lt (s.riseLim n) rise

def State.nodeHot (s : State) (n : Nat) (t rise : F32) : Bool := F.le (s.nodeLim n) t || s.hotByRise n t rise

/-- The judged factor of a channel. -/
def State.factor (s : State) (k : Fin 7) : F32 := s.rw 14 (rwThr k.val)

/-- A step of a factor, which restarts its timer; channel C follows the lower of P and D (R327, log 20). -/
def State.setFactor (s : State) (k : Fin 7) (v : F32) : State :=
  let s1 := (s.setRw 14 (rwThr k.val) v).setRw 14 (rwThrT k.val) F.zero
  s1.setRw 14 (rwThr 5) (F.min (s1.factor 3) (s1.factor 4))

/-- Lower a factor by a step: THERMAL_THROTTLE where it first leaves 1. -/
def State.lowerFactor (s : State) (ch : ThrCh) (t lim : F32) : State :=
  let k := thIx ch
  let old := s.factor k
  let new := F.max (F.sub old (s.lawP 14 0xDA)) F.zero
  let s1 := s.setFactor k new
  if F.eq old F.one && F.lt new F.one then s1.raise evThermalThrottle (regCode (thReg ch)) 0xF 0xFF t lim else s1

/-- Raise a factor by a step: THERMAL_RESTORED where it returns to 1. -/
def State.raiseFactor (s : State) (ch : ThrCh) : State :=
  let k := thIx ch
  let old := s.factor k
  let new := F.min (F.add old (s.lawP 14 0xDA)) F.one
  let s1 := s.setFactor k new
  if F.lt old F.one && F.eq new F.one then s1.raise evThermalRestored (regCode (thReg ch)) 0xF 0xFF new F.one else s1

/-- Judge a channel: its first step down, and the time its condition has lasted. -/
def State.judgeChannel (s : State) (ts rise : List F32) (ch : ThrCh) : State :=
  let k := thIx ch
  let nodes := thNodes ch
  let hotN := nodes.filter (fun n => s.nodeHot n (ts.getD n F.zero) (rise.getD n F.zero))
  let hot := !hotN.isEmpty
  let cool := !hot && nodes.all (fun n => F.le (ts.getD n F.zero) (F.sub (s.nodeLim n) (s.lawP 14 0xDC))) && !nodes.isEmpty
  let wasHot := s.therm.hot.getLsbD k.val
  let wasCool := s.therm.cool.getLsbD k.val
  let bitK : BitVec 7 := BitVec.ofNat 7 (2 ^ k.val)
  let run := (hot && wasHot) || (cool && wasCool)
  let s1 := (s.setRw 14 (rwThrT k.val) (F.ofNat (if run then s.rwN 14 (rwThrT k.val) + 1 else 0))).modTherm (fun y => { y with
    hot := if hot then y.hot ||| bitK else y.hot &&& ~~~bitK
    cool := if cool then y.cool ||| bitK else y.cool &&& ~~~bitK })
  let n0 := hotN.headD 0
  if hot && !wasHot then s1.lowerFactor ch (ts.getD n0 F.zero) (s.nodeLim n0) else s1

/-- THERMAL_RISE, once per hot episode of a node. -/
def State.riseEvents (s : State) (ts rise : List F32) (ch : ThrCh) : State :=
  (thNodes ch).foldl (fun s n =>
    let t := ts.getD n F.zero
    let r := rise.getD n F.zero
    let told := s.therm.rise.contains n
    if s.hotByRise n t r && !told then
      (s.modTherm (fun y => { y with rise := n :: y.rise })).raise evThermalRise (regCode (thReg ch)) 0xF 0xFF r (s.riseLim n)
    else if told && !s.nodeHot n t r then s.modTherm (fun y => { y with rise := y.rise.filter (fun m => decide (m ≠ n)) })
    else s) s

/-- A channel's trip holds or not, and whether it is raised now: once while it holds, and again where its region has left the safe state
(DEDUCED, log 97). -/
def State.tripMark (s : State) (ch : ThrCh) (holds : Bool) : State :=
  let bitK : BitVec 7 := BitVec.ofNat 7 (2 ^ (thIx ch).val)
  s.modTherm (fun y => { y with trip := if holds then y.trip ||| bitK else y.trip &&& ~~~bitK })

/-- Trips: a junction at or above its limit and margin takes its channel's region to REGION-SAFE (R329). -/
def State.tripChannel (s : State) (ts : List F32) (ch : ThrCh) : State :=
  let lim := F.add (s.lawP 14 0xD2) (s.lawP 14 0xDD)
  let r := thReg ch
  match (thNodes ch).find? (fun n => decide (n < 35) && F.le lim (ts.getD n F.zero)) with
  | none => s.tripMark ch false
  | some n =>
    let s1 := s.tripMark ch true
    if s.therm.trip.getLsbD (thIx ch).val && (s.isSafe r || s.power.devSafe) then s1
    else (s1.raise evThermalTrip (regCode r) 0xF 0xFF (ts.getD n F.zero) lim).safeBy r evThermalTrip

/-- The resistor at or above its limit and margin is a fault of SUP (R329). -/
def State.tripResistor (s : State) (ts : List F32) : State :=
  let lim := F.add (s.lawP 14 0xD5) (s.lawP 14 0xDD)
  let t := ts.getD 84 F.zero
  if !F.le lim t then s.tripMark .r false
  else if s.therm.trip.getLsbD (thIx .r).val && s.power.devSafe then s
  else (s.tripMark .r true).lawSafe evResOverheat 14 0xFF t lim

/-- The judgement of pass 3. -/
def State.judge (s : State) (ts rise : List F32) : State :=
  let s1 := [ThrCh.a, .b, .s, .p, .d, .r].foldl (fun s ch => (s.riseEvents ts rise ch).judgeChannel ts rise ch) s
  ([ThrCh.a, .b, .s, .p, .d].foldl (fun s ch => s.tripChannel ts ch) s1).tripResistor ts

/-! ### The pass -/

/-- The thermal form in the pass in flight. Outputs: the seven factors. -/
def runThermal (l : LawId) (f : RunIn) (s0 : State) : FormOut :=
  let k := s0.therm.passK
  let dt := s0.lawT l
  if !s0.thermOn then
    { st := s0.modTherm (fun y => { y with hot := 0, cool := 0, anchored := false, rise := [], trip := 0 })
      outs := List.replicate 7 F.one
      words := (List.range 7).map (fun k => (rwThr k, F.one)) ++ (List.range 7).map (fun k => (rwThrT k, F.zero)) }
  else
    let first := decide (k = 0) && !s0.therm.anchored
    let ts0 := if first then s0.startTemps f else (List.range 86).map (fun n => s0.rw l (rwT n))
    let qIn := (List.range 86).map (fun n => if first then F.zero else s0.rw l (rwQin n))
    let acc0 := (List.range 86).map (fun n => if first then F.zero else s0.rw l (rwQacc n))
    let sr := if k = 0 then s0.senseRun f ts0 first else (s0, ts0)
    let x := (passNodes k.val).foldl (s0.stepNode dt qIn) { t := sr.2, acc := acc0 }
    let word := fun (base : Nat → Nat) (vs : List F32) => (List.range 86).map (fun n => (base n, vs.getD n F.zero))
    let kept := fun (s : State) (first n : Nat) => (List.range n).map (fun j => (first + j, s.rw l (first + j)))
    if k = 3 then
      let fil := (List.range 86).map (fun n =>
        F.filter (s0.rw l (rwRise n)) (x.t.getD n F.zero) dt (s0.lawP 14 0xD9))
      let rise := (List.range 86).map (fun n => F.div (F.sub (fil.getD n F.zero) (s0.rw l (rwRise n))) dt)
      let s1 := sr.1.judge x.t rise
      { st := s1, outs := (List.finRange 7).map s1.factor
        words := word rwT x.t ++ word rwQin x.acc ++ word rwQacc (List.replicate 86 F.zero) ++ word rwRise fil ++ kept s1 (rwThr 0) 14 }
    else
      { st := if k = 0 then sr.1.modTherm (fun y => { y with anchored := true }) else sr.1
        outs := s0.therm.f.toList
        words := word rwT x.t ++ word rwQacc x.acc ++ (if first then word rwQin qIn ++ word rwRise x.t else []) ++
          (if k = 0 then kept sr.1 (rwSensDis 0) 24 else []) }

/-! ### Rows of their own -/

/-- SENS_BROKEN (R325): `N_SENS` periods of disagreement against agreeing neighbours. -/
def doSensBroken (k : Fin 8) (s : State) : State :=
  if !s.therm.broken.getLsbD k.val ∧ s.thermOn ∧ s.parN (lawId 14 0xD0) ≤ s.rwN 14 (rwSensDis k.val) then
    ((s.setRw 14 (rwSensOk k.val) F.zero).modTherm (fun y => { y with broken := y.broken ||| BitVec.ofNat 8 (2 ^ k.val) })).raise evSensBroken
      0 0xF (32 + k.val) 0 (s.lawP 14 0xCF)
  else s

def execSensBroken (k : Fin 8) (s : State) : Host.Outcome State Fault Refusal := whenLive s (doSensBroken k)

/-- THROTTLE_STEP (R328): `THR_STEP_TIME` has passed since the last step of a hot channel, or in the restoring condition. -/
def doThrottleStep (ch : ThrCh) (s : State) : State :=
  let k := thIx ch
  if s.thermOn && decide (ch ≠ .c) && decide (secTicks (s.lawP 14 0xDB) ≤ s.rwN 14 (rwThrT k.val) * s.periodTicks .sup) then
    if s.therm.hot.getLsbD k.val then s.lowerFactor ch F.zero F.zero
    else if s.therm.cool.getLsbD k.val && F.lt (s.factor k) F.one then s.raiseFactor ch
    else s
  else s

def execThrottleStep (ch : ThrCh) (s : State) : Host.Outcome State Fault Refusal := whenLive s (doThrottleStep ch)

/-! ### Regulator (R108, R302, R462) -/

/-- The regulator form. Outputs: the push-pull duty of each phase and the coil duty. The reference ramps from the measured rail to
`V_GP_REF` over `GP_SOFT_TIME`. -/
def runRegulator (l : LawId) (f : RunIn) (s0 : State) : FormOut :=
  let P := s0.lawP l
  let t := s0.lawT l
  let v := f.ain 31
  let begun := F.pos (s0.rw l rwGpTime)
  let v0 := if begun then s0.rw l rwGpStart else v
  let soft := P 0x46
  let time := if F.lt (s0.rw l rwGpTime) soft then F.add (s0.rw l rwGpTime) t else s0.rw l rwGpTime
  let ref := if F.le soft time then P 0x00 else F.lerp v0 (P 0x00) (F.div time soft)
  let e := F.sub ref v
  let int0 := s0.rw l rwIntGp
  let raw := F.fma (P 0x01) e int0
  let stopped := s0.power.gpStopped
  let d := if stopped then F.zero else F.clamp raw F.zero (P 0x03)
  let int1 := if stopped then F.zero else integClamp int0 (F.mul (F.mul (P 0x02) e) t) raw F.zero (P 0x03)
  -- coil current in RELEASED; the integrator holds in a test pulse (R302, R304)
  let rel := decide (s0.brake.mode = .released)
  let ec := F.sub (P 0x20) s0.brake.iCoil
  let intC := if rel then s0.rw l rwIntCoil else F.zero
  let rawC := F.fma (P 0x26) ec intC
  let coil := if rel then duty01 rawC else if s0.brake.pulling then F.one else F.zero
  let intC1 := if rel && decide (s0.brake.pulse = 0) then integClamp intC (F.mul (F.mul (P 0x27) ec) t) rawC F.zero F.one else intC
  { st := s0.modPower (fun p => { p with gpNow := v })
    outs := [d, coil]
    words := s0.feRun l e stopped ++ [(rwIntGp, int1), (rwIntCoil, intC1), (rwGpStart, v0), (rwGpTime, time)] }

end Sys2Proof.Machine
end

