-- ==== Sys2Proof/Machine/Vote.lean ====
section
/-! DEFINITION. The end of a run: the vote, odd replicas, input spread, the form's equations, the outputs latched (R73, R85, R87, R111,
R114 to R118, R121, R122, R125, R129, R131), and the motion check of the brake test (R307). -/

namespace Sys2Proof.Machine

/-- The equations of an engine's form. -/
def runForm (l : LawId) (f : RunIn) (s : State) : FormOut :=
  match lawForm l with
  | .foc => runFoc l f s
  | .speed => runSpeed l f s
  | .observer => runObs l f s
  | .phases => runPhases l f s
  | .link => runLink l f s
  | .pfc => runPfc l f s
  | .dab => runDab l f s
  | .charge => runCharge l f s
  | .position => runPosition l f s
  | .thermal => runThermal l f s
  | .regulator => runRegulator l f s

/-! ### Odd replicas (R114, R121, R122, R125) -/

/-- Odd three times within 1 s of device time. -/
def Law.thirdTime (x : Law) (k : RepId) (now : Time) : Bool :=
  match (x.rep k).oddAt with
  | [_, old] => decide ((now - old).toNat ≤ 400000000)
  | _ => false

/-- Make a replica odd: counted, darned where `darn` lets a darning start, or retired on the third time within 1 s. -/
def State.makeOdd (s : State) (l : LawId) (k : RepId) (darn : Bool) : State :=
  let now := s.tim.devTime
  let third := (s.law l).thirdTime k now
  let s1 := s.modLaw l (fun x => { x.modRep k (fun r => { r.noSpread with
      odd := if r.odd = 0xFF then r.odd else r.odd + 1, oddAt := (now :: r.oddAt).take 2, joins := false,
      st := if third then .retired else .darning }) with
    madeOdd := true, darnDue := if third || !darn then x.darnDue else some k })
  if third then s1.raiseLaw evReplicaRetired l k.val 0 0 else s1

/-- A replica that the vote finds odd: REPLICA_ODD, or REPLICA_LATE where its bundle is missing; a late crossing has been reported at S. -/
def State.voteOdd (s : State) (l : LawId) (k : RepId) (missing darn : Bool) : State :=
  let told := ((s.law l).rep k).late
  let s1 := s.modLaw l (fun x => { x with lastOddTide := s.tim.tideIndex })
  let s2 := if missing then (if told then s1 else s1.raiseLaw evReplicaLate l k.val 0 0) else s1.raiseLaw evReplicaOdd l k.val 0 0
  s2.makeOdd l k darn

/-! ### Spread (R121) -/

/-- More than 1 % of the agreed value. -/
def spread1 (x agreed : Word) : Bool := decide (agreed.toNat < 100 * (Int.natAbs (Int.ofNat x.toNat - Int.ofNat agreed.toNat)))

def spreadEnc (p : PinSample) (g : Agreed) : Bool := decide (2 < (p.encCount - g.encCount).toInt.natAbs)
def spreadSp0 (p : PinSample) (g : Agreed) : Bool := spread1 p.sp0Period g.sp0Period || spread1 p.sp0High g.sp0High
def spreadSp1 (p : PinSample) (g : Agreed) : Bool := spread1 p.sp1Period g.sp1Period || spread1 p.sp1High g.sp1High

/-- An engine uses an input: the encoder in the observer form, the hall inputs in the position form, a pulse input where its source names
it. -/
def State.usesSp (s : State) (l : LawId) (n : Nat) : Bool :=
  formExt (lawForm l) && (let v := s.parN (lawId l 0xE0); decide (v = 3 + 2 * n) || decide (v = 4 + 2 * n))

/-- One input of one replica in one run: its count, and whether this is the third run in a row. -/
def spreadStep (n : Nat) (hit : Bool) : Nat × Bool := if !hit then (0, false) else if n = 2 then (0, true) else (n + 1, false)

/-- INPUT_SPREAD of one replica: raised and counted; odd only in a triplex triad where the vote has made no other replica odd. -/
def State.spreadEvent (s : State) (l : LawId) (k : RepId) (odd : Bool) : State :=
  let s1 := (s.modLaw l (fun x => { x with spreadCount := satInc x.spreadCount })).raiseLaw evInputSpread l k.val 0 0
  if odd && (s1.law l).triplex then s1.makeOdd l k true else s1

/-- The spreads of one replica. -/
def State.spreadRep (s : State) (l : LawId) (f : RunIn) (odd : Bool) (k : RepId) : State :=
  let r := (s.law l).rep k
  if r.st ≠ .active ∨ r.late ∨ r.mute then s
  else
    let p := triGet f.pins k
    let g := f.agreed
    let e := spreadStep r.sprEnc (decide (lawForm l = .observer) && spreadEnc p g)
    let a := spreadStep r.sprSp0 (s.usesSp l 0 && spreadSp0 p g)
    let b := spreadStep r.sprSp1 (s.usesSp l 1 && spreadSp1 p g)
    let h := spreadStep r.sprHall (decide (lawForm l = .position) && decide (p.hall ≠ g.hall))
    let s1 := s.modLaw l (fun x => x.modRep k (fun y => { y with
      sprEnc := e.1, sprSp0 := a.1, sprSp1 := b.1, sprHall := h.1 }))
    each [e.2, a.2, b.2, h.2] (fun s hit => if hit then s.spreadEvent l k odd else s) s1

/-! ### The decision of the voter (R111, R114) -/

/-- What the vote decides: not passed on with its cause, or passed on with the lowest-numbered replica of those that agree and the odd one, if
any, and whether its bundle is missing. -/
inductive Decision
  | pass (rep : RepId) (odd : Option (RepId × Bool))
  | fail (c : Cause)
deriving DecidableEq, Repr

/-- The bundle a replica sends; one dropped from the crossing has no run to send one of (R113). -/
def Law.sent (x : Law) (o : VoteObs) (k : RepId) : Bundle := if (x.rep k).late then .missing else triGet o.bundles k

/-- The bundle the voter compares; a replica whose pin samples were missing is odd whatever it sends (R120). -/
def Law.bundle (x : Law) (o : VoteObs) (k : RepId) : Bundle := if (x.rep k).mute then .missing else x.sent o k

/-- Two bundles are identical in every output word and in the signature: those of fault-free runs are (R84). A bundle that the row calls odd
differs from the fault-free one. -/
def bundlesAgree : Bundle → Bundle → Bool
  | .good, .good => true
  | .odd a g, .odd b h => decide (a = b ∧ g = h)
  | .good, .odd _ _ => false | .good, .missing => false
  | .odd _ _, .good => false | .odd _ _, .missing => false
  | .missing, .good => false | .missing, .odd _ _ => false | .missing, .missing => false

/-- The third replica of a triplex triad in which one pair agrees. -/
def Law.third (x : Law) (o : VoteObs) (k : RepId) : Option (RepId × Bool) := some (k, Decidable.decide (x.sent o k = .missing))

/-- The table of R114. -/
def Law.decide (x : Law) (o : VoteObs) : Decision :=
  let same := fun a b => bundlesAgree (x.bundle o a) (x.bundle o b)
  match x.active with
  | [a, b, c] =>
    if same a b && same b c then .pass a none
    else if same a b then .pass a (x.third o c)
    else if same a c then .pass a (x.third o b)
    else if same b c then .pass b (x.third o a)
    else .fail evTriadSplit
  | [a, b] => if same a b then .pass a none else .fail evDuplexMismatch
  | [] => .fail evDuplexMismatch
  | [_] => .fail evDuplexMismatch
  | _ :: _ :: _ :: _ :: _ => .fail evDuplexMismatch

/-! ### What the replicas hold after a run (R110, R117, R133) -/

/-- Free words that the end of a run may draw: 512 for each replica's run state, and a signature for each (log 88). -/
def voteDraws : Nat := 3 * 512 + 3

/-- The replica that stands for a faulty one: the lowest-numbered that has sent the same bundle, whose words are the same. -/
def Law.twin (x : Law) (o : VoteObs) (k : RepId) : RepId :=
  (x.active.find? (fun m => bundlesAgree (x.sent o m) (x.sent o k))).getD k

/-- The run-state words that a replica has written: those of the form in a fault-free run; those of a faulty run are not stated (log 88). -/
def Law.wrote (x : Law) (o : VoteObs) (free : Nat) (ws : List (Nat × F32)) (k : RepId) : List (Nat × F32) :=
  if x.sent o k = .good then ws
  else ws.zipIdx.map (fun w => (w.1.1, Config.freeWord (free + 512 * (x.twin o k).val + w.2)))

/-- Every ACTIVE replica holds what it has written. -/
def Law.store (x : Law) (o : VoteObs) (free : Nat) (ws : List (Nat × F32)) : Law :=
  { x with reps := Vector.ofFn (fun k => if (x.rep k).st = .active then (x.rep k).setRws (x.wrote o free ws k) else x.rep k) }

/-- The words that the agreement round installs, in the order of the row (log 77). -/
def Agreed.words (g : Agreed) : List Word :=
  [g.encCount.setWidth 32, wd (bit g.encIndex), wd (bit g.encFault), g.sp0Period, g.sp0High, g.sp1Period, g.sp1High, g.sp0Since, g.sp1Since,
   g.hall.setWidth 32, g.edgeTicks, g.sinceEdge]

/-- Signatures of the run (R117): the register folds the agreed values, the results of the datapath, the state words and the output words of a
fault-free run; a faulty bundle carries its own, and that of a replica that sends none is not stated. -/
def State.signRun (s : State) (l : LawId) (f : RunIn) (o : VoteObs) (outs : List F32) (ws : List (Nat × F32)) : State :=
  let sig := misr (f.agreed.words ++ Config.datapath l.val s.free ++ ws.map Prod.snd ++ outs)
  s.modLaw l (fun x => { x with reps := Vector.ofFn (fun k =>
    if (x.rep k).st ≠ .active then x.rep k
    else { x.rep k with sig := match x.sent o k with
      | .good => sig
      | .odd _ g => g
      | .missing => Config.freeWord (s.free + 1536 + k.val) }) })

/-! ### The output of a run -/

/-- The value an engine gives a bridge it drives (R92, R140). -/
def lawDuty (l : LawId) (outs : List F32) (i : Nat) : Duty :=
  let o := fun k => outs.getD k 0
  match lawForm l with
  | .foc => { d := o i, delta := o (3 + i) }
  | .link => { d := o 6 }
  | .dab => { d := F.half, phi := o 0 }
  | .phases => { d := o i } | .pfc => { d := o i } | .position => { d := o i }
  | .speed => {} | .observer => {} | .charge => {} | .thermal => {} | .regulator => {}

/-- The holding registers of the bridges an engine drives show its oldest output that waits for A (R73); only a RUNNING engine's values reach
them (R89). -/
def State.loadHold (s : State) (l : LawId) : State :=
  each (lawBridges l).zipIdx (fun s b => s.modBrg b.1 (fun x => { x with
    hold := match (s.law l).held with
      | h :: _ => if h.drives then some (lawDuty l h.outs b.2) else none
      | [] => none })) s

/-- Latch a voted output: it waits for the A of its run (R73, R75). -/
def State.latch (s : State) (l : LawId) (f : RunIn) (outs : List F32) : State :=
  (s.modLaw l (fun x => { x with
    held := x.held ++ [⟨outs, f.applyAt, decide (x.state = .running)⟩], voted := true, sampled := f.at_ })).loadHold l

/-- The state variables of a run that stand beside the run-state words: those its subject shows as well. -/
def subjectWords (l : LawId) (s : State) : List F32 :=
  let x := lawSide l
  match lawForm l with
  | .foc => [(s.tr x).iq, (s.tr x).vLast] | .speed => [(s.tr x).tRef]
  | .observer => [(s.tr x).psi, (s.tr x).eLast, (s.tr x).speed, (s.tr x).conf]
  | .phases => [s.span.sOut] | .link => [s.span.vTarget, s.span.vRef, s.span.iRef]
  | .pfc => s.chg.vrms.toList | .dab => [] | .charge => [s.chg.iSrc, s.chg.pSrc, s.chg.absV, s.chg.vBatPrev]
  | .position => [(s.actu (lawAct l)).pos, (s.actu (lawAct l)).speed] | .thermal => s.therm.f.toList | .regulator => []

/-- Every output word and every state variable of a run is finite (R85). -/
def FormOut.finite (o : FormOut) (l : LawId) : Bool :=
  o.outs.all F.isFinite && o.words.all (fun w => F.isFinite w.2) && (subjectWords l o.st).all F.isFinite

/-- Run the form on the inputs of the run with the parameters of its S (R87). -/
def State.formRun (s : State) (l : LawId) (f : RunIn) : FormOut :=
  let o := runForm l f (s.withRunParams f)
  { o with st := { o.st with params := s.params } }

/-- The output words that the agreeing replicas have sent. -/
def FormOut.sentBy (o : FormOut) (b : Bundle) : FormOut :=
  match b with
  | .good => o
  | .odd ws _ => { o with outs := o.outs.zipIdx.map (fun w => ws.getD w.2 w.1) }
  | .missing => o

/-- The run's state is taken and its output passed on; `pass` is false for a run completed by stepping, whose outputs are not (R131), and an
output that has missed its A is not either (R75). -/
def State.takeRun (s : State) (l : LawId) (f : RunIn) (o : FormOut) (v : VoteObs) (pass : Bool) : State :=
  if !o.st.runs l then o.st
  else
    let s1 := o.st.modLaw l (fun x => x.store v s.free o.words)
    if !o.finite l then s1.lawSafe evLawNonfinite l 0xFF 0 0
    else if pass && !f.dead then s1.latch l f o.outs
    else s1

/-- A run that is not passed on for want of agreement: its event, the end of darning in a duplex triad, and REGION-SAFE at the next period
start of the region (R114, R116, R126). -/
def State.failRun (s : State) (l : LawId) (c : Cause) : State :=
  ((s.raiseLaw c l 0xFF 0 0).modLaw l (fun x =>
    if c = evDuplexMismatch then { x with darn := none, darnDue := none } else x)).modReg (lawReg l) (fun r => { r with
      safeDue := some (r.safeDue.getD (codeOf c.lvl (regCode (lawReg l)) c.num)) })

/-! ### The brake test's motion check (R307) -/

/-- The test fails: torque zero at once, cause 1 motion or 2 torque, its step, `BRK.TEST_FAILED`; the brake stays APPLIED. -/
def State.failBrakeTest (s : State) (t : BrakeTest) (why : Nat) : State :=
  (s.modBrake (fun b => { b with mode := .applied, test := none, testFailed := true })).raiseBrk evBrakeTestFail
    (regCode (sideReg t.side)) (wd why) (wd t.step) t.tag

/-- The encoder has moved more than `BT_COUNT_MAX` counts from its reference; a test that a brake fault of the same run has ended is judged as
well (R319). -/
def State.motionCheck (s : State) (l : LawId) : State :=
  match s.brake.test.or s.brake.late with
  | none => s
  | some t =>
    if obsLaw t.side = l ∧ t.encSet ∧
        s.parN (lawId 15 0x33) < ((s.tr t.side).enc - t.enc).toInt.natAbs then s.failBrakeTest t 1
    else s

/-! ### The end of a run -/

/-- After the vote: spreads are judged, a requested halt takes effect (R121, R129, R45). -/
def State.closeRun (s : State) (l : LawId) (f : RunIn) (clean : Bool) : State :=
  let free := !(s.law l).madeOdd
  let s0 := s.modBrake (fun b => { b with late := b.late.filter (fun t => decide (obsLaw t.side ≠ l)) })
  let s1 := each allReps (fun s k => s.spreadRep l f free k) (s0.modLaw l (fun x => { x with flight := none }))
  let s2 := s1.modLaw l (fun x => { x with clean := clean && x.triplex })
  if (s2.law l).haltReq then
    (s2.modLaw l (fun x => { x with haltReq := false, halted := true, cycle := formCycles (lawForm l) })).raiseLaw evDebugHalted l 0xFF 0 0
  else s2

/-- The run state of a run whose output is not passed on for want of a decision. -/
def State.keepWords (s : State) (l : LawId) (o : FormOut) (v : VoteObs) : State := s.modLaw l (fun x => x.store v s.free o.words)

/-- One run ends (R111, R114). Where the two voter copies disagree nothing is passed on; a replica that is odd in that run is recorded and made
odd, and no darning starts (R134). -/
def State.endRun (s : State) (l : LawId) (f : RunIn) (v : VoteObs) (pass : Bool) : State :=
  let d := (s.law l).decide v
  let odd := match d with
    | .pass _ k => k
    | .fail _ => none
  let s0 := s.modLaw l (fun x => { x with madeOdd := false })
  let sign := fun (t : State) (o : FormOut) => { t.signRun l f v o.outs o.words with free := t.free + voteDraws }
  let found := fun (t : State) (darn : Bool) => match odd with
    | some k => t.voteOdd l k.1 k.2 darn
    | none => t
  let o := s0.formRun l f
  let t := match v.copiesAgree, d with
    | false, _ => (found (sign (s0.keepWords l o v) o) false).lawSafe evVoterMismatch l 0xFF 0 0
    | true, .fail c => (sign (s0.keepWords l o v) o).failRun l c
    | true, .pass k _ => found (sign ((s0.takeRun l f (o.sentBy ((s.law l).sent v k)) v pass).motionCheck l) o) true
  t.closeRun l f (v.copiesAgree && odd.isNone && (s.law l).triplex)

/-- VOTE: the run in flight of an engine ends; a run that a strobe collision left without its set gives no output (R201). -/
def doVote (l : LawId) (o : VoteObs) (s : State) : State :=
  match (s.law l).flight with
  | none => s
  | some f =>
    if (s.law l).halted then s
    else if f.noSet then s.modLaw l (fun x => { x with flight := none })
    else s.endRun l f o true

/-- VOTE (R114). -/
def execVote (l : LawId) (o : VoteObs) (s : State) : Host.Outcome State Fault Refusal := whenLive s (doVote l o)

end Sys2Proof.Machine
end

