-- ==== Sys2Proof/Machine/Apply.lean ====
section
/-! DEFINITION. The apply instant of a run, the mirrors that ride on it, and the set-point and following-error commands (R73 to R75, R95 to
R97, R217, R327, R401). -/

namespace Sys2Proof.Machine

/-! ### Mirrors (R401) -/

/-- Payload of the MIRROR crossing of a region in its present period. -/
def State.periodMirror (s : State) (r : RegionId) (sample : Time) (ws : List Word) : List Word :=
  mirrorPayload ⟨r, (s.reg r).periods - 1, sample, ws⟩

/-- Words of a traction mirror. -/
def State.trMirror (s : State) (x : Side) : List Word :=
  let t := s.tr x
  let o := fun (l : LawId) (k : Nat) => (s.law l).out.getD k 0
  [packWord [(0, 16, t.angle.toNat), (16, 3, trCode t.mode), (19, 1, bit (s.isSafe (sideReg x)))],
   o (obsLaw x) 1, t.conf, t.psi, t.eLast, o (obsLaw x) 4, s.rw (speedLaw x) rwIntW, s.rw (speedLaw x) rwWref, o (speedLaw x) 5,
   s.haws.kPair[sIx x], (s.law (speedLaw x)).ringSp, (s.law (speedLaw x)).ringMz, t.vLast]

/-- Words of the span mirror. -/
def State.spMirror (s : State) : List Word :=
  let o := fun (k : Nat) => (s.law 7).out.getD k 0
  [(s.regionByte .spn).setWidth 32, o 2, o 8, s.rw 7 rwIntV, o 0, o 3, o 4, o 9, o 10]

/-- Words of the mirrors sent once per tide. -/
def State.chMirror (s : State) : List Word :=
  [packWord [(0, 3, chCode s.chg.mode), (4, 3, sesCode s.chg.session), (10, 1, bit s.chg.batAbsent)], s.chg.pSrc,
   ticksSec s.timerLeft]
def State.actMirror (s : State) : List Word :=
  allActs.map (fun a => packWord [(0, 3, actCode (s.actu a).mode), (4, 1, bit (s.actu a).parked)]) ++ allActs.map (fun a => (s.actu a).pos)
def State.supMirror (s : State) : List Word :=
  packWord [(0, 2, brkCode s.brake.mode), (2, 1, bit s.brake.testFailed)] :: s.therm.f.toList

/-- Time from the period start to A of an engine, in seconds (R70). -/
def State.applyAt (s : State) (l : LawId) : F32 := F.fma (s.lawP l 0xF0) (s.lawT l) (s.lawP l 0xF1)

/-- The engine has the latest A among the running engines of its region; of equal ones the highest-numbered. -/
def State.lastApply (s : State) (l : LawId) : Bool :=
  (regLaws (lawReg l)).all (fun m => m = l || !s.runs m || F.lt (s.applyAt m) (s.applyAt l) ||
    (F.eq (s.applyAt m) (s.applyAt l) && decide (m.val < l.val)))

/-- The mirror of TRA, TRB or SPN goes out at the latest A of the region. -/
def State.mirrorAt (s : State) (l : LawId) : State :=
  if !s.pairOn || !s.lastApply l then s
  else
    match lawReg l with
    | .tra => s.queueCross .mirror (s.periodMirror .tra (s.law 2).sampled (s.trMirror .a))
    | .trb => s.queueCross .mirror (s.periodMirror .trb (s.law 5).sampled (s.trMirror .b))
    | .spn => s.queueCross .mirror (s.periodMirror .spn (s.law 7).sampled s.spMirror)
    | .chg => s | .act => s | .sup => s | .hst => s

/-! ### The apply instant -/

/-- The oldest output that waits becomes visible; the factors of `LAW14` with it (R74, R327, R331). -/
def State.showOut (s : State) (l : LawId) (h : Held) : State :=
  let s1 := s.modLaw l (fun x => { x with prev := x.out, out := h.outs, shownAt := some h.at_, held := x.held.tail })
  if l = 14 then s1.modTherm (fun t => { t with f := Vector.ofFn (fun (k : Fin 7) => h.outs.getD k.val F.one) }) else s1

/-- The holding values become pending (R73), and the registers take the next output that waits. -/
def State.pendDuties (s : State) (l : LawId) : State :=
  (each (lawBridges l) (fun s b => s.modBrg b (fun x =>
    match x.hold with
    | some v => { x with pend := v, hold := none, fresh := true }
    | none => x)) s).loadHold l

/-- Of two outputs whose A lie in one bridge cycle the later sample is applied and the earlier one discarded without event (R75). -/
def State.dropStale (s : State) (l : LawId) : State :=
  match (s.law l).held with
  | a :: b :: _ => if a.at_ / 8 = b.at_ / 8 then (s.modLaw l (fun x => { x with held := x.held.tail })).loadHold l else s
  | [] => s | [_] => s

/-- A speed/torque loop refreshes its limits for its vectoring partner (R217). -/
def State.refreshLimits (s : State) (l : LawId) : State :=
  match lawForm l with
  | .speed => s.modTr (lawSide l) (fun t => { t with limAt := s.tim.devTime })
  | .foc => s | .observer => s | .phases => s | .link => s | .pfc => s | .dab => s | .charge => s | .position => s | .thermal => s
  | .regulator => s

/-- An output not latched before the bridge cycle of A: the pending value stays, OUTPUT_LATE, REGION-SAFE (R75). It is not applied later: the
output of a run still in flight is marked. -/
def State.outputLate (s : State) (l : LawId) : State :=
  let s1 := match (s.law l).held with
    | _ :: _ => (s.modLaw l (fun x => { x with held := x.held.tail })).loadHold l
    | [] => s.modFlight l (fun f => { f with dead := true })
  s1.lawSafe evOutputLate l 0xFF 0 0

/-- A run in flight will give an output at its A: it is not halted, has its set, and has not missed its A already. -/
def Law.outputDue (x : Law) : Bool :=
  match x.flight with
  | some f => !x.halted && !f.noSet && !f.dead
  | none => false

/-- A of a run: its output becomes visible and its holding values become pending. An output still in flight then is late (R75). -/
def doApply (l : LawId) (late : Bool) (s0 : State) : State :=
  let s := s0.dropStale l
  match (s.law l).held with
  | [] => if (s.law l).outputDue then s.outputLate l else s
  | h :: _ =>
    let s1 := s.reach (h.at_ / 8)
    if late then s1.outputLate l
    else (((s1.showOut l h).pendDuties l).refreshLimits l).mirrorAt l

/-- APPLY_INSTANT (R73). -/
def execApplyInstant (l : LawId) (late : Bool) (s : State) : Host.Outcome State Fault Refusal := whenLive s (doApply l late)

/-! ### Set-point sources and following error (R95 to R97) -/

/-- SP_SOURCE_LOST: raised once when the invalid time has reached `SP_TIMEOUT`; for a source that a commit replaces in the run in which this
happens it is recorded, and its fallback is not applied (R96). -/
def doSpLost (l : LawId) (s : State) : State :=
  if !formExt (lawForm l) then s
  else
    match (s.law l).spOld with
    | some x => (s.modLaw l (fun y => { y with spOld := none })).raiseLaw evSpSourceLost l 0xFF x.1 x.2
    | none =>
      if decide (s.parN (lawId l 0xE0) ≠ 0) && !(s.law l).spLost && F.le (s.lawP l 0xE8) (s.rw l rwSpBad) then
        (s.modLaw l (fun x => { x with spLost := true })).raiseLaw evSpSourceLost l 0xFF (s.rw l rwSpBad) (s.lawP l 0xE8)
      else s
def execSpSourceLost (l : LawId) (s : State) : Host.Outcome State Fault Refusal := whenLive s (doSpLost l)

/-- SP_SOURCE_BACK: a lost input has been valid for `SP_TIMEOUT`. -/
def doSpBack (l : LawId) (s : State) : State :=
  if (s.law l).spLost && F.le (s.lawP l 0xE8) (s.rw l rwSpGood) then
    (s.modLaw l (fun x => { x with spLost := false })).raiseLaw evSpSourceBack l 0xFF (s.rw l rwSpGood) (s.lawP l 0xE8)
  else s
def execSpSourceBack (l : LawId) (s : State) : Host.Outcome State Fault Refusal := whenLive s (doSpBack l)

/-- The reaction that `FE_REACT` chooses (R93). -/
def State.feClass (s : State) (l : LawId) : RClass := if s.parN (lawId l 0xEC) = 2 then .regionSafe else .note

/-- The following-error condition of R97 holds: the timer has reached `FE_TIME` with the flag armed. -/
def State.feDue (s : State) (l : LawId) : Bool :=
  formFe (lawForm l) && decide (s.parN (lawId l 0xEC) ≠ 0) && F.eq (s.rw l rwFeArmed) F.one && F.le (s.lawP l 0xEB) (s.rw l rwFeTimer)

/-- FOLLOW_ERR: recorded once, with the reaction chosen; an actuator with `FE_TO_FREE` = 1 goes to FREE at its next period start (R297). -/
def doFollowErr (l : LawId) (s : State) : State :=
  if !s.feDue l then s
  else
    let cls := s.feClass l
    let s1 := (s.setRw l rwFeArmed F.zero).raiseCls evFollowErr cls (regCode (lawReg l)) (lawClu l) 0xFF (s.rw l rwFeErr)
      (wd (clsRank cls)) 0
    let s2 := if decide (lawForm l = .position) && s.parOn (lawId l 0x2B) then s1.modAct (lawAct l) (fun x => { x with freeDue := true })
      else s1
    if cls = .regionSafe then s2.safeBy (lawReg l) evFollowErr else s2
def execFollowErr (l : LawId) (s : State) : Host.Outcome State Fault Refusal := whenLive s (doFollowErr l)

end Sys2Proof.Machine
end

