-- ==== Sys2Proof/Machine/Rings.lean ====
section
/-! DEFINITION. Writing device-to-host rings (R348 to R351, R358, R359). -/

namespace Sys2Proof.Machine

/-- The device may write records of a ring: it masters the bus and the ring is in use (R334, R363). -/
def State.ringOpen (s : State) (n : RingId) : Bool := s.mastering && ringEnabled s n

/-- Write entries whole; the device index moves past them (R351). -/
def State.pushEntries (s : State) (n : RingId) (es : List Entry) : State :=
  s.modRing n (fun r => { r with recs := r.recs ++ es, devIdx := r.devIdx + BitVec.ofNat 16 es.length, moved := true })

/-- A record of ring 2, 13, 14 or 15: discarded with RING_DROP once per tide per ring where no entry is free (R359). -/
def State.writeRec (s : State) (n : RingId) (e : Entry) : State :=
  if !s.ringOpen n then s
  else if ringFree s n = 0 then
    let s1 := s.modRing n (fun r => { r with dropped := true })
    if (s.ring n).dropped then s1 else s1.raiseHst evRingDrop 0 0 0
  else s.pushEntries n [e]

/-- The bytes of a host-to-device entry that its header gives (R349). -/
def hdrFields (typ : Nat) (h : RecHdr) : List (Nat × Nat × Nat) :=
  [(0, 1, typ), (1, 1, h.flags.toNat), (2, 2, h.tag.toNat), (4, 4, h.atTide.toNat)]

def hdrOf (e : Entry) : RecHdr := ⟨byteAt e 1, halfAt e 2, wordAt e 4⟩

def hdrAt (h : RecHdr) : Bool := h.flags.getLsbD 0
def hdrNote (h : RecHdr) : Bool := h.flags.getLsbD 1

/-- What became of a record, for its trace record (R359). -/
inductive TraceKind
  | applied | refused | commit
deriving DecidableEq, Repr

def traceCode : TraceKind → Nat
  | .applied => 0 | .refused => 1 | .commit => 2

/-- The trace record of an entry (R359). -/
def traceEntry (s : State) (k : TraceKind) (e : Entry) : Entry :=
  packEntry [(0, 1, 0x83), (1, 1, traceCode k), (2, 2, (halfAt e 2).toNat), (4, 4, s.tim.tideIndex.toNat),
    (8, 8, s.tim.devTime.toNat), (16, 4, s.txn.epoch.toNat), (20, 4, (wordAt e 8).toNat), (24, 4, (wordAt e 12).toNat),
    (28, 4, (wordAt e 16).toNat)]

/-- Write it while `HST.CTRL.TRACE_EN` is set. -/
def State.trace (s : State) (k : TraceKind) (e : Entry) : State :=
  if s.cfgBit 0x2000 1 then s.writeRec 14 (traceEntry s k e) else s

/-- The end of a record that was applied: its trace record, and CMD_APPLIED where it asked for it (R349, R359). -/
def State.applied (s : State) (e : Entry) : State :=
  let s1 := if hdrNote (hdrOf e) then s.raiseHst evCmdApplied 0 0 (hdrOf e).tag else s
  s1.trace .applied e

/-- The end of a record that was refused with an event of its own. -/
def State.refusedRec (s : State) (e : Entry) : State := s.trace .refused e

/-- A record refused with CMD_REFUSED (R355). -/
def State.cmdRefused (s : State) (e : Entry) : State := (s.raiseHst evCmdRefused 0 0 (hdrOf e).tag).trace .refused e

end Sys2Proof.Machine
end

