-- ==== Sys2Proof/Machine/Check.lean ====
section
/-! DEFINITION. Check-value units (R430 to R433): context, host feeds, append and check of CAN frames. -/

namespace Sys2Proof.Machine

def State.chkUse (s : State) (n : ChkId) : Nat := s.parN (chkParId n 0)
def State.chkAlg (s : State) (n : ChkId) : CrcAlg := crcAlg (s.parN (chkParId n 1))
def State.chkAlive (s : State) (n : ChkId) : Nat := s.parN (chkParId n 2)
def State.chkTail (s : State) (n : ChkId) : Bool := s.parOn (chkParId n 3)

/-- Units 6 and 7 serve the hawser link while `PAIR_EN` = 1 (R430). -/
def State.chkPair (s : State) (n : ChkId) : Bool := decide (6 ≤ n.val) && s.parOn (hawId 0)

/-- The controller whose use a unit serves, for 1 + c and 4 + c of `CHK_USE` (R430). -/
def useCan (u : Nat) : Option CanId :=
  if 1 ≤ u ∧ u ≤ 3 then some (Fin.ofNat 3 (u - 1)) else if 4 ≤ u ∧ u ≤ 6 then some (Fin.ofNat 3 (u - 4)) else none

/-- Writes and feeds are accepted in host use, or in a CAN use of a controller that is off the bus, and not in ISOLATE (R433,
R29). -/
def State.chkOpen (s : State) (n : ChkId) : Bool :=
  !s.chkIso && !s.chkPair n &&
  (match useCan (s.chkUse n) with
   | none => true
   | some c => !s.parOn (canParId c 0))

/-- A refused write of the HST region (R364, R433): the register stays as it was, and the event names no quantity (R444). -/
def State.setupRefused (s : State) : State := s.raiseHst evSetupWriteRefused 0 0 0

/-- The initial running value of an algorithm (R430). -/
def algInit (a : CrcAlg) : Word := BitVec.ofNat 32 a.init

/-- Feed bytes in order, and count them (R433). -/
def State.chkFeed (s : State) (n : ChkId) (xs : List Byte) : State :=
  let a := s.chkAlg n
  s.modChk n (fun c => { c with
    value := BitVec.ofNat 32 (xs.foldl (crcFeed a) (c.value.toNat % 2 ^ a.width)), length := c.length + BitVec.ofNat 32 xs.length })

def doChkFeed (n : ChkId) (xs : List Byte) (s : State) : State := if s.chkOpen n then s.chkFeed n xs else s.setupRefused

/-- BAR0 offset of a register of a unit (R436). -/
def chkOfs (n : ChkId) (k : Nat) : Nat := 0xA800 + 0x20 * n.val + k

/-- `CHKn.FEED_B`, `FEED_H`, `FEED_W`, least significant byte first. -/
def doFeedB (n : ChkId) (v : Word) (s : State) : State := doChkFeed n (bytesOf 1 v) s
def doFeedH (n : ChkId) (v : Word) (s : State) : State := doChkFeed n (bytesOf 2 v) s
def doFeedW (n : ChkId) (v : Word) (s : State) : State := doChkFeed n (bytesOf 4 v) s

/-- Load the initial value and clear the length (R433); the next frame sets the reference anew (R432; DEDUCED, log 54). -/
def State.chkRestart (s : State) (n : ChkId) : State :=
  s.modChk n (fun c => { c with value := algInit (s.chkAlg n), length := 0, ref := false })

/-- `CHKn.CTRL`: a 1 in bit 0 restarts the unit. -/
def doChkRestart (n : ChkId) (v : Word) (s : State) : State :=
  if s.chkOpen n then (if v.getLsbD 0 then s.chkRestart n else s) else s.setupRefused

/-- A write of the context (R433). -/
def doChkContext (n : ChkId) (r : ChkReg) (v : Word) (s : State) : State :=
  if s.chkOpen n then
    s.modChk n (fun c => match r with
      | .value => { c with value := v }
      | .alive => { c with alive := v.extractLsb' 0 8 }
      | .length => { c with length := v })
  else s.setupRefused

/-- A start of a unit: the initial value, no length, alive counter at zero, no reference (R433). -/
def State.chkFresh (s : State) (n : ChkId) : State :=
  s.modChk n (fun _ => { value := algInit (s.chkAlg n) })

/-! ### CAN payloads (R431, R432) -/

/-- Bytes of the check value, most significant first. -/
def crcBytes (a : CrcAlg) (v : Nat) : List Byte := (bytesOf (a.width / 8) (BitVec.ofNat 32 v)).reverse

/-- The number of appended bytes k = w/8 + a. -/
def State.chkExtra (s : State) (n : ChkId) : Nat := (s.chkAlg n).width / 8 + bit (decide (s.chkAlive n ≠ 0))

/-- The counter byte, where the unit has a counter. -/
def State.aliveBytes (s : State) (n : ChkId) (v : Byte) : List Byte :=
  if s.chkAlive n = 0 then [] else if s.chkAlive n = 4 then [BitVec.ofNat 8 (v.toNat % 16)] else [v]

/-- Advance a counter modulo 2^`CHK_ALIVE`. -/
def State.aliveNext (s : State) (n : ChkId) (v : Byte) : Byte :=
  if s.chkAlive n = 0 then v else BitVec.ofNat 8 ((v.toNat + 1) % 2 ^ s.chkAlive n)

/-- Append to a supplied payload, and the unit after it (R431). -/
def State.append (s : State) (n : ChkId) (xs : List Byte) : List Byte × State :=
  let a := s.chkAlg n
  let cnt := s.aliveBytes n (s.chk n).alive
  let body := if s.chkTail n then xs ++ cnt else cnt ++ xs
  let run := body.foldl (crcFeed a) a.init
  let crc := crcBytes a (crcFinish a run)
  (if s.chkTail n then body ++ crc else crc ++ body,
   s.modChk n (fun c => { c with
     value := BitVec.ofNat 32 run, length := BitVec.ofNat 32 body.length, alive := s.aliveNext n c.alive }))

/-- A checked reception: the payload delivered, its counter, the CHECK code, and the unit after it (R432). -/
structure ChkOut where
  data  : List Byte
  alive : Byte
  code  : Nat
  state : State

/-- Check a received payload: length and check value first, then the counter. -/
def State.checkFrame (s : State) (n : ChkId) (xs : List Byte) : ChkOut :=
  let a := s.chkAlg n
  let w := a.width / 8
  let k := s.chkExtra n
  let al := decide (s.chkAlive n ≠ 0)
  let m := xs.length
  let body := if s.chkTail n then xs.take (m - w) else xs.drop w
  let got := if s.chkTail n then xs.drop (m - w) else xs.take w
  let run := body.foldl (crcFeed a) a.init
  let s1 := s.modChk n (fun c => { c with value := BitVec.ofNat 32 run, length := BitVec.ofNat 32 body.length })
  if m < k || got ≠ crcBytes a (crcFinish a run) then
    let s2 := s1.modChk n (fun c => { c with failTold := true })
    ⟨xs, 0, 2, if (s.chk n).failTold then s2 else s2.raise evChkCheckFail 1 4 n.val 0 0⟩
  else
    let data := if al then (if s.chkTail n then body.take (body.length - 1) else body.drop 1) else body
    let raw : Byte := if al then (if s.chkTail n then body.getD (body.length - 1) 0 else body.getD 0 0) else 0
    let cnt : Byte := BitVec.ofNat 8 (raw.toNat % 2 ^ s.chkAlive n)
    let s2 := if al then s1.modChk n (fun c => { c with ref := true, alive := s.aliveNext n cnt }) else s1
    if al && (s.chk n).ref && cnt ≠ (s.chk n).alive then
      let s3 := s2.modChk n (fun c => { c with aliveTold := true })
      ⟨data, cnt, 3,
        if (s.chk n).aliveTold then s3
        else s3.raise evChkAliveErr 1 4 n.val (F.ofNat cnt.toNat) (F.ofNat (s.chk n).alive.toNat)⟩
    else ⟨data, cnt, 1, s2⟩

end Sys2Proof.Machine
end

