-- ==== Sys2Proof/Machine/Can.lean ====
section
/-! DEFINITION. The CAN controllers (R416 to R429, R437). Error counters follow ISO 11898-1, which R416 names (PRESUMED, log 9). -/

namespace Sys2Proof.Machine

/-- On the bus: error active or error passive, and not isolated. -/
def State.canOn (s : State) (c : CanId) : Bool :=
  !(s.can c).isolated && decide ((s.can c).st = .active ∨ (s.can c).st = .passive)

def State.canPar (s : State) (c : CanId) (w : Nat) : Nat := s.parN (canParId c w)

/-- An event of a controller (R437): HST cluster c + 1, `UNIT` the controller where R445 says so. -/
def State.raiseCan (s : State) (ev : Cause) (c : CanId) (unit : Nat) (d0 d1 : Word) (tag : Half) : State :=
  s.raiseCls ev ev.cls 1 (c.val + 1) unit d0 d1 tag

/-- Payload bytes of a DLC. -/
def dlcLen (fdf : Bool) (dlc : Nat) : Nat :=
  if dlc ≤ 8 then dlc else if fdf then [12, 16, 20, 24, 32, 48, 64].getD (dlc - 9) 64 else 8

/-- A frame length that its format has (R421). -/
def lenValid (fdf : Bool) (n : Nat) : Bool := decide (n ≤ 8) || (fdf && [12, 16, 20, 24, 32, 48, 64].contains n)

/-- Continuation entries of a payload (R420, R427). -/
def contCount (n : Nat) : Nat := if n ≤ 16 then 0 else (n - 16 + 23) / 24

/-! ### Transmit -/

/-- A free buffer: the next one in the cyclic order with `TX_ORDER` = 1, else the lowest that is free (R423). -/
def State.freeBuf (s : State) (c : CanId) : Option (Fin 3) :=
  let x := s.can c
  if s.canPar c 0x0C = 1 then
    let b : Fin 3 := Fin.ofNat 3 x.next
    if x.bufs[b].isNone then some b else none
  else ([0, 1, 2] : List (Fin 3)).find? (fun b => x.bufs[b].isNone)

/-- Load the frame at the queue head into a free buffer, with its append; one that needs an isolated check cluster is dropped
with cause 4 (R422 to R424, R431). -/
def doCanTxLoad (c : CanId) (s : State) : State :=
  if !s.canOn c then s
  else
    match (s.can c).queue, s.freeBuf c with
    | f :: rest, some b =>
      let s1 := s.modCan c (fun x => { x with queue := rest })
      if f.chk ≠ 0xFF ∧ s.chkIso then s1.raiseCan evCanTxFailed c c.val 4 0 f.tag
      else
        let r := if f.chk = 0xFF then (f.data, s1) else s1.append (Fin.ofNat 8 f.chk.toNat) f.data
        r.2.modCan c (fun x => { x with
          bufs := x.bufs.set b (some { f with data := r.1, order := x.order }), order := x.order + 1, next := (b.val + 1) % 3 })
    | _, _ => s

/-- CAN_TX_LOAD (R422). -/
def execCanTxLoad (c : CanId) (s : State) : Host.Outcome State Fault Refusal := whenLive s (doCanTxLoad c)

/-- The dominance of a frame in arbitration, smaller first: base identifier, RTR or SRR with IDE, extension, RTR (R423). -/
def arbKey (f : TxFrame) : Nat :=
  let id := f.ident.toNat % 2 ^ 29
  let rtr := bit (f.ident.getLsbD 30)
  if f.ident.getLsbD 29 then (id / 2 ^ 18) * 2 ^ 21 + 3 * 2 ^ 19 + (id % 2 ^ 18) * 2 + rtr
  else (id % 2 ^ 11) * 2 ^ 21 + rtr * 2 ^ 20

/-- The buffer offered to the bus (R423). -/
def State.offered (s : State) (c : CanId) : Option (Fin 3) :=
  let x := s.can c
  let full := ([0, 1, 2] : List (Fin 3)).filterMap (fun b => (x.bufs[b]).map (fun f => (b, f)))
  let before := fun (p q : Fin 3 × TxFrame) =>
    if s.canPar c 0x0C = 1 then decide (p.2.order < q.2.order)
    else decide (arbKey p.2 < arbKey q.2) || (decide (arbKey p.2 = arbKey q.2) && decide (p.2.order < q.2.order))
  (full.foldl (fun acc p => match acc with | none => some p | some q => if before p q then some p else some q) none).map (·.1)

/-- Error counters below 128 again make a passive controller active (ISO 11898-1). -/
def Can.settle (x : Can) : Can :=
  if x.st = .passive ∧ x.txErr.toNat < 128 ∧ x.rxErr.toNat < 128 then { x with st := .active } else x

/-- The DLC of a frame length (R421): the least code that carries it. -/
def dlcOf (n : Nat) : BitVec 4 := if n ≤ 8 then BitVec.ofNat 4 n else BitVec.ofNat 4 (9 + [12, 16, 20, 24, 32, 48, 64].idxOf n)

/-- A transmit buffer's frame on the bus (R421): a remote frame carries its DLC and no data; an error passive sender sets ESI in CAN FD. -/
def TxFrame.onBus (f : TxFrame) (passive : Bool) : CanFrame :=
  let rtr := f.ident.getLsbD 30
  { ident := (f.ident &&& 0x7FFFFFFF) ||| (if f.fdf && passive then 0x80000000 else 0), fdf := f.fdf, brs := f.brs,
    dlc := dlcOf f.data.length, data := if rtr then [] else f.data }

/-- A frame completes: its buffer is free, the transmit error counter falls, CAN_TX_DONE where asked (R424, R429, R437). -/
def doFrameSent (c : CanId) (b : Fin 3) (stamp : Word) (s : State) : State :=
  match s.canOn c, (s.can c).bufs[b] with
  | true, some f =>
    let s1 := s.modCan c (fun x => Can.settle { x with
      bufs := x.bufs.set b none, sent := some (f.onBus (decide (x.st = .passive))), txErr := if x.txErr = 0 then 0 else x.txErr - 1, lec := 0 })
    if f.note then s1.raiseCan evCanTxDone c c.val stamp 0 f.tag else s1
  | _, _ => s

/-- FRAME_SENT (R424). -/
def execFrameSent (c : CanId) (b : Fin 3) (stamp : Word) (s : State) : Host.Outcome State Fault Refusal :=
  whenLive s (doFrameSent c b stamp)

/-- Drop a buffer's frame with a cause of R424. -/
def State.dropFrame (s : State) (c : CanId) (b : Fin 3) (f : TxFrame) (why : Word) : State :=
  (s.modCan c (fun x => { x with bufs := x.bufs.set b none })).raiseCan evCanTxFailed c c.val why 0 f.tag

/-- An attempt fails: lost arbitration ends a frame only in single-shot mode; an error counts, and ends it after `RETRY_LIMIT`
retransmissions, or with cause 3 where the error takes the controller to bus-off (R424). -/
def doTxAttemptFailed (c : CanId) (b : Fin 3) (how : TxFail) (s : State) : State :=
  match s.canOn c, (s.can c).bufs[b] with
  | true, some f =>
    let limit := s.canPar c 0x0D
    match how with
    | .arbitration =>
      let s1 := s.modCan c (fun x => { x with arbLost := satInc x.arbLost })
      if limit = 0 then s1.dropFrame c b f 2 else s1
    | .error lec =>
      let off := decide (256 ≤ (s.can c).txErr.toNat + 8)
      let s1 := s.modCan c (fun x => { x with
        lec := lec, errFrames := satInc x.errFrames, txErr := BitVec.ofNat 8 (min 255 (x.txErr.toNat + 8))})
      if off then s1.dropFrame c b f 3
      else if limit ≤ f.tries then s1.dropFrame c b f 1
      else s1.modCan c (fun x => { x with bufs := x.bufs.set b (some { f with tries := f.tries + 1 }) })
  | _, _ => s

/-- TX_ATTEMPT_FAILED (R424). -/
def execTxAttemptFailed (c : CanId) (b : Fin 3) (how : TxFail) (s : State) : Host.Outcome State Fault Refusal :=
  whenLive s (doTxAttemptFailed c b how)

/-! ### Receive -/

/-- Filter f matches (R426). -/
def State.fltMatch (s : State) (c : CanId) (ident : Word) (f : Nat) : Bool :=
  let id := s.par (canParId c (0x21 + 4 * f))
  let mask := s.par (canParId c (0x22 + 4 * f))
  let ctrl := s.canPar c (0x23 + 4 * f)
  s.parOn (canParId c (0x20 + 4 * f)) && decide (((ident ^^^ id) &&& mask) &&& 0x1FFFFFFF = 0) &&
  (ident.getLsbD 29 == ctrl.testBit 0)

/-- The lowest-numbered filter that matches. -/
def State.fltFind (s : State) (c : CanId) (ident : Word) : Option Nat := (List.range 32).find? (s.fltMatch c ident)

/-- The ring of a receive queue (R348). -/
def rxRing (c : CanId) (q : Nat) : RingId := Fin.ofNat 16 (5 + 3 * c.val + q)

/-- The entries of a received frame (R427). -/
def rxEntries (flags flt alive : Nat) (stamp : Word) (f : CanFrame) (data : List Byte) (code : Nat) : List Entry :=
  let put := fun (pos : Nat) (xs : List Byte) => (List.range xs.length).map (fun i => (pos + i, 1, (xs.getD i 0).toNat))
  packEntry ([(0, 1, 0x90), (1, 1, flags), (2, 1, flt), (3, 1, alive), (4, 4, stamp.toNat), (8, 4, f.ident.toNat),
      (12, 1, f.dlc.toNat), (13, 1, data.length), (14, 1, bit f.fdf + 2 * bit f.brs), (15, 1, code)] ++ put 16 (data.take 16)) ::
    (List.range (contCount data.length)).map (fun j =>
      packEntry ((0, 1, 0x91) :: put 8 ((data.drop (16 + 24 * j)).take 24)))

/-- Frames of a queue were lost before the next one. -/
def Can.lostQ (x : Can) (q : Nat) : Bool := if q = 0 then x.lost0 else x.lost1
def Can.toldQ (x : Can) (q : Nat) : Bool := if q = 0 then x.told0 else x.told1

/-- Write a received frame whole or lose it (R428). -/
def State.rxWrite (s : State) (c : CanId) (q : Nat) (flt alive : Nat) (stamp : Word) (f : CanFrame) (data : List Byte)
    (code : Nat) : State :=
  let es := rxEntries (bit ((s.can c).lostQ q)) flt alive stamp f data code
  let n := rxRing c q
  if s.ringOpen n && decide (es.length ≤ ringFree s n) then
    (s.pushEntries n es).modCan c (fun x => if q = 0 then { x with lost0 := false } else { x with lost1 := false })
  else
    let s1 := s.modCan c (fun x =>
      let y := { x with rxLost := satInc x.rxLost }
      if q = 0 then { y with lost0 := true, told0 := true } else { y with lost1 := true, told1 := true })
    if (s.can c).toldQ q then s1 else s1.raiseCan evCanRxLost c 0xFF 0 0 0

/-- The receive error counter after a good frame: above 127 it returns to a value from 119 to 127 that ISO 11898-1 leaves open. -/
def recAfter (r : Byte) (free : Word) : Byte :=
  if r = 0 then 0 else if r.toNat ≤ 127 then r - 1 else BitVec.ofNat 8 (119 + free.toNat % 9)

/-- A frame is received: filtered, checked and written (R426 to R428, R432). A frame with FDF set while `FD_EN` = 0 is not received
(R418). -/
def doCanFrameReceived (c : CanId) (f : CanFrame) (stamp : Word) (s : State) : State :=
  if !s.canOn c || (f.fdf && s.canPar c 1 = 0) then s
  else
    let r := s.draw
    let s1 := r.2.modCan c (fun x => Can.settle { x with rxErr := recAfter x.rxErr r.1, lec := 0 })
    match s.fltFind c f.ident with
    | none => s1.modCan c (fun x => { x with unmatched := satInc x.unmatched })
    | some k =>
      let ctrl := s.canPar c (0x23 + 4 * k)
      let q := ctrl / 2 % 2
      let data := if f.ident.getLsbD 30 then [] else f.data.take (dlcLen f.fdf f.dlc.toNat)
      if ctrl / 4 = 0 then s1.rxWrite c q k 0 stamp f data 0
      else if s1.chkIso then s1.rxWrite c q k 0 stamp f data 4
      else
        let o := s1.checkFrame (Fin.ofNat 8 (ctrl / 4 - 1)) data
        o.state.rxWrite c q k o.alive.toNat stamp f o.data o.code

/-- CAN_FRAME_RECEIVED (R426). -/
def execCanFrameReceived (c : CanId) (f : CanFrame) (stamp : Word) (s : State) : Host.Outcome State Fault Refusal :=
  whenLive s (doCanFrameReceived c f stamp)

/-- The protocol exception of a classical controller, told once per tide (R418). -/
def doFdfReceived (c : CanId) (s : State) : State :=
  if s.canOn c && decide (s.canPar c 1 = 0) && !(s.can c).excTold then
    (s.modCan c (fun x => { x with excTold := true })).raiseCan evCanProtocolExc c 0xFF 0 0 0
  else s

/-- FDF_RECEIVED (R418). -/
def execFdfReceived (c : CanId) (s : State) : Host.Outcome State Fault Refusal := whenLive s (doFdfReceived c)

/-! ### Error states (R416, R425, R437) -/

/-- The transmit ring of a controller (R348). -/
def txRing (c : CanId) : RingId := Fin.ofNat 16 (4 + 3 * c.val)

/-- Empty buffers and queue. What has been read of the ring and has not entered the queue is read again later: the device index has not
passed it (R351). -/
def State.canEmpty (s : State) (c : CanId) : State :=
  (s.modCan c (fun x => { x with bufs := Vector.replicate 3 none, queue := [], due := [], part := [], next := 0 })).modHost (fun h => { h with
    reads := h.reads.filter (fun r => decide (r.1 ≠ txRing c)), toRead := h.toRead.filter (fun r => decide (r.1 ≠ txRing c)) })

/-- Bus-off: buffers and queue are emptied, and the frames discarded counted (R425). -/
def doCanBusOff (c : CanId) (s : State) : State :=
  if s.canOn c then
    let x := s.can c
    let n := (x.bufs.toList.filter Option.isSome).length + x.queue.length
    ((s.canEmpty c).modCan c (fun x => { x with st := .busOff, recovering := false })).raiseCan evCanBusOff c c.val 0 (wd n) 0
  else s

/-- CAN_BUS_OFF (R425). -/
def execCanBusOff (c : CanId) (s : State) : Host.Outcome State Fault Refusal := whenLive s (doCanBusOff c)

/-- Recovery ends: error active with both counters at zero (R425). -/
def doCanRecovered (c : CanId) (s : State) : State :=
  if (s.can c).st = .busOff ∧ (s.can c).recovering then
    (s.modCan c (fun x => { x with st := .active, recovering := false, txErr := 0, rxErr := 0 })).raiseCan evCanRecovered c 0xFF 0 0 0
  else s

/-- CAN_RECOVERED (R425). -/
def execCanRecovered (c : CanId) (s : State) : Host.Outcome State Fault Refusal := whenLive s (doCanRecovered c)

/-- Error active to error passive (R416). -/
def doCanErrPassive (c : CanId) (s : State) : State :=
  if s.canOn c && decide ((s.can c).st = .active) then
    (s.modCan c (fun x => { x with st := .passive })).raiseCan evCanErrPassive c 0xFF 0 0 0
  else s

/-- CAN_ERR_PASSIVE (R416). -/
def execCanErrPassive (c : CanId) (s : State) : Host.Outcome State Fault Refusal := whenLive s (doCanErrPassive c)

/-- An error detected while receiving (R416). -/
def doErrorFrame (c : CanId) (lec : BitVec 3) (s : State) : State :=
  if s.canOn c then
    s.modCan c (fun x => { x with
      lec := lec, errFrames := satInc x.errFrames, rxErr := if x.rxErr = 255 then 255 else x.rxErr + 1})
  else s

/-- ERROR_FRAME (R416). -/
def execErrorFrame (c : CanId) (lec : BitVec 3) (s : State) : Host.Outcome State Fault Refusal := whenLive s (doErrorFrame c lec)

/-- CAN_FAULT: the controller enters ISOLATE, its output recessive, nothing sent or received (R29, R437). -/
def doCanFault (c : CanId) (s : State) : State :=
  (s.modCan c (fun x => { x with isolated := true, st := .off, recovering := false })).raiseCan evCanFault c 0xFF 0 0 0

/-- CAN_FAULT (R437). -/
def execCanFault (c : CanId) (s : State) : Host.Outcome State Fault Refusal := whenLive s (doCanFault c)

/-- Join or leave the bus as `CAN_EN` says (R434): joining starts error active with cleared counters. -/
def State.canStart (s : State) (c : CanId) : State :=
  (s.canEmpty c).modCan c (fun x => { x with
    isolated := false, recovering := false, txErr := 0, rxErr := 0, lec := 0,
    st := if s.parOn (canParId c 0) then .active else .off})

/-- The record of a CAN_RECOVER (R425): whether it is accepted, and the state after it. -/
def State.canRecover (s : State) (c : CanId) : Option State :=
  if (s.can c).st = .busOff ∧ !(s.can c).recovering then some (s.modCan c (fun x => { x with recovering := true })) else none

/-- The end of a tide: what is told once per tide may be told again, and the counter is captured (R418, R428, R429, R432). -/
def State.canTide (s : State) : State :=
  let s1 := each ([0, 1, 2] : List CanId) (fun s c => s.modCan c (fun x => { x with
    tsTide := x.tsNow, told0 := false, told1 := false, excTold := false})) s
  each ([0, 1, 2, 3, 4, 5, 6, 7] : List ChkId) (fun s n => s.modChk n (fun x => { x with failTold := false, aliveTold := false })) s1

end Sys2Proof.Machine
end

