-- ==== Sys2Proof/Machine/ChModes.lean ====
section
/-! DEFINITION. The charger modes and their moves, sessions, pilot and cable, lamps (R268 to R276, R281 to R284, R286, R287). -/

namespace Sys2Proof.Machine

/-! ### Outputs and entry (R269) -/

/-- A mode in which the AC inlet feeds the charger bus. -/
def acMode : ChMode → Bool
  | .acIn => true | .pass => true | .off => false | .peerIn => false | .peerOut => false

/-- A mode that charges the battery. -/
def chargeMode : ChMode → Bool
  | .acIn => true | .pass => true | .peerIn => true | .off => false | .peerOut => false

/-- The outputs of the seven bridges: the PFC legs in PWM while the source is valid and the cascade does not hold them, leg 3 OFF with a
single phase (R269, R271, R275, R258). -/
def State.chgOutputs (s : State) : State :=
  let pfc := acMode s.chg.mode && s.chg.srcOk && !s.span.pfcHold
  let put := fun (on : BridgeId → Bool) (s : State) (b : BridgeId) =>
    let o : OutSel := if on b then .pwm else .off
    if (s.brg b).sel = o then s else s.select o b
  each dabBridges (put (fun _ => decide (s.chg.mode ≠ .off)))
    (each pfcBridges (put (fun b => pfc && !(decide (b = .pf3) && decide (s.chg.phases = 1)))) s)

/-- Enter a mode other than OFF. -/
def State.chgEnter (s : State) (m : ChMode) : State :=
  let fresh := decide (s.chg.mode = .off)
  let s1 := s.modChg (fun c => { c with
    mode := m, enterAt := s.tim.devTime, peerFault := false, peerBad := 0, peerOver := 0, raised := false, absRuns := 0
    srcLost := if fresh then !c.srcOk else c.srcLost, startDue := fresh && chargeMode m })
  (((s1.setRun 8 (if acMode m then .running else .tracking)).setRun 9 .running).setRun 10 .running).chgOutputs

/-! ### The period start (R271, R276, R281) -/

/-- A session starts. -/
def State.startSession (s : State) : State :=
  (s.modChg (fun c => { c with
    session := .cc, timer := secTicks (s.comP .chg 0x0E), timerAt := s.tim.devTime, startTide := s.tim.tideIndex, ccRuns := 0, cvRuns := 0, termT := 0
    startDue := false })).raiseReg evSessionStart .chg 0 0

/-- A bridge of CHG in ISOLATE takes the region to REGION-SAFE. -/
def State.chgLost (s : State) : State :=
  if (regBridges .chg).any s.isIso && !s.isSafe .chg && !s.power.devSafe then
    (s.raiseReg evChgBridgeLost .chg 0 0).safeBy .chg evChgBridgeLost
  else s

/-- The triggers of R271 that move the region or its legs. -/
def State.chgTriggers (s : State) : State :=
  let s0 := s.chgLost
  if s0.isSafe .chg || s0.power.devSafe then s0
  else
    let lost := acMode s0.chg.mode && !s0.chg.srcOk
    let s1 := if lost && !s0.chg.srcLost then s0.raiseReg evSourceLost .chg s0.acMin 0 else s0
    let s2 := s1.modChg (fun c => { c with srcLost := lost })
    if s2.chg.peerFault && decide (s2.chg.mode ≠ .off) then s2.chgGoOff .fault else s2

/-- I_src falls at once and rises at `I_IN_SLEW`. -/
def State.stepSource (s : State) : State :=
  if s.chg.srcOk then
    s.modChg (fun c => { c with
      iSrc := if F.lt s.acMin c.iSrc then s.acMin else F.slew c.iSrc s.acMin (F.mul (s.comP .chg 0x05) (s.tSec .chg)) })
  else s

/-- The charger region at its period start. -/
def State.chgPeriod (s : State) : State :=
  let s1 := s.chgTriggers.stepSource
  let hold := (s1.span.pfcDue || (s1.win 12).hi.out || s1.span.pfcHold) && !F.lt (s1.chan 12).val (s1.lawP 7 0x21)
  let s2 := s1.modSpan (fun p => { p with pfcDue := false, pfcHold := hold })
  if s2.isSafe .chg || s2.power.devSafe then s2.chgLaws
  else
    let s3 := if s2.chg.startDue then s2.startSession else s2
    let s4 := if s3.chg.mode = .off then s3.chgLaws else s3
    s4.chgOutputs

/-! ### Commands (R270, R281) -/

def chgModeOf : Nat → Option ChMode
  | 0 => some .off | 1 => some .acIn | 2 => some .peerIn | 3 => some .peerOut | 4 => some .pass | _ => none

/-- The peer port is open: below 60 V with the bus at least 60 V above it (R268). -/
def State.peerOpen (s : State) : Bool :=
  F.lt s.chg.vPeer (F.ofNat 60) && F.le (F.add s.chg.vPeer (F.ofNat 60)) s.chg.vBus

/-- The cases of R270 beyond REGION-SAFE. -/
def State.chgRule (s : State) (m : ChMode) : Bool :=
  let c := s.chg
  if m = .off then false
  else
    !((regBridges .chg).all s.isArmed) ||
    (decide (c.mode ≠ .off) && decide (c.mode ≠ m) && !(acMode c.mode && acMode m)) ||
    (decide (m = .acIn) && !s.peerOpen) ||
    ((decide (m = .peerIn) || decide (m = .pass)) && !c.peerConn) ||
    (decide (m = .peerOut) && F.lt (s.comP .chg 0x0A) c.vPeer) || c.batAbsent

/-- A halted region or a halted engine or bridge that the command needs (rank 6 of R453). -/
def State.chgDebug (s : State) (m : ChMode) : Bool :=
  s.regHalt .chg || decide (m ≠ .off) && ((regBridges .chg).any (fun b => decide ((s.brg b).arm = .halted)) ||
    (decide (s.chg.mode = .off) && (regLaws .chg).any (fun l => (s.law l).halted)))

/-- The rank that refuses a charger mode command, 0 for none. -/
def State.chgRefusal (s : State) (m : ChMode) : Nat :=
  firstRank [s.safeRank .chg, rank 6 (s.chgDebug m), rank 12 (s.testHolds .chg), rank 10 (s.chgRule m),
    rank 11 (decide (m ≠ .off) && decide (s.span.mode = .discharge))]

/-- An accepted command: a repeated one restarts an ended session. -/
def State.chgMove (s : State) (m : ChMode) : State :=
  if m = .off then (s.chgGoOff .host).modChg (fun c => { c with wasOff := true })
  else if m = s.chg.mode then
    let ended := match s.chg.session with | .done => true | .ended => true | .none => false | .cc => false | .cv => false
    s.modChg (fun c => { c with peerFault := false, startDue := c.startDue || (ended && chargeMode m) })
  else s.chgEnter m

/-- SET_MODE of the charger region; a trigger of R271 that falls on the same period start comes first. -/
def State.chgCommand (s0 : State) (m : ChMode) (tag : Half) : State :=
  let s := s0.chgTriggers
  let k := s.chgRefusal m
  if k ≠ 0 then s.raiseCls evChgModeRefused .note 5 0xF 0xFF (wd (chCode m)) (wd k) tag else s.chgMove m

/-! ### Pilot and cable (R272 to R274) -/

/-- The sum of h/p over the kept periods, as a quotient. -/
def dutySum : List (Word × Word) → Nat × Nat
  | [] => (0, 1)
  | (p, h) :: r =>
    let q := dutySum r
    (q.1 * p.toNat + h.toNat * q.2, q.2 * p.toNat)

/-- A period between 970 Hz and 1,030 Hz, in 2.5 ns ticks. -/
def pilotOk (p : Word × Word) : Bool :=
  decide (400000000 ≤ 1030 * p.1.toNat) && decide (970 * p.1.toNat ≤ 400000000)

/-- I_cp and validity from the duty n/d in percent (R273). -/
def pilotLimit (n d : Nat) : F32 × Bool :=
  if n < 8 * d then (F.zero, false)
  else if n < 10 * d then (F.ofNat 6, true)
  else if n ≤ 85 * d then (F.ofRat (6 * Int.ofNat n) (10 * d), true)
  else if n ≤ 96 * d then (F.ofRat (5 * (Int.ofNat n - 64 * Int.ofNat d)) (2 * d), true)
  else if n ≤ 97 * d then (F.ofNat 80, true)
  else (F.zero, false)

/-- PILOT_PERIOD (R272, R273, R276). -/
def doPilotPeriod (period high : Word) (s : State) : State :=
  let ps := ((period, high) :: s.chg.pilot).take 8
  let q := dutySum (ps.filter (fun p => decide (p.1 ≠ 0)))
  let n := 100 * q.1
  let d := max 1 (ps.length * q.2)
  let osc := decide (ps.length = 8) && ps.all pilotOk
  let r := if osc then pilotLimit n d else (F.zero, false)
  let duty := F.ofRat (Int.ofNat n) d
  let s1 := s.modChg (fun c => { c with pilot := ps, duty := duty, icp := r.1, pilotOk := r.2 })
  (if s.chg.pilotOk && !r.2 then s1.raiseReg evCpInvalid .chg duty 0 else s1).srcSettle

def execPilotPeriod (period high : Word) (s : State) : Host.Outcome State Fault Refusal := whenLive s (doPilotPeriod period high)

/-- The row of R274 for a resistance num/den in ohms. -/
def ppBand (num : Int) (den : Nat) : Nat :=
  let le := fun (k : Nat) => decide (Int.ofNat (k * den) ≤ num)
  let ge := fun (k : Nat) => decide (num ≤ Int.ofNat (k * den))
  if !le 60 then 1 else if ge 140 then 2 else if le 160 && ge 330 then 3 else if le 400 && ge 1000 then 4
  else if le 1100 && ge 2200 then 5 else if !ge 4500 then 6 else 7

/-- Rating and state of a row. -/
def ppRow (b : Nat) : F32 × Valid3 :=
  if b = 2 then (F.ofNat 63, .valid) else if b = 3 then (F.ofNat 32, .valid) else if b = 4 then (F.ofNat 20, .valid)
  else if b = 5 then (F.ofNat 13, .valid) else if b = 6 then (F.zero, .noCable) else (F.zero, .invalid)

/-- PP_CONVERSION (R274, R276). At and above 3.3 V the resistance counts as infinite. -/
def doPpConversion (v : F32) (s : State) : State :=
  let q := F.toRat v
  let den : Int := 33 * Int.ofNat q.2 - 10 * q.1
  let num := 10000 * q.1
  let band := if den ≤ 0 then 6 else ppBand num den.toNat
  let ohm := if den ≤ 0 then F.infinity false else F.ofRat num den.toNat
  let bands := (band :: s.chg.ppBands).take 3
  let s1 := s.modChg (fun c => { c with ppBands := bands, ppOhm := ohm })
  if bands = [band, band, band] then
    let r := ppRow band
    let s2 := s1.modChg (fun c => { c with ipp := r.1, cable := r.2 })
    (if s.chg.cable ≠ .invalid ∧ r.2 = .invalid then s2.raiseReg evPpInvalid .chg ohm 0 else s2).srcSettle
  else s1

def execPpConversion (v : F32) (s : State) : Host.Outcome State Fault Refusal := whenLive s (doPpConversion v)

/-- SOURCE_VALID (R276): the source has stayed valid for `SRC_SETTLE`; the limit starts from 0. -/
def doSourceValid (s : State) : State :=
  if s.chg.settling && s.acNow && !s.chg.srcOk && decide (secTicks (s.comP .chg 0x04) ≤ (s.tim.devTime - s.chg.settleAt).toNat) then
    (s.modChg (fun c => { c with srcOk := true, iSrc := F.zero })).raiseReg evSourceValid .chg s.acMin 0
  else s

def execSourceValid (s : State) : Host.Outcome State Fault Refusal := whenLive s doSourceValid

/-! ### Session ends and faults (R279, R281 to R284) -/

/-- CV termination has been reached. -/
def State.termDone (s : State) : Bool := decide (secTicks (s.comP .chg 0x10) ≤ s.chg.termT)

/-- CHARGE_DONE (R281). -/
def doChargeDone (s : State) : State :=
  if s.chg.session = .cv ∧ s.termDone then
    (s.modChg (fun c => { c with session := .done })).raiseReg evChargeDone .chg s.span.iBat (s.comP .chg 0x0F)
  else s

def execChargeDone (s : State) : Host.Outcome State Fault Refusal := whenLive s doChargeDone

/-- CHG_TIMER_EXPIRED (R282): with CV termination in the same run both events are recorded and the session goes to DONE; with
BATTERY_ABSENT in the same run it ends with cause BATTERY (R284). -/
def doChgTimerExpired (s : State) : State :=
  let c := s.chg
  let due := match c.session with
    | .cc => true | .cv => true | .done => s.termDone | .ended => c.absRun | .none => false
  if due && !c.timerRun && decide (s.timerLeft = 0) then
    let s1 := s.modChg (fun c => { c with timerRun := true })
    let s2 := if c.session = .cv ∧ s.termDone then s1 else s1.endSession .timer
    s2.raiseReg evChgTimerExpired .chg F.zero (s.comP .chg 0x0E)
  else s

def execChgTimerExpired (s : State) : Host.Outcome State Fault Refusal := whenLive s doChgTimerExpired

/-- BATTERY_ABSENT (R283, R284). -/
def doBatteryAbsent (s : State) : State :=
  let c := s.chg
  let step := F.abs (F.sub c.vBatPrev c.absV)
  if !c.batAbsent && decide (s.parN (comId .chg 0x13) ≤ c.absRuns) && F.lt (s.comP .chg 0x11) step then
    let s1 := (s.endSession .battery).modChg (fun c => { c with batAbsent := true, wasOff := false, absRuns := 0, absRun := true })
    let s2 := if c.timerRun && decide (s1.chg.session = .ended) then s1.modChg (fun c => { c with endCause := .battery }) else s1
    s2.raiseReg evBatteryAbsent .chg step (s.comP .chg 0x11)
  else s

def execBatteryAbsent (s : State) : Host.Outcome State Fault Refusal := whenLive s doBatteryAbsent

/-- PEER_RAISE_TIMEOUT (R279): the bus has not reached `V_PEER_MIN` within 1 s of PEER_OUT. -/
def doPeerRaiseTimeout (s : State) : State :=
  if s.chg.mode = .peerOut ∧ !s.chg.raised ∧ !s.chg.peerFault ∧ 400000000 ≤ (s.tim.devTime - s.chg.enterAt).toNat then
    (s.modChg (fun c => { c with peerFault := true, peerFaultAt := some s.tim.devTime })).raiseReg evPeerFault .chg s.chg.vBus
      (s.comP .chg 0x09)
  else s

def execPeerRaiseTimeout (s : State) : Host.Outcome State Fault Refusal := whenLive s doPeerRaiseTimeout

/-! ### Lamps (R286, R287) -/

/-- The code whose condition holds, the highest first. -/
def State.lampCode (s : State) : Nat :=
  let c := s.chg
  let session := decide (c.session = .cc) || decide (c.session = .cv)
  let recent := match c.peerFaultAt with
    | some t => decide ((s.tim.devTime - t).toNat < 4000000000)
    | none => false
  let draw := F.neg (F.mul c.vPeer c.iPeer)
  if s.isSafe .chg || s.power.devSafe then 10
  else if c.batAbsent then 9
  else if c.session = .ended ∧ c.endCause = .timer then 8
  else if (acMode c.mode && !c.srcOk) || recent then 7
  else if c.session = .done then 6
  else if session && c.limThrot then 5
  else if c.session = .cv then 4
  else if c.session = .cc then 3
  else if (decide (c.mode = .peerOut) && F.lt F.half (F.abs c.iPeer)) || (decide (c.mode = .pass) && F.lt (F.ofNat 100) draw) then 2
  else if chargeMode c.mode then 1
  else 0

/-- The two outputs of a code at a time in ms since its start. -/
def lampLevel (code ms : Nat) : Bool × Bool :=
  let pulses := fun (n : Nat) => decide (ms % 2000 < 400 * n) && decide (ms % 400 < 200)
  if code = 1 then (decide (ms % 2000 < 100), false)
  else if code = 2 then (decide (ms % 1000 < 100), false)
  else if code = 3 then (decide (ms % 1000 < 500), false)
  else if code = 4 then (decide (ms % 2000 < 1500), false)
  else if code = 5 then (decide (ms % 1000 < 500), decide (ms % 1000 < 100))
  else if code = 6 then (true, false)
  else if code = 7 then (false, pulses 1)
  else if code = 8 then (false, pulses 2)
  else if code = 9 then (false, pulses 3)
  else if code = 10 then (false, true)
  else (false, false)

/-- The lamps at a tide boundary. -/
def State.lampTide (s : State) : State :=
  let k : BitVec 4 := BitVec.ofNat 4 s.lampCode
  let at_ := if s.chg.lamp = k then s.chg.lampAt else s.tim.devTime
  let v := lampLevel k.toNat ((s.tim.devTime - at_).toNat / 400000)
  s.modChg (fun c => { c with lamp := k, lampAt := at_, lamp0 := v.1, lamp1 := v.2 })

end Sys2Proof.Machine
end

