-- ==== Sys2Proof/Machine/Relations.lean ====
section
/-! DEFINITION. The rules between words that a commit must keep, in chapter order (R70 to R72, R93, R98, R123, R172, R182, R185, R189,
R193, R198, R217, R230, R240, R259 to R261, R285, R288, R299, R314, R417, R433, R463), each with the ID of the first word it names
(R373), and those that depend on a period (R69). They are asked of a state whose parameters and period words are the candidates. -/

namespace Sys2Proof.Machine

/-- The first entry of a list that holds something. -/
def firstSome {α : Type} : List (Option α) → Option α
  | [] => none
  | some x :: _ => some x
  | none :: xs => firstSome xs

/-- A rule with the ID that names it, where it is broken. -/
def rel (id : Nat) (bad : Bool) : Option Nat := if bad then some id else none

/-! ### Sample sets (R72, R177, R183) -/

/-- The used entries of a set; set 0 is the scan. -/
def State.setEntries (s : State) (n : SnsId) (k : Nat) : List Nat :=
  (List.range 16).filter (fun e => decide (s.parN (snsParId n (4 * e)) ≠ 0) && decide (s.seqSet n e = k))

/-- Nanoseconds, in whole multiples of 5, as units of 312.5 ps. -/
def nsUnits (n : Nat) : Nat := n / 5 * 16

/-- Duration of a set. -/
def State.setUnits (s : State) (n : SnsId) (k : Nat) : Nat :=
  nsUnits ((s.setEntries n k).foldl (fun a e => a + s.entryNs n e) 0)

/-- The sets an engine receives, each with what of it counts from the engine's S (R72, R183). -/
def State.countingSets (s : State) (l : LawId) : List (Nat × SnsId × Nat) :=
  (regSns (lawReg l)).flatMap (fun n => [1, 2, 3].filterMap (fun k =>
    if s.setOwner n k = some l then some (s.setUnits n k, n, k)
    else
      match s.setOwner n k with
      | some o =>
        if s.setShare n k = some l ∧ s.shareSame o l then
          some ((Int.ofNat (s.sUnits o + s.setUnits n k) - Int.ofNat (s.sUnits l)).toNat, n, k)
        else none
      | none => none))

/-- The set that counts for an engine: the one that ends last, the first of equal ones. -/
def State.countingSet (s : State) (l : LawId) : Option (Nat × SnsId × Nat) :=
  (s.countingSets l).foldl (fun acc x => match acc with
    | none => some x
    | some y => if y.1 < x.1 then some x else some y) none

/-- Duration d of R123, in units. -/
def State.setTime (s : State) (l : LawId) : Nat := match s.countingSet l with | some x => x.1 | none => 0

/-! ### Timing words (R70, R71, R98, R123) -/

/-- The least apply delay of an engine: the minimum of its form, raised by what its set takes beyond 0.3 us (R71, R72). -/
def State.applyMin (s : State) (l : LawId) : F32 :=
  F.ofRat (Int.ofNat (8 * formCycles (lawForm l) + 1280 + (s.setTime l - 960))) 3200000000

/-- The greatest one: T, or T/4 for `LAW14` (R70). -/
def State.applyMax (s : State) (l : LawId) : F32 :=
  F.ofRat (Int.ofNat (25 * s.periodTicks (lawReg l))) (if l = 14 then 4 * 10 ^ 10 else 10 ^ 10)

/-- `APPLY_DELAY` outside its range. -/
def State.applyBroken (s : State) (l : LawId) : Bool :=
  F.lt (s.lawP l 0xF1) (s.applyMin l) || F.lt (s.applyMax l) (s.lawP l 0xF1)

/-- `T_ADV` beyond 2T (R98). -/
def State.advBroken (s : State) (l : LawId) : Bool := F.lt (ticksSec (2 * s.periodTicks (lawReg l))) (s.lawP l 0x0D)

/-- The gap between two runs is shorter than a darning needs (R123); the ID is that of the `SET_k_LAW` word of the set that counts, and
for an engine without one that of its `S_FRAC` (DEDUCED, log 25). -/
def State.gapBroken (s : State) (l : LawId) : Option Nat :=
  rel (match s.countingSet l with | some x => snsParId x.2.1 (0x3F + x.2.2) | none => lawId l 0xF0)
    (decide (l ≠ 14) && decide (s.periodUnits (lawReg l) < s.setTime l + 64 + 8 * formCycles (lawForm l) + 832))

/-! ### Sense clusters (R91, R182, R185, R198) -/

/-- The strobed sets that a cluster runs: those with an owner. -/
def State.strobed (s : State) (n : SnsId) : List (Nat × LawId) :=
  [1, 2, 3].filterMap (fun k => (s.setOwner n k).map (fun o => (k, o)))

/-- The longest scan entry, counting the automatic ones of R181. -/
def State.scanMax (s : State) (n : SnsId) : Nat :=
  nsUnits (((s.setEntries n 0).map (s.entryNs n)).foldl max (if hasReadback n then 280 else 100))

/-- Distance from one instant of a period to the next occurrence of another. -/
def cyc (t a b : Nat) : Nat := (b + t - a % t) % t

/-- Two sets of a cluster lie within 20 ns of each other over one period (R91, R182). -/
def State.setsClash (s : State) (n : SnsId) (a b : Nat × LawId) : Bool :=
  let t := s.periodUnits (snsReg n)
  decide (cyc t (s.sUnits a.2) (s.sUnits b.2) < s.setUnits n a.1 + 64) ||
  decide (cyc t (s.sUnits b.2) (s.sUnits a.2) < s.setUnits n b.1 + 64)

/-- The later-numbered set of each pair that clashes names `S_FRAC` of its owner (DEDUCED, log 25). -/
def State.clashes (s : State) (n : SnsId) : List (Option Nat) :=
  (s.strobed n).flatMap (fun a => (s.strobed n).map (fun b =>
    rel (lawId b.2 0xF0) (decide (a.1 < b.1) && s.setsClash n a b)))

/-- The rules of R182 on the words of one set. -/
def State.setWords (s : State) (n : SnsId) (k : Nat) : Option Nat :=
  let own := s.setOwner n k
  let share := s.setShare n k
  let far := fun (l : Option LawId) => match l with | some x => decide (lawReg x ≠ snsReg n) | none => false
  firstSome [
    rel (snsParId n (0x3F + k)) (own.isSome != !(s.setEntries n k).isEmpty),
    rel (snsParId n (0x3F + k)) (far own),
    rel (snsParId n (0x43 + k)) (far share || (share.isSome && decide (share = own)))]

/-- The strobe rules of R91 and R182 that depend on the period: the load, the distance of the sets, and the scan's progress. The first
and the last name no word of their own; they give the `SET_k_LAW` of the first strobed set (DEDUCED, log 25). -/
def State.strobeRules (s : State) (n : SnsId) : Option Nat :=
  let sets := s.strobed n
  let t := s.periodUnits (snsReg n)
  let load := sets.foldl (fun a k => a + s.setUnits n k.1) 0
  let first := match sets with | k :: _ => snsParId n (0x3F + k.1) | [] => snsParId n 0x40
  firstSome ([rel first (decide (t < 2 * load))] ++ s.clashes n ++
    [rel first (decide (sets ≠ []) && decide (t ≤ load + 2 * sets.length * s.scanMax n))])

/-- An entry names a channel the cluster does not have (R182). -/
def State.chanRules (s : State) (n : SnsId) : List (Option Nat) :=
  (List.range 16).map (fun e => rel (snsParId n (4 * e)) (decide ((snsChans n).length < s.parN (snsParId n (4 * e)))))

/-- A channel with entries of different gains (R185). -/
def State.gainRules (s : State) (n : SnsId) : List (Option Nat) :=
  (List.range 16).map (fun e => rel (snsParId n (4 * e + 2)) ((List.range e).any (fun d =>
    (s.seqChan n e).isSome && decide (s.seqChan n d = s.seqChan n e) && decide (s.seqGain n d ≠ s.seqGain n e))))

/-- The DAC code of a threshold, before it is saturated: nearest to (x - XD_OFFSET)/XD_GAIN x 1,024/VREF (R189). -/
def State.thCode (s : State) (w : WinId) (k : Nat) : Int :=
  let c := winChan w
  let x := F.toRat (s.par (winId w k))
  let o := F.toRat (s.par (chanParId c 1))
  let g := F.toRat (s.par (chanParId c 0))
  let num := (x.1 * Int.ofNat o.2 - o.1 * Int.ofNat x.2) * Int.ofNat g.2 * 250
  let den := Int.ofNat (x.2 * o.2) * g.1
  if den = 0 then 0 else F.nearest (if den < 0 then - num else num) den.natAbs

/-- A threshold of an enabled monitor outside its DAC (R189), and `FILT_K` beyond `FILT_N` (R198). -/
def State.winRules (s : State) (w : WinId) : List (Option Nat) :=
  let out := fun (k : Nat) => s.winOn w && (decide (s.thCode w k < 0) || decide (1023 < s.thCode w k))
  [rel (winId w 2) (out 2), rel (winId w 3) (out 3), rel (winId w 5) (decide (s.parN (winId w 6) < s.parN (winId w 5)))]

/-- The rules of one sense cluster. -/
def State.snsRules (s : State) (n : SnsId) : List (Option Nat) :=
  s.chanRules n ++ [1, 2, 3].map (s.setWords n) ++ [s.strobeRules n] ++ s.gainRules n ++ (winsOf n).flatMap s.winRules

/-- A trip source that names a monitor with `WIN_EN` = 0 (R193). -/
def State.srcRules (s : State) (b : BridgeId) : List (Option Nat) :=
  (List.range 4).map (fun k =>
    let v := s.slotSrc b k
    rel (brgId b (0x0D + k)) ((decide (256 ≤ v ∧ v < 304) || decide (512 ≤ v ∧ v < 560)) && !s.winOn (Fin.ofNat 48 (v % 256))))

/-! ### Regions -/

/-- A first value that is not below, or not at most, a second. -/
def notLt (a b : F32) : Bool := !F.lt a b
def notLe (a b : F32) : Bool := !F.le a b

/-- R93 and the range of `T_ADV`. -/
def State.spRules (s : State) (l : LawId) : List (Option Nat) :=
  [rel (lawId l 0xE4) (notLe (s.lawP l 0xE3) (s.lawP l 0xE4)),
   rel (lawId l 0xE7) (decide (s.parN (lawId l 0xE0) ≠ 0) && notLt (s.lawP l 0xE6) (s.lawP l 0xE7))]

/-- R172: `DT_MAX` at least `DT_MIN`. -/
def State.dtRule (s : State) (b : BridgeId) : Option Nat :=
  rel (brgId b 0x05) (decide (brgKind b = .hv) && notLe (s.brgP b 0x04) (s.brgP b 0x05))

/-- R217: the words both speed/torque loops share. R230. -/
def State.trRules (s : State) : List (Option Nat) :=
  [rel (lawId 1 0x20) ([0x20, 0x21, 0x23, 0x24, 0x25].any (fun w => !F.eq (s.lawP 1 w) (s.lawP 4 w))),
   rel (comId .tra 0x03) (notLt (s.comP .tra 0x04) (s.comP .tra 0x03)),
   rel (comId .trb 0x03) (notLt (s.comP .trb 0x04) (s.comP .trb 0x03))]

/-- R240, R259, R260, R261. -/
def State.spnRules (s : State) : List (Option Nat) :=
  let w := s.lawP 7 0x20
  let o := s.lawP 7 0x21
  let v := s.lawP 7 0x01
  spanBridges.map (fun b => rel (brgId b 0x08) (F.lt (F.sub (s.comP .spn 0x08) (F.dec 1 (-7))) (s.brgP b 0x08))) ++
  [rel (lawId 7 0x01) (F.pos v && (!s.winOn 12 || notLt v w || notLt w o || notLt o (s.par 0x42A2))),
   rel (lawId 7 0x20) (F.pos w && notLt w o),
   rel (comId .spn 0x06) (notLt (s.comP .spn 0x04) (s.comP .spn 0x06)),
   rel (lawId 6 0x22) (notLt (s.lawP 6 0x21) (s.lawP 6 0x22)),
   rel (lawId 6 0x23) (notLe (s.lawP 6 0x22) (s.lawP 6 0x23))]

/-- R285, R288. -/
def State.chgRules (s : State) : List (Option Nat) :=
  [rel (comId .chg 0x14) (s.winOn 23 && notLe (s.comP .chg 0x14) (s.par (winId 23 2))),
   rel (comId .chg 0x09) (F.pos (s.comP .chg 0x08) &&
     (notLt (s.comP .chg 0x09) (s.comP .chg 0x08) || notLe (s.comP .chg 0x08) (s.comP .chg 0x0A)))]

/-- R299. -/
def State.actRules (s : State) (l : LawId) : List (Option Nat) :=
  [rel (lawId l 0x24) (notLe (s.lawP l 0x23) (s.lawP l 0x24)),
   rel (lawId l 0x25) (notLe (s.lawP l 0x23) (s.lawP l 0x25) || notLe (s.lawP l 0x25) (s.lawP l 0x24))]

/-- R314. -/
def State.brkRule (s : State) : Option Nat :=
  let p := s.lawP 15
  rel (lawId 15 0x23) (F.pos (p 0x20) &&
    (notLt (p 0x23) (p 0x20) || notLt (p 0x20) (p 0x24) || notLt (p 0x21) (p 0x24)))

/-- R417: rates as 40 MHz over the protocol clock cycles of a bit. -/
def State.canRules (s : State) (c : CanId) : List (Option Nat) :=
  let p := fun w => s.parN (canParId c w)
  let nom := p 0x02 * (1 + p 0x03 + p 0x04)
  let dat := p 0x06 * (1 + p 0x07 + p 0x08)
  [rel (canParId c 0x02) (decide (4000 < nom) || decide (nom < 40)),
   rel (canParId c 0x06) (decide (nom < dat) || decide (dat < 5)),
   rel (canParId c 0x05) (decide (p 0x04 < p 0x05)),
   rel (canParId c 0x09) (decide (p 0x08 < p 0x09))]

/-- Every filter of the device with the unit it names, as controller, filter and unit (R434). -/
def State.fltUnits (s : State) : List (CanId × Nat × Nat) :=
  ([0, 1, 2] : List CanId).flatMap (fun c => (List.range 32).filterMap (fun f =>
    let u := s.parN (canParId c (0x23 + 4 * f)) / 4
    if u = 0 then none else some (c, f, u - 1)))

/-- An enabled filter before this one names its unit. -/
def State.fltTwice (s : State) (x : CanId × Nat × Nat) : Bool :=
  let on := fun (y : CanId × Nat × Nat) => s.parOn (canParId y.1 (0x20 + 4 * y.2.1))
  on x && s.fltUnits.any (fun y => on y && decide (y.2.2 = x.2.2) && decide (32 * y.1.val + y.2.1 < 32 * x.1.val + x.2.1))

/-- R433. -/
def State.fltRules (s : State) : List (Option Nat) :=
  s.fltUnits.map (fun x => rel (canParId x.1 (0x23 + 4 * x.2.1))
    (s.fltTwice x || decide (s.parN (chkParId (Fin.ofNat 8 x.2.2) 0) ≠ 4 + x.1.val) || decide (8 ≤ x.2.2) ||
      (decide (6 ≤ x.2.2) && s.parOn (hawId 0))))

/-- R463. -/
def State.gpRule (s : State) : Option Nat := rel (lawId 15 0x44) (F.lt (F.ofNat 36) (F.mul (s.lawP 15 0x44) (s.lawP 15 0x00)))

/-! ### All of them -/

/-- The rules that depend on a period (R69): `APPLY_DELAY`, `T_ADV`, the strobe rules and the least gap. -/
def State.periodRules (s : State) : List (Option Nat) :=
  allLaws.map (fun l => rel (lawId l 0xF1) (s.applyBroken l)) ++
  [rel (lawId 0 0x0D) (s.advBroken 0), rel (lawId 3 0x0D) (s.advBroken 3)] ++
  allLaws.map s.gapBroken ++ allSns.map s.strobeRules

/-- Does a state's parameter set keep every rule that depends on its periods? -/
def State.periodsHold (s : State) : Bool := (firstSome s.periodRules).isNone

/-- The first broken rule of all, in chapter order (R373). -/
def State.relBroken (s : State) : Option Nat :=
  firstSome (
    allLaws.map (fun l => rel (lawId l 0xF1) (s.applyBroken l)) ++
    allLaws.flatMap s.spRules ++
    [rel (lawId 0 0x0D) (s.advBroken 0), rel (lawId 3 0x0D) (s.advBroken 3)] ++
    allLaws.map s.gapBroken ++
    allBridges.map s.dtRule ++
    allSns.flatMap s.snsRules ++
    allBridges.flatMap s.srcRules ++
    s.trRules ++ s.spnRules ++ s.chgRules ++
    [11, 12, 13].flatMap s.actRules ++ [s.brkRule] ++
    ([0, 1, 2] : List CanId).flatMap s.canRules ++ s.fltRules ++ [s.gpRule])

end Sys2Proof.Machine
end

