-- ==== Sys2Proof/Machine/Commit.lean ====
section
/-! DEFINITION. What a commit changes when it applies (R87, R123, R148, R152, R188, R189, R193, R195, R376, R378, R405, R433, R434, R501,
R502), and the rules on unit state that it must keep (R130, R143, R202, R374, R400, R405, R433). -/

namespace Sys2Proof.Machine

/-! ### Changed words (R502) -/

/-- Two values of a parameter differ: as integers for a raw word, as binary32 numbers otherwise, where the two zeros are equal. -/
def parDiffers (id : Nat) (a b : Word) : Bool :=
  match parRow id with
  | none => false
  | some r => match r.rng with
    | .raw _ => decide (a ≠ b)
    | _ => decide (a ≠ b) && !(decide (a.toNat % 0x80000000 = 0) && decide (b.toNat % 0x80000000 = 0))

/-- The active bank with staged values on top; of two values for one ID the later governs (R371). -/
def State.candidate (s : State) (st : List (Nat × Word)) : RegMap := st.foldl (fun m v => mapSet parReset m v.1 v.2) s.params

/-- The IDs that a commit changes. -/
def State.changedIds (s : State) (new : RegMap) (st : List (Nat × Word)) : List Nat :=
  (st.map (fun v => v.1)).filter (fun id => parDiffers id (s.par id) (mapGet parReset new id))

/-- Some of a holder's words change. -/
def anyOf (ch : List Nat) (ids : List Nat) : Bool := ids.any (fun i => ch.contains i)

/-- A holder, as bits [15:8] of its IDs, has a word in a list of IDs. -/
def inHolder (ids : List Nat) (h : Nat) : Bool := ids.any (fun i => decide (i / 256 = h))

/-! ### Effects in the units -/

/-- A run in flight keeps the values of its S (R87). In the scope, the ACTIVE replicas take the new banks, and a darning starts its parameter
copy again (R123, R127, R376). -/
def State.lawCommit (old : RegMap) (scope : List Nat) (s : State) (l : LawId) : State :=
  let s1 := s.modLaw l (fun x => { x with flight := x.flight.map (fun f => { f with old := some (f.old.getD old) }) })
  if inHolder scope (lawId l 0 / 256) then
    (s1.modLaw l (fun x => { x with darn := x.darn.map (fun d => { d with restart := true }) })).loadBanks l
  else s1

/-- A dead time brought into a range. -/
def DeadTime.into (d : DeadTime) (lo hi : Nat) : DeadTime :=
  { d with now := max lo (min hi d.now), target := max lo (min hi d.target) }

/-- Dead times and slew strengths of a bridge (R148, R152). R152 does not say what a commit of `DVDT_CLOSE` to 0 does to strengths that were
adjusted: they stay as adjusted (DESIGN CHOICE, log 95). -/
def State.brgCommit (ch : List Nat) (s : State) (b : BridgeId) : State :=
  let w := fun k => ch.contains (brgId b k)
  let lo := secUnits (s.brgP b 0x04)
  let hi := secUnits (s.brgP b 0x05)
  let s1 := if brgKind b = .hv ∧ (w 0x04 || w 0x05) then
      s.modBrg b (fun x => { x with dtHl := x.dtHl.into lo hi, dtLh := x.dtLh.into lo hi })
    else s
  let s2 := if w 0x07 && !s.parOn (brgId b 0x07) then
      s1.modBrg b (fun x => let u := secUnits x.dtInit; { x with dtHl := { now := u, target := u }, dtLh := { now := u, target := u } })
    else s1
  each ([0, 1, 2, 3] : List (Fin 4)) (fun s g =>
    if anyOf ch (brgId b 0x17 :: (List.range 8).map (fun k => brgId b (0x20 + 8 * g.val + k))) then
      s.modBrg b (fun x => { x with slew := x.slew.set g { x.slew[g] with str := s.segStr b g } })
    else s) s2

/-- A DAC code saturated into its range (R189). -/
def satTh (c : Int) : BitVec 10 := BitVec.ofNat 10 (max 0 (min 1023 c)).toNat

/-- A comparator with its output inactive. -/
def CompSt.quiet (c : CompSt) : CompSt := { c with out := false, hist := 0, filt := false }

/-- A monitor: its codes follow its thresholds (R189); one that stays enabled holds its outputs and begins its check again when its mode,
a threshold or its hysteresis changes (R193, R195); one with `WIN_EN` = 0 holds both outputs inactive, and one newly enabled has its
readbacks counted from then on (R197). -/
def State.winCommit (ch : List Nat) (was : Bool) (s : State) (w : WinId) : State :=
  let hi := satTh (s.thCode w 2)
  let lo := satTh (s.thCode w 3)
  let on := !was && s.winOn w
  let put := fun (c : CompSt) (code : BitVec 10) => { c with code := code, dacBad := if on then 0 else c.dacBad }
  let s1 := s.modWin w (fun v => { v with hi := put v.hi hi, lo := put v.lo lo })
  if !s.winOn w then s1.modWin w (fun v => { v with hi := v.hi.quiet, lo := v.lo.quiet, hold := false })
  else if was && anyOf ch [winId w 1, winId w 2, winId w 3, winId w 4] then
    (s1.modWin w (fun v => { v with hold := true })).abandonCheck w
  else s1

/-- A sense cluster: a new sequence begins its scan again (R501), `LQ_EN` = 0 empties the legacy queue (R188), and its monitors follow. A set
that converts goes on at its position, and ends where the new sequence leaves none (DESIGN CHOICE, log 94). -/
def State.snsCommit (s old : State) (ch : List Nat) (n : SnsId) : State :=
  if !inHolder ch (snsParId n 0 / 256) then s
  else
    let y := s.snsC n
    let s1 := if anyOf ch ((List.range 0x40).map (snsParId n)) then
        let t := s.modSns n (fun y => { y with roundNs := 0, scanPos := 0 })
        if y.busy ≠ 0 ∧ (s.entriesOf n y.busy).length ≤ y.setPos then t.setEnd n y.busy else t
      else s
    let s2 := if ch.contains (snsParId n 0x48) && !s.parOn (snsParId n 0x48) then s1.modSns n (fun y => { y with lq := [] }) else s1
    each (winsOf n) (fun s w => s.winCommit ch (old.winOn w) w) s2

/-- A controller joins or leaves the bus as `CAN_EN` changes (R434); an isolated one only empties (R29). -/
def State.canCommit (ch : List Nat) (s : State) (c : CanId) : State :=
  if ch.contains (canParId c 0) then (if (s.can c).isolated then s.canEmpty c else s.canStart c) else s

/-- A unit whose use, algorithm, counter or position changes restarts (R433); the two of the link restart with the pair. -/
def State.chkCommit (ch : List Nat) (s : State) (n : ChkId) : State :=
  if anyOf ch ((List.range 4).map (chkParId n)) || (decide (6 ≤ n.val) && ch.contains (hawId 0)) then s.chkFresh n else s

/-- A side short-circuited in ASC, or in CATCH from ASC, follows a commit of `ASC_SIDE` (R203). -/
def State.ascCommit (ch : List Nat) (s : State) (x : Side) : State :=
  let t := s.tr x
  if ch.contains (comId (sideReg x) 0x02) ∧ (t.mode = .asc ∨ t.mode = .catch ∧ t.catchAsc) then s.selectSide x (s.ascSel x) else s

/-- With `POS_SRC` committed to 0 only a set-position makes the position of an actuator valid (R294). -/
def State.posCommit (old : RegMap) (ch : List Nat) (s : State) (a : ActId) : State :=
  let w := lawId (actLaw a) 0x07
  if ch.contains w ∧ mapGet parReset old w ≠ s.par w ∧ s.parN w = 0 then s.modAct a (fun y => { y with posOk := false }) else s

/-- Every unit after the new values are in force. -/
def State.commitUnits (s old : State) (scope ch : List Nat) : State :=
  let s1 := each allLaws (fun s l => s.lawCommit old.params scope l) s
  let s2 := each (allBridges.filter (fun b => inHolder ch (brgId b 0 / 256))) (fun s b => s.brgCommit ch b) s1
  let s3 := each allSns (fun s n => s.snsCommit old ch n) s2
  let s4 := each ([0, 1, 2] : List CanId) (fun s c => s.canCommit ch c) s3
  let s5 := each ([0, 1, 2, 3, 4, 5, 6, 7] : List ChkId) (fun s n => s.chkCommit ch n) s4
  let s6 := if ch.contains (hawId 0) then s5.pairEnable s.pairOn else s5
  let s7 := each allActs (fun s a => s.posCommit old.params ch a) ((s6.ascCommit ch .a).ascCommit ch .b)
  s7.evalAllTrips.drive .bch

/-- The words of the bank holders named by some IDs, taken from one bank into another. -/
def takeBanks (ids : List Nat) (src dst : RegMap) : RegMap :=
  (src.filter (fun v => inHolder ids (v.1 / 256))).foldl (fun m v => mapSet parReset m v.1 v.2) (dst.filter (fun v => !inHolder ids (v.1 / 256)))

/-- A claim loads the shadow banks of the holders that staged values reach first with their active values; then the values are written
(R367). -/
def State.claim (s : State) (k : SlotId) (items : List (Nat × Word)) : State :=
  let new := (items.map Prod.fst).filter (fun id => !inHolder ((s.slot k).staged.map Prod.fst) (id / 256))
  let s1 := s.modTxn (fun t => { t with
    shadow := items.foldl (fun m v => mapSet parReset m v.1 v.2) (takeBanks new s.params t.shadow) })
  each (allLaws.filter (fun l => inHolder (items.map Prod.fst) (lawId l 0 / 256))) (fun s l => s.loadBanks l) s1

/-- Make staged values active and let every unit follow; the former active banks become the shadow banks (R376). -/
def State.swap (s : State) (st : List (Nat × Word)) : State :=
  let new := s.candidate st
  ({ s with params := new }.modTxn (fun t => { t with shadow := takeBanks (st.map Prod.fst) s.params t.shadow })).commitUnits s
    (st.map Prod.fst) (s.changedIds new st)

/-! ### Rules on unit state (R373, R374) -/

/-- A bridge counts as DISARMED: it is, or its region is in REGION-SAFE (R374). -/
def State.brgIdle (s : State) (b : BridgeId) : Bool := s.isSafe (brgReg b) || decide ((s.brg b).arm = .disarmed)

/-- A cluster as word 1 of STATE names it. -/
def cluWord (reg clu : Nat) : Word := wd (reg * 256 + clu)
def brgWord (b : BridgeId) : Word := cluWord (regCode (brgReg b)) (brgClu b)

/-- The first bridge of a list that is not DISARMED. -/
def State.firstBusy (s : State) (bs : List BridgeId) : Option Word := (bs.find? (fun b => !s.brgIdle b)).map brgWord

/-- An output that commands a switch on, or lets the carrier do so. -/
def outOn : OutNow → Bool
  | .pwm => true | .lowOn => true | .highOn => true | .off => false | .blocked => false | .tripped => false

/-- R130: a commit that takes a bridge which a halted cluster serves out of OFF or FREE, or its actuator out of OFF or FREE: one
whose effect in the units turns such a bridge's output on. Lifted in the test state. -/
def State.haltRule (s t : State) (l : LawId) : Option Word :=
  if (s.law l).halted && !s.power.test && (lawBridges l).any (fun b => !outOn (s.outNow b) && outOn (t.outNow b)) then
    some (cluWord (regCode (lawReg l)) (lawClu l))
  else none

/-- R143. -/
def State.carrierRule (s : State) (ch : List Nat) (b : BridgeId) : Option Word :=
  if anyOf ch [brgId b 0, brgId b 1] && !s.brgIdle b then some (brgWord b) else none

/-- R202. -/
def State.dirRule (s : State) (ch : List Nat) (x : Side) : Option Word :=
  if ch.contains (comId (sideReg x) 0) && !s.offOrSafe (sideReg x) then some (cluWord (regCode (sideReg x)) 0xF) else none

/-- R400 and R405: a word of the pair that moves carriers or the whole device, and the bridges that it needs DISARMED. -/
def State.pairRule (s : State) (ch : List Nat) (w : Nat) (bs : List BridgeId) : Option Word :=
  if ch.contains (hawId w) then s.firstBusy bs else none

/-- R433: bit timing and `FD_EN` of a controller that is on the bus before and after. -/
def State.bitRule (s : State) (new : RegMap) (ch : List Nat) (c : CanId) : Option Word :=
  if s.parOn (canParId c 0) && decide (F.toInt (mapGet parReset new (canParId c 0)) = 1) &&
      anyOf ch ((List.range 11).map (fun k => canParId c (k + 1))) then some (cluWord 1 (c.val + 1)) else none

/-- The first rule on unit state that staged values break, as word 1 of COMMIT_REFUSED. -/
def State.stateBroken (s : State) (st : List (Nat × Word)) : Option Word :=
  let new := s.candidate st
  let ch := s.changedIds new st
  firstSome (
    (if allLaws.any (fun l => (s.law l).halted) then allLaws.map (s.haltRule (s.swap st)) else []) ++
    allBridges.map (s.carrierRule ch) ++ [s.dirRule ch .a, s.dirRule ch .b] ++
    [s.pairRule ch 5 (regBridges .tra ++ regBridges .trb), s.pairRule ch 6 (regBridges .spn), s.pairRule ch 0 allBridges] ++
    ([0, 1, 2] : List CanId).map (s.bitRule new ch))

/-- While a slot is PREPARED, a record that would bring its commit into conflict with a rule on unit state (R381). -/
def State.prepBreaks (s t : State) : Bool :=
  s.txn.slots.toList.any (fun x =>
    decide (x.state = .prepared) && (s.stateBroken x.staged).isNone && (t.stateBroken x.staged).isSome)

/-- A PREPARED slot claims a bank holder, whose halt is refused (R381). -/
def State.prepHolds (s : State) (h : Nat) : Bool :=
  s.txn.slots.toList.any (fun x => decide (x.state = .prepared) && inHolder (x.staged.map (fun v => v.1)) h)

end Sys2Proof.Machine
end

