-- ==== Sys2Proof/Machine/Operands.lean ====
section
/-! DEFINITION. The operand forms of the host's records: the entries of ring 0 and ring 1 (R349, R355, R356), from their fields and
back to them. -/

namespace Sys2Proof.Machine

/-! ### Ring 0 (R355) -/

def nopEntry (h : RecHdr) : Entry := packEntry (hdrFields 0x00 h)
def setModeEntry (h : RecHdr) (region actuator mode : Byte) : Entry :=
  packEntry (hdrFields 0x01 h ++ [(8, 1, region.toNat), (9, 1, actuator.toNat), (10, 1, mode.toNat)])
/-- A SETPOINT slot at a byte position. -/
def spFields (i : Nat) (x : SpSlot) : List (Nat × Nat × Nat) := [(i, 1, x.law.toNat), (i + 1, 1, x.index.toNat), (i + 4, 4, x.value.toNat)]
def setpointEntry (h : RecHdr) (s0 s1 s2 : SpSlot) : Entry :=
  packEntry (hdrFields 0x02 h ++ spFields 8 s0 ++ spFields 16 s1 ++ spFields 24 s2)
def armEntry (h : RecHdr) (region : Byte) (mask : Word) : Entry := packEntry (hdrFields 0x03 h ++ [(8, 1, region.toNat), (12, 4, mask.toNat)])
def disarmEntry (h : RecHdr) (region : Byte) (mask : Word) : Entry :=
  packEntry (hdrFields 0x04 h ++ [(8, 1, region.toNat), (12, 4, mask.toNat)])
def resetClusterEntry (h : RecHdr) (region cluster : Byte) : Entry :=
  packEntry (hdrFields 0x05 h ++ [(8, 1, region.toNat), (9, 1, cluster.toNat)])
def resetRegionEntry (h : RecHdr) (region : Byte) : Entry := packEntry (hdrFields 0x06 h ++ [(8, 1, region.toNat)])
/-- A BRAKE record: 0 apply, 1 release, 2 test. -/
def brakeEntry (h : RecHdr) (op : Nat) : Entry := packEntry (hdrFields 0x07 h ++ [(8, 1, op)])
def setPositionEntry (h : RecHdr) (actuator : Byte) (value : F32) : Entry :=
  packEntry (hdrFields 0x08 h ++ [(8, 1, actuator.toNat), (12, 4, value.toNat)])
def canRecoverEntry (h : RecHdr) (ctrl : Byte) : Entry := packEntry (hdrFields 0x09 h ++ [(8, 1, ctrl.toNat)])
def selftestEntry (h : RecHdr) (kind region cluster rep : Byte) : Entry :=
  packEntry (hdrFields 0x0A h ++ [(8, 1, kind.toNat), (9, 1, region.toNat), (10, 1, cluster.toNat), (11, 1, rep.toNat)])

/-- A SETPOINT slot of an entry. -/
def spSlotAt (e : Entry) (i : Nat) : SpSlot := ⟨byteAt e i, byteAt e (i + 1), wordAt e (i + 4)⟩

/-! ### Ring 1 (R356) -/

def beginEntry (h : RecHdr) (slot flags : Byte) (txid target : Word) : Entry :=
  packEntry (hdrFields 0x10 h ++ [(8, 1, slot.toNat), (9, 1, flags.toNat), (12, 4, txid.toNat), (16, 4, target.toNat)])
def stageEntry (h : RecHdr) (slot count : Byte) (i0 : Half) (v0 : Word) (i1 : Half) (v1 : Word) (i2 : Half) (v2 : Word) : Entry :=
  packEntry (hdrFields 0x11 h ++ [(8, 1, slot.toNat), (9, 1, count.toNat), (12, 2, i0.toNat), (14, 4, v0.toNat), (18, 2, i1.toNat),
    (20, 4, v1.toNat), (24, 2, i2.toNat), (26, 4, v2.toNat)])
def commitEntry (h : RecHdr) (slot : Byte) (seq expect : Word) : Entry :=
  packEntry (hdrFields 0x12 h ++ [(8, 1, slot.toNat), (12, 4, seq.toNat), (16, 4, expect.toNat)])
def rollbackEntry (h : RecHdr) (slot : Byte) : Entry := packEntry (hdrFields 0x13 h ++ [(8, 1, slot.toNat)])

end Sys2Proof.Machine
end

