-- ==== Sys2Proof/Machine/SpModes.lean ====
section
/-! DEFINITION. The span modes and their moves, the start test, bypass, burst and discharge (R236 to R240, R246, R247, R249, R251, R252,
R254, R256, R257). -/

namespace Sys2Proof.Machine

/-! ### Entering a mode (R236, R238) -/

/-- The outputs of the four phases in REGULATE, and in STANDBY during a burst: PWM on active phases, OFF on the others. -/
def State.spOutputs (s : State) : State :=
  let on := fun (k : Nat) => s.span.active.getLsbD k &&
    (decide (s.span.mode = .regulate) || (decide (s.span.mode = .standby) && s.span.burst))
  each [0, 1, 2, 3] (fun s k =>
    let b := spanBridges.getD k .sp1
    let o : OutSel := if s.span.mode = .bypass then .highOn else if on k then .pwm else .off
    if (s.brg b).sel = o then s else s.select o b) s

/-! ### Carriers (R250) -/

/-- The carrier phase of an active phase: its own `PHASE` with four active, else `BRG.SP1.PHASE` + j/n, modulo 1, for the j-th of n; in a pair
follower shifted by R400. -/
def State.carrierPhase (s : State) (k : Nat) : F32 :=
  let act := s.phActive
  let b := spanBridges.getD k .sp1
  s.pairPhase b (if act.length = 4 then s.brgP b 0x01
    else wrapOne (F.add (s.brgP .sp1 0x01) (F.div (F.ofNat (act.idxOf k)) (F.ofNat (max 1 act.length)))))

/-- A carrier phase as ticks after the period start P (R138). -/
def phaseTicks (φ : F32) (period : Nat) : Nat := (F.nearest ((F.toRat φ).1 * Int.ofNat period) (F.toRat φ).2).toNat

/-- Move a bridge's carrier at a period start: it completes its running period and holds OFF until its new origin, the first instant at or after
that end with the new phase. A carrier that already holds OFF for an earlier move has no running period. -/
def State.moveCarrier (s : State) (b : BridgeId) (φ : F32) : State :=
  let x := s.brg b
  let now := s.tim.devTime.toNat
  let period := s.carrierTicks b
  if F.eq x.phase φ then
    s.modBrg b (fun x => { x with gap := match x.gap with
      | some (e, o) => if o.toNat ≤ now then none else some (e, o)
      | none => none })
  else
    let endAt := match x.gap with
      | some (e, o) => if now < o.toNat then e.toNat else now + phaseTicks x.phase period
      | none => now + phaseTicks x.phase period
    let first := now + phaseTicks φ period
    let origin := if endAt ≤ first then first else first + period
    (s.modBrg b (fun x => { x with phase := φ, gap := some (BitVec.ofNat 64 endAt, BitVec.ofNat 64 origin) })).drive b

/-- The spacing of the active phases at a period start. -/
def State.respace (s : State) : State :=
  each s.phActive (fun s k => s.moveCarrier (spanBridges.getD k .sp1) (s.carrierPhase k)) s

/-- The chopper's selection at a period start: its armed bridge runs PWM at the duty of R255, unless R254 has stopped it. -/
def State.chopperOn (s : State) : State :=
  if s.isArmed .bch && !s.span.chStop && decide ((s.brg .bch).sel ≠ .pwm) then s.select .pwm .bch else s

/-- Enter a mode. REGULATE takes every available phase from OFF and BYPASS and the burst phase alone from STANDBY. -/
def State.spEnter (s : State) (m : SpMode) : State :=
  let was := s.span.mode
  let active : BitVec 4 :=
    match m with
    | .regulate => if was = .standby then phMask s.burstPhase else phMask s.phAvailList
    | .standby => phMask s.burstPhase
    | .bypass => phMask s.phAvailList
    | .off => 0 | .discharge => 0
  let run : RunState := match m with | .regulate => .running | .standby => .tracking | .bypass => .tracking | .off => .stopped | .discharge => .stopped
  let s1 := s.modSpan (fun p => { p with
    mode := m, active := active, shedding := false, abort := false, sOut := F.zero, shedTides := 0, shedOk := false, burstOk := false,
    burst := false, burstReq := false, burstEnd := false, burstTicks := 0, bypReq := false, bypDue := false, bypExit := false,
    disT := 0, disEnd := false, chStop := false })
  let s2 := s1.setRun 6 run
  if m = .off then s2.disarmAll spanBridges else s2.spOutputs

/-- Refuse a span mode command with a rank (R237, R445). -/
def State.spRefuse (s : State) (m : SpMode) (k : Nat) (tag : Half) : State :=
  s.raiseCls evSpnModeRefused .note 4 0xF 0xFF (wd (spCode m)) (wd k) tag

/-! ### Start test (R239, R240) -/

/-- An accepted command for STANDBY or REGULATE in OFF: the test begins at the next period start. -/
def State.askTest (s : State) (m : SpMode) (tag : Half) : State :=
  s.modSpan (fun p => { p with test := some { goal := m, tag := tag, probe := false, phase := 0, begun := false, fails := 0 } })

/-- The test begins: its method follows from the voltages measured now. -/
def State.beginTest (s : State) (t : StartTest) : State :=
  let probe := F.lt (F.sub (s.chan 12).val (s.chan 13).val) (s.comP .spn 0x07)
  s.modSpan (fun p => { p with test := some { t with begun := true, probe := probe, phase := s.phAvailList.headD 0, fails := 0 } })

/-- A phase fails (R240, R264): HS_SHORT, its bit of `SPN.HS_SHORT_MAP`, and ISOLATE. -/
def State.failPhase (s : State) (k : Nat) : State :=
  (s.modSpan (fun p => { p with hsShort := p.hsShort ||| BitVec.ofNat 4 (2 ^ k) })).isoBy evHsShort (spanBridges.getD k .sp1) (k + 1) 0 0 false

/-- The test ends without a failure: START_TEST_DONE and the commanded mode. A phase that has passed no longer counts as failed. Where other
causes have isolated phases meanwhile so that fewer than `N_PH_MIN` remain, the command is refused as R237 refuses it (DEDUCED, log 98). -/
def State.passTest (s : State) (t : StartTest) : State :=
  if s.phAvailList.length < s.parN (comId .spn 0x0D) then (s.modSpan (fun p => { p with test := none })).spRefuse t.goal 10 t.tag
  else ((s.modSpan (fun p => { p with test := none, hsShort := p.hsShort &&& ~~~(phMask s.phAvailList) })).raiseReg evStartTestDone .spn 0 0).spEnter t.goal

/-- The phases that the blocking check finds shorted. No command carries the drain-source voltages it compares, so each available phase
fails as a free bit says (log 17). -/
def State.blockingFails (s : State) : List Nat → List Nat × State
  | [] => ([], s)
  | k :: ks =>
    let d := s.drawBit
    let r := d.2.blockingFails ks
    (if d.1 then k :: r.1 else r.1, r.2)

/-- One period of the start test has passed; it begins at the period start after the command's (R239). A phase under probe fails by a
desaturation alone. -/
def State.testPeriod (s : State) : State :=
  match s.span.test with
  | none => s
  | some t =>
    if !t.begun then (if s.span.cmdAt = some s.tim.devTime then s else s.beginTest t)
    else if t.probe then
      if t.fails.getLsbD t.phase then ((s.modSpan (fun p => { p with test := none })).failPhase t.phase).spRefuse t.goal 10 t.tag
      else
        match s.phAvailList.find? (fun k => decide (t.phase < k)) with
        | some k => s.modSpan (fun p => { p with test := some { t with phase := k, fails := 0 } })
        | none => s.passTest t
    else
      let r := s.blockingFails s.phAvailList
      if r.1.isEmpty then r.2.passTest t
      else ((each r.1 State.failPhase (r.2.modSpan (fun p => { p with test := none })))).spRefuse t.goal 10 t.tag

/-! ### The period start (R238, R246, R247, R249, R252) -/

/-- A mode command has been accepted at this period start: it governs over the automatic triggers (R238). -/
def State.spCmdNow (s : State) : Bool := decide (s.span.cmdAt = some s.tim.devTime)

/-- Bursts of STANDBY. -/
def State.burstPeriod (s : State) : State :=
  let p := s.span
  if p.mode ≠ .standby then s
  else
    let exitI := F.lt (s.comP .spn 0x06) (F.abs (F.div p.pLoad (F.max p.vBat F.one)))
    let ticks := if p.burst then p.burstTicks + s.periodTicks .spn else 0
    if !s.spCmdNow && (exitI || decide (s.tideTicks < ticks)) then s.spEnter .regulate
    else if p.burst && p.burstEnd then
      ((s.modSpan (fun q => { q with burst := false, burstEnd := false, burstReq := false, burstTicks := 0 })).setRun 6 .tracking).spOutputs
    else if !p.burst && p.burstReq then
      ((s.modSpan (fun q => { q with
        burst := true, burstReq := false, burstEnd := false, burstTicks := 0, active := phMask s.burstPhase })).setRun 6 .running).spOutputs
    else s.modSpan (fun q => { q with burstTicks := ticks })

/-- REGULATE moves to STANDBY by itself at the first period start of a tide after a whole tide below `BURST_I`. -/
def State.autoStandby (s : State) : State :=
  if (s.reg .spn).periods = 1 then
    if s.span.mode = .regulate ∧ s.parOn (comId .spn 0x03) ∧ s.span.burstOk ∧ !s.spCmdNow then s.spEnter .standby
    else s.modSpan (fun p => { p with burstOk := decide (p.mode = .regulate) })
  else s

/-- The automatic moves between modes; a command of the same period start governs (R238). -/
def State.spMoves (s : State) : State :=
  let p := s.span
  if p.disEnd || (s.sto.block && decide (p.mode ≠ .off)) then s.spEnter .off
  else if p.bypExit && decide (p.mode = .bypass) && !s.spCmdNow then (s.spEnter .regulate).raiseReg evBypassLeft .spn p.vLink 0
  else if p.bypDue && decide (p.mode = .regulate) && (!s.spCmdNow || p.bypReq) then (s.spEnter .bypass).raiseReg evBypassEntered .spn p.vLink 0
  else
    let s1 := if p.abort then s.modSpan (fun q => { q with abort := false, shedding := false, sOut := F.zero }) else s
    s1.burstPeriod.autoStandby

/-- The span region at its period start. -/
def State.spPeriod (s : State) : State :=
  let safe := s.isSafe .spn || s.power.devSafe
  let s1 := if safe then s else (s.spMoves).testPeriod
  let s2 := if s1.isSafe .spn || s1.power.devSafe then s1 else s1.respace.spOutputs
  s2.chopperOn.setRun 7 .running

/-! ### Commands (R237, R238) -/

def spModeOf : Nat → Option SpMode
  | 0 => some .off | 1 => some .standby | 2 => some .regulate | 3 => some .bypass | 4 => some .discharge | _ => none

/-- A command of the chapter's own rules is refused: readiness of phases, BYPASS, the running test, and moves that R238 does not list. -/
def State.spRule (s : State) (m : SpMode) : Bool :=
  let p := s.span
  let vDiff := F.abs (F.sub (s.chan 12).val (s.chan 13).val)
  if m = .off then false
  else if p.test.isSome then true
  else if m = p.mode then false
  else
    match m with
    | .off => false
    | .standby | .regulate =>
      decide (s.phAvailList.length < s.parN (comId .spn 0x0D)) ||
      !(s.phAvailList.all (fun k => s.isArmed (spanBridges.getD k .sp1))) ||
      decide (p.mode = .discharge) || (decide (m = .standby) && decide (p.mode = .bypass))
    | .bypass => decide (p.mode ≠ .regulate) || F.lt (s.comP .spn 0x01) vDiff
    | .discharge => decide (p.mode ≠ .off) || !s.isArmed .bch

/-- DISCHARGE against a traction or charger mode; a region in REGION-SAFE counts as its safe state (R237, R454). -/
def State.disCombo (s : State) : Bool :=
  let tr := fun x => s.isSafe (sideReg x) ||
    (match (s.tr x).mode with | .off => true | .free => true | .asc => true | .hold => false | .torque => false | .speed => false | .catch => false)
  !(tr .a && tr .b && (s.isSafe .chg || decide (s.chg.mode = .off)))

/-- A halted region, a halted bridge that the command needs, or a halted `LAW06` or `LAW07` (rank 6 of R453). -/
def State.spDebug (s : State) (m : SpMode) : Bool :=
  s.regHalt .spn || decide (m ≠ .off) && (spanBridges.any (fun b => decide ((s.brg b).arm = .halted)) ||
    (decide (s.span.mode = .off) && (regLaws .spn).any (fun l => (s.law l).halted)))

/-- The rank that refuses a span mode command, 0 for none. -/
def State.spRefusal (s : State) (m : SpMode) : Nat :=
  firstRank [s.safeRank .spn, rank 3 ((decide (m = .standby) || decide (m = .regulate)) && s.sto.block), rank 6 (s.spDebug m),
    rank 12 (s.testHolds .spn), rank 10 (s.spRule m), rank 11 (decide (m = .discharge) && s.disCombo)]

/-- An accepted command. One for OFF abandons a running test (R239); one that repeats the present mode changes nothing (R237). -/
def State.spMove (s : State) (m : SpMode) (tag : Half) : State :=
  match m with
  | .off => if s.span.mode = .off then s.abandonTest 10 else s.spEnter .off
  | .standby => if s.span.mode = .off then s.askTest m tag else if s.span.mode = .standby then s else s.spEnter m
  | .regulate =>
    match s.span.mode with
    | .off => s.askTest m tag
    | .regulate => s
    | .bypass => (s.spEnter m).raiseReg evBypassLeft .spn s.span.vLink 0
    | .standby => s.spEnter m
    | .discharge => s
  | .bypass => if s.span.mode = .bypass then s else s.modSpan (fun p => { p with bypReq := true })
  | .discharge => if s.span.mode = .discharge then s else s.spEnter m

/-- SET_MODE of the span region. -/
def State.spCommand (s : State) (m : SpMode) (tag : Half) : State :=
  let k := s.spRefusal m
  if k ≠ 0 then s.spRefuse m k tag else (s.spMove m tag).modSpan (fun p => { p with cmdAt := some s.tim.devTime })

/-- The `SAFE_EN` block begins: a running test is abandoned at once (R239); the mode ends at the next period start (R238, `spMoves`). -/
def State.blockSpan (s : State) : State := s.abandonTest 3

/-! ### Rows of their own -/

/-- DIS_TIMEOUT (R254): `DIS_TIMEOUT` has passed in DISCHARGE. -/
def doDisTimeout (s : State) : State :=
  if s.span.mode = .discharge ∧ !s.span.disEnd ∧ secTicks (s.comP .spn 0x0B) ≤ s.span.disT then
    (s.modSpan (fun p => { p with disEnd := true })).raiseReg evDischargeFail .spn (ticksSec s.span.disT) (s.comP .spn 0x0B)
  else s

def execDisTimeout (s : State) : Host.Outcome State Fault Refusal := whenLive s doDisTimeout

/-- CHOPPER_OPEN (R256): `CH_N_FAIL` consecutive checked runs without the expected current. -/
def doChopperOpen (s : State) : State :=
  if s.parN (lawId 7 0x25) ≤ s.span.chOpen then
    (s.modSpan (fun p => { p with chOpen := 0 })).isoBy evChopperOpen .bch 35 0 0 false
  else s

def execChopperOpen (s : State) : Host.Outcome State Fault Refusal := whenLive s doChopperOpen

/-- CHOPPER_CONDUCTS (R257): current with the switch off in `CH_N_FAIL` consecutive runs. -/
def doChopperConducts (s : State) : State :=
  if s.parN (lawId 7 0x25) ≤ s.span.chCond then
    (s.modSpan (fun p => { p with chCond := 0 })).isoBy evChopperConducts .bch 35 0 0 false
  else s

def execChopperConducts (s : State) : Host.Outcome State Fault Refusal := whenLive s doChopperConducts

end Sys2Proof.Machine
end

