-- ==== Sys2Proof/Machine/TrModes.lean ====
section
/-! DEFINITION. The traction modes and their moves (R203 to R206, R221 to R229). -/

namespace Sys2Proof.Machine

/-! ### Entering a mode (R203) -/

/-- Run states of the current loop and the speed/torque loop; the observer runs in every mode. -/
def State.trLaws (s : State) (x : Side) (foc speed : RunState) : State :=
  ((s.setRun (focLaw x) foc).setRun (speedLaw x) speed).setRun (obsLaw x) .running

/-- A tested region that leaves HOLD aborts the brake test (R308). -/
def State.leaveHold (s : State) (x : Side) (m : TrMode) : State :=
  if (s.tr x).mode = .hold ∧ m ≠ .hold ∧ s.btSel x then s.abortBrakeTest else s

/-- Enter a mode with its run states and output state. A move from a short circuit to PWM keeps the switches until the first loads
(R206). -/
def State.trEnter (s0 : State) (x : Side) (m : TrMode) : State :=
  let s := s0.leaveHold x m
  let short := trShorted (s.tr x)
  let set := fun (s : State) (keep : Bool) => s.modTr x (fun t => { t with
    mode := m, toCatch := 0, keep := keep, locked := false, still := false,
    src := if m ≠ .catch ∧ t.src = .mate then .observer else t.src,
    start := if driveMode m then t.start else false, blend := if driveMode m then t.blend else 0,
    nLost := 0, nLock := 0, revHeld := false, vecLost := if m = .torque then t.vecLost else false })
  match m with
  | .off => ((set s false).disarmAll (sideBridges x)).trLaws x .stopped .stopped
  | .free => ((set s false).selectSide x .off).trLaws x .tracking .tracking
  | .asc => ((set s false).selectSide x (s.ascSel x)).trLaws x .tracking .tracking
  | .catch => ((set s false).modTr x (fun t => { t with nStill := 0, catchT := 0, mateRuns := 0 })).trLaws x .tracking .tracking
  | .hold | .torque | .speed =>
    let s1 := (set s short).trLaws x .running (if m = .hold then .tracking else .running)
    if short then each (sideBridges x) State.unload s1 else s1.selectSide x .pwm

/-- Enter CATCH for a target (R205, R224). -/
def State.enterCatch (s : State) (x : Side) (target : TrMode) (tag : Half) : State :=
  let short := trShorted (s.tr x)
  (s.trEnter x .catch).modTr x (fun t => { t with target := target, catchAsc := short, tag := tag })

/-! ### The decision of R222 -/

/-- Isolated bridges of a side. -/
def State.isoCount (s : State) (x : Side) : Nat := ((sideBridges x).filter s.isIso).length

/-- The choice of R222 and R223: FREE before a confident run and with two bridges isolated. -/
def State.emfChoice (s : State) (x : Side) : Choice :=
  let t := s.tr x
  if t.good && F.le (F.mul (s.comP (sideReg x) 0x01) t.vLast) t.eLast && decide (s.isoCount x ≤ 1) then
    (if s.isoCount x = 1 then .ascPartial else .asc)
  else .free

/-- Take the decision, record it, and enter ASC or FREE (R222, R223). -/
def State.safeChoice (s : State) (x : Side) : State :=
  let c := s.emfChoice x
  let r := sideReg x
  let t := s.tr x
  let s1 := (s.modTr x (fun t => { t with choice := c, decide := false })).raise evSafeChoice (regCode r) 0xF (choiceCode c)
    t.eLast t.vLast
  match c with
  | .asc => s1.trEnter x .asc
  | .ascPartial => (s1.raiseReg evAscPartial r 0 0).trEnter x .asc
  | .none => s1.trEnter x .free
  | .free => s1.trEnter x .free

/-- A decision that is due falls now: `wait` period starts pass before CATCH where the loss asks for it (R205, R221). -/
def State.trSettle (s : State) (x : Side) (wait : Nat) : State :=
  let t := s.tr x
  if !t.decide then s
  else
    let s1 := s.safeChoice x
    if t.toCatch = 0 then s1 else s1.modTr x (fun y => { y with toCatch := wait, target := t.target, tag := 0 })

/-- Isolated bridges that have not been answered yet (R229). -/
def State.isoMask (s : State) (x : Side) : BitVec 3 :=
  BitVec.ofNat 3 ((List.range 3).foldl (fun n k => n + bit (s.isIso ((sideBridges x).getD k .ta1)) * 2 ^ k) 0)

/-- The answer to a bridge of the region that entered ISOLATE (R229). -/
def State.phaseIsolated (s : State) (x : Side) : State :=
  let r := sideReg x
  let m := s.isoMask x
  let fresh := m &&& ~~~(s.tr x).isoSeen
  let s1 := s.modTr x (fun t => { t with isoSeen := m })
  if fresh = 0 ∨ (s.tr x).mode = .off then s1
  else
    let s2 := each (((List.range 3).filter (fun k => fresh.getLsbD k)))
      (fun s k => s.raise evPhaseIsolated (regCode r) 0xF (k + 1) 0 0) s1
    if s.isSafe r || s.power.devSafe then
      if (s.tr x).mode = .asc then
        (if 2 ≤ s.isoCount x then (s2.modTr x (fun t => { t with choice := .free })).trEnter x .free
         else (s2.modTr x (fun t => { t with choice := .ascPartial })).raiseReg evAscPartial r 0 0)
      else s2
    else (s2.modTr x (fun t => { t with toCatch := 0 })).safeChoice x

/-! ### The period start (R205) -/

/-- A latched trip of action 3 takes the region to ASC on the low sides (R205). -/
def State.tripToAsc (s : State) (x : Side) : State :=
  if (sideBridges x).any (fun b => (s.brg b).asc) ∧ (s.tr x).mode ≠ .off then
    (s.trEnter x .asc).selectSide x .lowOn
  else s

/-- The end of CATCH by lock or standstill (R224). -/
def State.endCatch (s : State) (x : Side) : State :=
  let t := s.tr x
  if t.mode ≠ .catch then s
  else if t.locked then s.trEnter x t.target
  else if t.still then
    if driveMode t.target then
      if F.pos (s.comP (sideReg x) 0x11) then (s.modTr x (fun y => { y with start := true, blend := 0 })).trEnter x t.target
      else (s.trEnter x .free).raiseCls evModeRefused .note (regCode (sideReg x)) 0xF 0xFF (wd (trCode t.target)) 10 t.tag
    else s.trEnter x t.target
  else s

/-- CATCH follows a decision of a rotor loss one period later (R205, R221). -/
def State.catchDue (s : State) (x : Side) : State :=
  let t := s.tr x
  if t.decide ∨ t.toCatch = 0 then s
  else if t.toCatch = 1 then s.enterCatch x t.target t.tag
  else s.modTr x (fun y => { y with toCatch := y.toCatch - 1 })

/-- A region under the `SAFE_EN` block is FREE (R206). -/
def State.blockFree (s : State) (x : Side) : State :=
  let t := s.tr x
  if s.sto.block ∧ t.mode ≠ .off ∧ t.mode ≠ .free ∧ !(s.isSafe (sideReg x) || s.power.devSafe) then
    (s.trEnter x .free).raiseReg evTorqueBlocked (sideReg x) 0 0
  else s

/-- A traction region's moves at its period start. In the safe state only the decision, the answer to isolated bridges and trips act. -/
def State.trPeriod (s : State) (x : Side) : State :=
  let safe := s.isSafe (sideReg x) || s.power.devSafe
  let s1 := if safe then s else (s.catchDue x).endCatch x
  let s2 := (((s1.trSettle x 1).phaseIsolated x).tripToAsc x).blockFree x
  let s3 := each (sideBridges x) State.releaseAsc s2
  (s3.setRun (obsLaw x) .running).pairPeriod x

/-! ### Commands (R204, R205) -/

def trModeOf : Nat → Option TrMode
  | 0 => some .off | 1 => some .free | 2 => some .hold | 3 => some .torque | 4 => some .speed | 5 => some .asc | 6 => some .catch
  | _ => none

/-- A mode that produces torque or seeks it: refused under the block and against DISCHARGE. -/
def needsGates (m : TrMode) : Bool := driveMode m || decide (m = .catch)

/-- A region or one of its clusters is halted so that the command is refused (rank 6 of R453). -/
def State.trDebug (s : State) (x : Side) (m : TrMode) : Bool :=
  let r := sideReg x
  let now := (s.tr x).mode
  let idleNow := decide (now = .off) || decide (now = .free)
  let idleNext := decide (m = .off) || decide (m = .free)
  s.regHalt r ||
  (!idleNext && (sideBridges x).any (fun b => decide ((s.brg b).arm = .halted))) ||
  (idleNow && !idleNext && (regLaws r).any (fun l => (s.law l).halted))

/-- The rules of R204 itself. -/
def State.trRule (s : State) (x : Side) (m : TrMode) : Bool :=
  let now := (s.tr x).mode
  (decide (now = .off) && decide (m ≠ .free) && decide (m ≠ .off)) ||
  (decide (m = .catch) && driveMode now) ||
  ((needsGates m || decide (m = .asc)) && !(sideBridges x).all s.isArmed) ||
  (decide (m = .speed) && decide (s.parN (lawId (speedLaw x) 0x20) ≠ 0))

/-- The rank that refuses a traction mode command, 0 for none (R204, R452 to R454). -/
def State.trRefusal (s : State) (x : Side) (m : TrMode) : Nat :=
  firstRank [s.safeRank (sideReg x), rank 3 (needsGates m && s.sto.block), rank 6 (s.trDebug x m),
    rank 12 (s.testHolds (sideReg x)), rank 10 (s.trRule x m),
    rank 11 (needsGates m && decide (s.span.mode = .discharge))]

/-- The angle is known for R205 (R218): an encoder in use since the last run, or a confident observer. -/
def State.angleKnown (s : State) (x : Side) : Bool :=
  (decide ((s.tr x).src = .encoder) && !(s.tr x).encOut && decide (s.parN (lawId (obsLaw x) 0x04) ≠ 0)) ||
  F.le (s.comP (sideReg x) 0x03) (s.tr x).conf

/-- An accepted command moves the region (R205). -/
def State.trMove (s : State) (x : Side) (m : TrMode) (tag : Half) : State :=
  let t := s.tr x
  match m with
  | .off => if t.mode = .off then s else s.trEnter x .off
  | .free => if t.mode = .free ∧ t.toCatch = 0 then s else s.trEnter x .free
  | .asc => if t.mode = .asc ∧ t.toCatch = 0 then s else s.trEnter x .asc
  | .catch => if t.mode = .catch then s else s.enterCatch x t.mode tag
  | .hold | .torque | .speed =>
    if t.toCatch ≠ 0 ∨ t.mode = .catch then s.modTr x (fun y => { y with target := m, tag := tag })
    else if t.mode = .free then (if s.angleKnown x then s.trEnter x m else s.enterCatch x m tag)
    else if t.mode = .asc then s.enterCatch x m tag
    else if t.mode = m then s
    else (s.trEnter x m).modTr x (fun y => { y with start := t.start, blend := t.blend, nLock := t.nLock, nLost := t.nLost })

/-- SET_MODE of a traction region. A rotor-loss decision of the same period start is handled first (R205). -/
def State.trCommand (s0 : State) (x : Side) (m : TrMode) (tag : Half) : State :=
  let s := s0.trSettle x 2
  let k := s.trRefusal x m
  if k ≠ 0 then
    s.raiseCls evModeRefused .note (regCode (sideReg x)) 0xF 0xFF (wd (trCode m)) (wd k) tag
  else s.trMove x m tag

/-! ### Rows of their own -/

/-- ROTOR_LOST (R221): the loss count is full; the decision falls at the next period start and CATCH one period later. -/
def doRotorLost (x : Side) (s : State) : State :=
  let t := s.tr x
  let r := sideReg x
  if driveMode t.mode ∧ s.parN (comId r 0x05) ≤ t.nLost ∧ !(s.isSafe r || s.power.devSafe) then
    (s.raiseReg evRotorLost r t.conf (s.comP r 0x04)).modTr x (fun y => { y with
      decide := true, toCatch := 1, target := y.mode, nLost := 0, start := false, blend := 0 })
  else s

def execRotorLost (x : Side) (s : State) : Host.Outcome State Fault Refusal := whenLive s (doRotorLost x)

/-- ROTOR_CAUGHT (R224): lock; the target follows at the next period start. -/
def doRotorCaught (x : Side) (s : State) : State :=
  let t := s.tr x
  let r := sideReg x
  if t.mode = .catch ∧ s.parN (comId r 0x06) ≤ t.nLock ∧ !t.locked ∧ !t.still then
    (s.raiseReg evRotorCaught r t.conf (s.comP r 0x03)).modTr x (fun y => { y with locked := true })
  else s

def execRotorCaught (x : Side) (s : State) : Host.Outcome State Fault Refusal := whenLive s (doRotorCaught x)

/-- CATCH_FAILED (R224): `CATCH_TIMEOUT` has passed without lock or standstill. -/
def doCatchFailed (x : Side) (s : State) : State :=
  let t := s.tr x
  let r := sideReg x
  if t.mode = .catch ∧ secTicks (s.comP r 0x07) ≤ t.catchT ∧ !t.locked ∧ !t.still then
    (s.raiseReg evCatchFailed r (ticksSec t.catchT) (s.comP r 0x07)).safeBy r evCatchFailed
  else s

def execCatchFailed (x : Side) (s : State) : Host.Outcome State Fault Refusal := whenLive s (doCatchFailed x)

/-- The reaction class of `FLUX_REACT` or `FE_REACT` (R97, R226): 2 is REGION-SAFE. -/
def reactClass (n : Nat) : RClass := if n = 2 then .regionSafe else .note

/-- A flux event and its reaction (R226). -/
def State.fluxEvent (s : State) (x : Side) (c : Cause) : State :=
  let r := sideReg x
  let cls := reactClass (s.parN (comId r 0x0D))
  let s1 := s.raiseCls c cls (regCode r) 0xF 0xFF (s.tr x).psi (wd (clsRank cls)) 0
  if cls = .regionSafe then s1.safeBy r c else s1

/-- FLUX_LOW (R226): below `FLUX_LO` times `PSI_PM` for `FLUX_TIME`, once. -/
def doFluxLow (x : Side) (s : State) : State :=
  let t := s.tr x
  if secTicks (s.comP (sideReg x) 0x0C) ≤ t.fluxLoT ∧ !t.loTold ∧ s.parN (comId (sideReg x) 0x0D) ≠ 0 then
    (s.modTr x (fun y => { y with loTold := true })).fluxEvent x evFluxLow
  else s

def execFluxLow (x : Side) (s : State) : Host.Outcome State Fault Refusal := whenLive s (doFluxLow x)

/-- FLUX_HIGH (R226). -/
def doFluxHigh (x : Side) (s : State) : State :=
  let t := s.tr x
  if secTicks (s.comP (sideReg x) 0x0C) ≤ t.fluxHiT ∧ !t.hiTold ∧ s.parN (comId (sideReg x) 0x0D) ≠ 0 then
    (s.modTr x (fun y => { y with hiTold := true })).fluxEvent x evFluxHigh
  else s

def execFluxHigh (x : Side) (s : State) : Host.Outcome State Fault Refusal := whenLive s (doFluxHigh x)

/-- The `SAFE_EN` block begins in a traction region (R206): torque modes end in FREE; the safe state keeps its choice. -/
def State.blockTraction (s : State) (x : Side) : State := s.blockFree x

end Sys2Proof.Machine
end

