-- ==== Sys2Proof/Machine/Sto.lean ====
section
/-! DEFINITION. Torque-off through the `SAFE_EN` lands (R309 to R313). -/

namespace Sys2Proof.Machine

/-- Every bridge that the block acts on takes the output its precedence now demands (R144, R309). -/
def State.driveBlocked (s : State) : State := each (allBridges.filter blockable) (fun s b => s.drive b) s

/-- The level of a land, and the latch's memory of both lands low (R311). -/
def State.landLevel (s : State) (land : Fin 2) (v : Bool) : State :=
  s.modSto (fun t =>
    let t1 := if land.val = 0 then { t with a := v } else { t with b := v }
    { t1 with bothLow := t1.latch && (t1.bothLow || (!t1.a && !t1.b)) })

/-- The block begins (R206, R238, R308, R311, R313): gates off, modes left, a brake test aborted, and the brake applied at once or after
`BRK_STO_DELAY` with `BRK_ON_STO` = 1. -/
def State.beginBlock (s : State) : State :=
  let s1 := ((s.modSto (fun t => { t with block := true })).driveBlocked).raise evSafeEnBlock 0 0xF 0xFF 0 0
  let s2 := (((s1.abortBrakeTest).blockTraction .a).blockTraction .b).blockSpan
  if s2.parOn (lawId 15 0x2C) then
    (if F.isZero (s2.lawP 15 0x2D) then s2.brakeOff 0 else s2.modSto (fun t => { t with delay := true }))
  else s2

/-- SAFE_EN_FALL (R309, R311). -/
def doSafeEnFall (land : Fin 2) (s : State) : State :=
  let s1 := s.landLevel land false
  if s.sto.block then s1 else s1.beginBlock

def execSafeEnFall (land : Fin 2) (s : State) : Host.Outcome State Fault Refusal := whenLive s (doSafeEnFall land)

/-- SAFE_EN_RISE (R311): with both lands high again after both were low, the latch clears. -/
def doSafeEnRise (land : Fin 2) (s : State) : State :=
  (s.landLevel land true).modSto (fun t =>
    if t.latch && t.bothLow && t.a && t.b then { t with latch := false, bothLow := false } else t)

def execSafeEnRise (land : Fin 2) (s : State) : Host.Outcome State Fault Refusal := whenLive s (doSafeEnRise land)

/-- SAFE_EN_RELEASE (R311): both lands have been high for 1 ms; the regions stay as they are (R310). -/
def doSafeEnRelease (s : State) : State :=
  if s.sto.block && s.sto.a && s.sto.b && !s.sto.latch then
    ((s.modSto (fun t => { t with block := false, delay := false })).driveBlocked).raise evSafeEnRelease 0 0xF 0xFF 0 0
  else s

def execSafeEnRelease (s : State) : Host.Outcome State Fault Refusal := whenLive s doSafeEnRelease

/-- SAFE_EN_DISCREPANCY (R311): the lands have differed for longer than `STO_DISC_TIME`, and the block latches. -/
def doSafeEnDiscrepancy (s : State) : State :=
  if s.sto.a ≠ s.sto.b ∧ !s.sto.latch then
    (s.modSto (fun t => { t with latch := true, bothLow := false })).raise evSafeEnDiscrepancy 0 0xF 0xFF 0 0
  else s

def execSafeEnDiscrepancy (s : State) : Host.Outcome State Fault Refusal := whenLive s doSafeEnDiscrepancy

/-- BRK_STO_DELAY (R313): the delay has passed and the block still holds. -/
def doBrkStoDelay (s : State) : State :=
  if s.sto.block && s.sto.delay && s.parOn (lawId 15 0x2C) then (s.modSto (fun t => { t with delay := false })).brakeOff 0
  else s

def execBrkStoDelay (s : State) : Host.Outcome State Fault Refusal := whenLive s doBrkStoDelay

/-- A mismatch between a blocking net and the lands is a cluster fault of SUP, hence DEVICE-SAFE (R312). -/
def State.stoFault (s : State) : State := (s.raise evStoPathFault 0 5 0xFF 0 0).safeBy .sup evStoPathFault

end Sys2Proof.Machine
end

