-- ==== Sys2Proof/Machine/Supply.lean ====
section
/-! DEFINITION. Supplies, gate power, start and package reset (R457 to R468, R477, R38, R55, R496). -/

namespace Sys2Proof.Machine

/-! ### Package reset (R457, R468) -/

/-- Everything at its reset value, waiting for T0; the cause is kept for RESET_CAUSE. The queue of commands and the count of free
values are the model's own and stay. -/
def State.packageReset (s : State) (cause : Nat) : State :=
  { State.reset with
    power := { cause := BitVec.ofNat 2 cause }, pending := s.pending, free := s.free }

/-- VSUP_RESET: `VSUP` below 6.0 V for 2 us (R459). -/
def execVsupReset (s : State) : Host.Outcome State Fault Refusal := doneAll s (s.packageReset 3)

/-- A low level on `RESET_N` in ticks: ignored below 200 ns, a reset from 1 us, and between them as the free choice says (R464). -/
def doResetN (low : Word) (s : State) : State :=
  if low.toNat < 80 then s
  else if 400 ≤ low.toNat then s.packageReset 2
  else if s.drawBit.1 then s.drawBit.2.packageReset 2 else s.drawBit.2

/-- RESET_N_ASSERT (R457). In reset already, nothing changes but the cause of the start to come. -/
def execResetNAssert (low : Word) (s : State) : Host.Outcome State Fault Refusal := doneAll s (doResetN low s)

/-! ### Start (R464, R465) -/

/-- The readings of `VSUP`, `VM` and the junction sensors at T0: whatever they are then (log 36). -/
def State.readings (s : State) : State :=
  let a := s.draw
  let b := a.2.draw
  let c := b.2.draw
  let d := c.2.draw
  let e := d.2.drawBit
  e.2.modPower (fun p => { p with vsupNow := a.1, vmNow := b.1, tjC := c.1, tjA := d.1, vmOk := e.1 })

/-- T0: the straps are sampled, device time is 0, T0 is tide boundary 0, the cause is recorded, the regions start 250 us apart in code
order (R33), and the soft-start begins. -/
def State.start (s0 : State) (straps : Straps) (cause : Nat) : State :=
  let s := s0.readings
  let s1 := { s with
    tim := { refOk := true },
    regions := Vector.ofFn (fun k => { s.regions[k] with startAt := BitVec.ofNat 64 (100000 * k.val) }),
    power := { s.power with
      phase := .starting, straps := straps, startStep := 1, cause := BitVec.ofNat 2 cause, vsupOk := true, vioOk := true,
      vrefOk := true, gpStopped := false } }
  s1.raisePkg evResetCause (wd cause) 0

/-- POWER_ON (R464): the start after power-on, or after a fall of `VSUP` below its reset level. -/
def execPowerOn (straps : Straps) (s : State) : Host.Outcome State Fault Refusal :=
  done s (if s.power.phase = .inReset then s.start straps (if s.power.cause = 3 then 3 else 1) else s)

/-- RESET_N_RELEASE (R464): the start after `RESET_N`. -/
def execResetNRelease (straps : Straps) (s : State) : Host.Outcome State Fault Refusal :=
  done s (if s.power.phase = .inReset ∧ s.power.cause = 2 then s.start straps 2 else s)

/-- The reaction class of a cluster's level (R21, R30). -/
def cluClass (r : RegionId) (clu : Nat) : RClass :=
  match cluOf r clu with
  | some (.brg _) => .isolate
  | some (.can _) => .isolate
  | some .check => .isolate
  | some .hawser => .handover
  | _ => .regionSafe

/-- A cluster's start check, or that of a gate side, completes (R466). A cluster that has not started yet has none to complete (R33). A gate
side that is powered and not ready has failed, and isolates its bridge. -/
def doStartCheck (r : RegionId) (clu : Nat) (gs : Option GsId) (ok : Bool) (s : State) : State :=
  match gs with
  | some g =>
    if ok || (s.gate g).ready || !s.gsPowered g then s
    else
      let b := (gsBridge g).1
      (s.modPower (fun p => { p with gsFailed := p.gsFailed ||| BitVec.ofNat 35 (2 ^ g.val) })).raiseCls evStartCheckFail .isolate
        (regCode (brgReg b)) (brgClu b) (g.val + 1) 0 0 0 |>.toIso b evStartCheckFail.num false
  | none =>
    if clu = 15 ∨ (cluOf r clu).isNone ∨ !s.cluUp r clu then s
    else
      let s1 := s.modPower (fun p => { p with
        checked := p.checked.set (rIx r) (p.checked[rIx r] ||| BitVec.ofNat 16 (2 ^ clu)) })
      let s2 := match cluOf r clu with
        | some (.brg b) => if ok && (brgAct b).isSome then s1.modBrg b (fun x => { x with bst := !s.cpFault }) else s1
        | _ => s1
      if ok then s2
      else (s2.raiseCls evStartCheckFail (cluClass r clu) (regCode r) clu 0xFF 0 0 0).cluReact r clu
        (codeOf evStartCheckFail.lvl (regCode r) evStartCheckFail.num)

/-- START_CHECK (R466). -/
def execStartCheck (r : RegionId) (clu : BitVec 4) (gs : Option GsId) (ok : Bool) (s : State) :
    Host.Outcome State Fault Refusal :=
  whenLive s (fun s => (doStartCheck r clu.toNat gs ok s).stepUp)

/-- At the first tide boundary after the checks the device reports READY, and TESTMODE_ENTERED with `TESTMODE` high at T0
(R465, R477). -/
def State.becomeReady (s : State) : State :=
  if s.power.phase = .starting ∧ s.checksDone ∧ s.gatesDone then
    let test := s.power.straps.testmode
    let s1 := (s.modPower (fun p => { p with
      phase := .ready, startStep := 10, startTime := BitVec.ofNat 32 (s.tim.devTime.toNat / 400), test := test,
      okOut := !p.devSafe && !test })).raisePkg evReady 0 0
    if test then s1.raisePkg evTestmodeEntered 0 0 else s1
  else s

/-! ### `VSUP`, `VIO`, reference, `VM` (R459, R460) -/

/-- `VSUP` as it stands. -/
def State.vsupIs (s : State) (v : F32) : State := s.modPower (fun p => { p with vsupNow := v })

/-- VSUP_WARN: below `VSUP_WARN_LEVEL` brownout hold begins (R459, R460). -/
def doVsupWarn (v : F32) (s : State) : State :=
  let s1 := s.vsupIs v
  if !F.lt v (s.lawP 15 0x40) then s1
  else
    let s2 := s1.modPower (fun p => { p with vsupOk := false, brownout := true })
    if s.power.brownout then s2 else s2.raisePkg evVsupWarn v (s.lawP 15 0x40)

/-- VSUP_WARN (R459). -/
def execVsupWarn (v : F32) (s : State) : Host.Outcome State Fault Refusal := whenLive s (doVsupWarn v)

/-- VSUP_RESUMED: at or above `VSUP_WARN_LEVEL` brownout hold ends (R459). -/
def doVsupResumed (v : F32) (s : State) : State :=
  let s1 := s.vsupIs v
  if !F.le (s.lawP 15 0x40) v then s1
  else
    let s2 := s1.modPower (fun p => { p with vsupOk := true, brownout := false })
    if s.power.brownout then s2.raisePkg evVsupResumed v (s.lawP 15 0x40) else s2

/-- VSUP_RESUMED (R459). -/
def execVsupResumed (v : F32) (s : State) : Host.Outcome State Fault Refusal := whenLive s (doVsupResumed v)

/-- The limit that a value outside a range breaks. -/
def broken (v lo hi : F32) : F32 := if F.lt v lo then lo else hi

/-- A package cause that takes the device to DEVICE-SAFE (R39). -/
def State.pkgSafe (s : State) (c : Cause) (d0 d1 : Word) : State := (s.raisePkg c d0 d1).deviceSafe (codeOf c.lvl 7 c.num)

/-- A value lies outside a range. -/
def outside (v lo hi : F32) : Bool := F.lt v lo || F.lt hi v

/-- VIO_FAULT: `VIO` outside 3.0 V to 3.6 V (R459). -/
def doVioFault (v : F32) (s : State) : State :=
  if outside v (F.ofNat 3) (F.dec 36 (-1)) then
    (s.modPower (fun p => { p with vioOk := false })).pkgSafe evVioFault v (broken v (F.ofNat 3) (F.dec 36 (-1)))
  else s

/-- VIO_FAULT (R459). -/
def execVioFault (v : F32) (s : State) : Host.Outcome State Fault Refusal := whenLive s (doVioFault v)

/-- VREF_FAULT: the reference outside 4.096 V within 1 % (R459). -/
def doVrefFault (v : F32) (s : State) : State :=
  if outside v (F.dec 405504 (-5)) (F.dec 413696 (-5)) then
    (s.modPower (fun p => { p with vrefOk := false })).pkgSafe evVrefFault v (broken v (F.dec 405504 (-5)) (F.dec 413696 (-5)))
  else s

/-- VREF_FAULT (R459). -/
def execVrefFault (v : F32) (s : State) : Host.Outcome State Fault Refusal := whenLive s (doVrefFault v)

/-- Any actuator is not OFF. -/
def State.anyActOn (s : State) : Bool := allActs.any (fun a => decide ((s.actu a).mode ≠ .off))

/-- `VM` as it stands, and whether it lies between its levels (R479). -/
def State.vmIs (s : State) (v : F32) : State :=
  s.modPower (fun p => { p with vmNow := v, vmOk := !outside v (s.lawP 15 0x41) (s.lawP 15 0x42) })

/-- VM_UV (R459): REGION-SAFE of ACT below `VM_UV_LEVEL` while an actuator is not OFF. -/
def doVmUv (v : F32) (s : State) : State :=
  let s1 := s.vmIs v
  if s.anyActOn && F.lt v (s.lawP 15 0x41) then (s1.raiseReg evVmUv .act v (s.lawP 15 0x41)).safeBy .act evVmUv else s1

/-- VM_UV (R459). -/
def execVmUv (v : F32) (s : State) : Host.Outcome State Fault Refusal := whenLive s (doVmUv v)

/-- VM_OV (R459): REGION-SAFE of ACT above `VM_OV_LEVEL`. -/
def doVmOv (v : F32) (s : State) : State :=
  let s1 := s.vmIs v
  if F.lt (s.lawP 15 0x42) v then (s1.raiseReg evVmOv .act v (s.lawP 15 0x42)).safeBy .act evVmOv else s1

/-- VM_OV (R459). -/
def execVmOv (v : F32) (s : State) : Host.Outcome State Fault Refusal := whenLive s (doVmOv v)

/-! ### Dies and reference (R38, R55, R496) -/

def deg160 : F32 := F.ofNat 160

/-- DIE_A_LOST (R38, R496): ACT to REGION-SAFE; the die's pull-downs hold the actuator gates low. -/
def doDieALost (t : F32) (s : State) : State :=
  let s1 := each (allActs.flatMap actBridges) State.drive (s.modPower (fun p => { p with tjA := t, dieALost := true }))
  (s1.raiseReg evDieALost .act t deg160).safeBy .act evDieALost

/-- DIE_A_LOST (R38, R496). -/
def execDieALost (t : F32) (s : State) : Host.Outcome State Fault Refusal := whenLive s (doDieALost t)

/-- DIE_C_FAULT (R38, R496): a package fault. -/
def execDieCFault (t : F32) (s : State) : Host.Outcome State Fault Refusal :=
  whenLive s (fun s => (s.modPower (fun p => { p with tjC := t })).pkgSafe evDieCFault t deg160)

/-- REF_LOST (R55): DEVICE-SAFE; the islands run on at their last alignment. -/
def execRefLost (s : State) : Host.Outcome State Fault Refusal :=
  whenLive s (fun s => (s.modTim (fun t => { t with refOk := false, freeRun := true })).pkgSafe evRefLost 0 0)

/-! ### Gate-power regulator (R461, R462) -/

/-- `V_GP_REF` times a fraction. -/
def State.gpTimes (s : State) (x : F32) : F32 := F.mul x (s.lawP 15 0x00)

/-- The limit that a rail fault breaks (R462, R461). -/
def State.gpLimit (s : State) (k : GpFault) (v : F32) : F32 :=
  match k with
  | .notReady => s.gpTimes (s.lawP 15 0x43)
  | .outOfWindow => broken v (s.gpTimes (s.lawP 15 0x43)) (s.gpTimes (s.lawP 15 0x44))
  | .overvoltage => s.gpTimes (F.dec 125 (-2))

/-- Device time at which the soft-start of the rail ends without readiness: it begins as SUP cluster 0x7 starts, and has `GP_SOFT_TIME` and 1 ms
(R33, R462, R465). -/
def State.softEnd (s : State) : Nat := (s.reg .sup).startAt.toNat + 28000 + secTicks (s.lawP 15 0x46) + 400000

/-- The fault holds for a rail at v, in the part of the stage's life in which it can arise. Device time stands at the last timing mark, up to
4,000 ticks ago. -/
def State.gpCan (s : State) (k : GpFault) (v : F32) : Bool :=
  let lo := s.gpTimes (s.lawP 15 0x43)
  match k with
  | .notReady => !s.power.gpReady && F.lt v lo && decide (s.softEnd ≤ s.tim.devTime.toNat + 4000)
  | .outOfWindow => s.power.gpReady && outside v lo (s.gpTimes (s.lawP 15 0x44))
  | .overvoltage => F.lt (s.gpTimes (F.dec 125 (-2))) v

/-- Every bridge follows the supply of its gate sides (R163). -/
def State.driveAll (s : State) : State := each allBridges State.drive s

/-- GP_RAIL_FAULT stops the regulator, so the gates fall to VN and no gate side is supplied; a fault of SUP cluster 0x7, hence
DEVICE-SAFE (R461, R462). -/
def doGpRailFault (k : GpFault) (v : F32) (s : State) : State :=
  if s.power.gpStopped || !s.gpCan k v then s
  else
    let s1 := s.modPower (fun p => { p with gpStopped := true, gpReady := false, gpNow := v, gpr := .none, gpLocked := false })
    let s2 := each (List.range 35) (fun s g =>
      s.modGate (Fin.ofNat 35 g) (fun x => { x with powered := false, ready := false })) s1
    ((s2.driveAll).raise evGpRailFault 0 7 0xFF v (s.gpLimit k v)).safeBy .sup evGpRailFault

/-- GP_RAIL_FAULT (R462). -/
def execGpRailFault (k : GpFault) (v : F32) (s : State) : Host.Outcome State Fault Refusal := whenLive s (doGpRailFault k v)

/-- The rail reaches `GP_V_MIN` times `V_GP_REF`, and the gate sides are powered in turn from now on (R462, R465). -/
def doGpRailReady (v : F32) (s : State) : State :=
  if s.power.gpStopped || s.power.gpReady || !F.le (s.gpTimes (s.lawP 15 0x43)) v then s
  else
    each (List.range 35) (fun s g => s.modGate (Fin.ofNat 35 g) (fun x => { x with powered := !x.lost }))
      (s.modPower (fun p => { p with
        gpReady := true, gpNow := v, railAt := s.tim.devTime })) |>.driveAll.stepUp

/-- GP_RAIL_READY (R462). -/
def execGpRailReady (v : F32) (s : State) : Host.Outcome State Fault Refusal := whenLive s (doGpRailReady v)

/-- A half-cycle ends and the other phase turns on; a push-pull cycle that starts without an `EXTCLK_IN` edge counts, and after two
of them the stage runs at `GP_FSW` (R461). -/
def doGpHalfCycle (edge : Bool) (s : State) : State :=
  if s.power.gpStopped then s
  else
    let sync := s.parOn (lawId 15 0x48)
    s.modPower (fun p =>
      let seen := edge || p.gpEdge
      let p1 := match p.gprNext with
        | .gb => { p with gpr := .gb, gprNext := .ga }
        | _ => { p with gpr := .ga, gprNext := .gb }
      if p.gprNext = .gb then p1
      else if !sync then { p1 with gpLocked := false, gpMissed := 0, gpEdge := false }
      else if seen then { p1 with gpLocked := true, gpMissed := 0, gpEdge := false }
      else { p1 with gpMissed := p.gpMissed + 1, gpLocked := p.gpLocked && decide (p.gpMissed + 1 < 2) })

/-- GP_HALF_CYCLE (R461). -/
def execGpHalfCycle (edge : Bool) (s : State) : Host.Outcome State Fault Refusal := whenLive s (doGpHalfCycle edge)

/-- GP_CURRENT_LIMIT: the present half-cycle ends at once (R461). -/
def execGpCurrentLimit (s : State) : Host.Outcome State Fault Refusal :=
  whenLive s (fun s => s.modPower (fun p => { p with gpr := .none }))

/-! ### JTAG (R44, R478) -/

/-- Bypass, identification and sample are accepted always, the outputs driven by boundary scan only in the test state; an
instruction that addresses trim is refused with TRIM_WRITE_REFUSED (R44, R478). Another instruction outside the test state is not
accepted, and the last accepted one stays. -/
def doJtag (op : JtagOp) (pins : List Bool) (s : State) : State :=
  match op with
  | .trim => s.raisePkg evTrimWriteRefused 0 0
  | .extest => if s.power.test then s.modPower (fun p => { p with jtag := .extest, scan := pins }) else s
  | .bypass => s.modPower (fun p => { p with jtag := .bypass, scan := [] })
  | .idcode => s.modPower (fun p => { p with jtag := .idcode, scan := [] })
  | .sample => s.modPower (fun p => { p with jtag := .sample, scan := [] })

/-- JTAG_INSTRUCTION (R44). -/
def execJtagInstruction (op : JtagOp) (pins : List Bool) (s : State) : Host.Outcome State Fault Refusal :=
  whenLive s (doJtag op pins)

end Sys2Proof.Machine
end

