-- ==== Sys2Proof/Machine/Triad.lean ====
section
/-! DEFINITION. Darning (R122 to R126), wash rotation (R127, R474 to R476) and the commanded self-test (R469 to R473). -/

namespace Sys2Proof.Machine

/-! ### Darning -/

/-- The parameter copy: both banks of the source (R122). -/
def Law.copyBanks (x : Law) (target source : RepId) : Law :=
  x.modRep target (fun r => { r with bank := (x.rep source).bank, shadow := (x.rep source).shadow })

/-- The run-state copy (R122). -/
def Law.copyRun (x : Law) (target source : RepId) : Law := x.modRep target (fun r => { r with run := (x.rep source).run })

/-- DARNING_START: the parameter copy is made from the lower-numbered of the two ACTIVE replicas, in a gap between runs (R122, R123). -/
def doDarningStart (l : LawId) (s : State) : State :=
  let x := s.law l
  if x.flight.isSome then s
  else
    match x.darnDue, x.darn, x.active with
    | some k, none, src :: _ :: _ =>
      if (x.rep k).st = .darning then
        s.modLaw l (fun x => { x.copyBanks k src with darnDue := none, darn := some { target := k, source := src } })
      else s.modLaw l (fun x => { x with darnDue := none })
    | _, _, _ => s

/-- DARNING_START (R122). -/
def execDarningStart (l : LawId) (s : State) : Host.Outcome State Fault Refusal := whenLive s (doDarningStart l)

/-- The wash slot of a replica, if it is in one, ends with its darning (R474). -/
def State.washClose (s : State) (l : LawId) (k : RepId) : State :=
  if s.wash.inSlot && decide (washLaw s.wash.pos = l) && decide (washRep s.wash.pos = k) then s.washEnd.washNext else s

/-- A replica goes to RETIRED (R125). -/
def State.retire (s : State) (l : LawId) (k : RepId) : State :=
  (s.modLaw l (fun x => { x.modRep k (fun r => { r with st := .retired, joins := false }) with darn := none, darnDue := none })).raiseLaw
    evReplicaRetired l k.val 0 0

/-- The check of a darning (R122): source and target fold every word copied, the target what it reads back of its own storage. -/
def Law.darnMatch (x : Law) (l : LawId) (d : Darn) (back : Readback) : Bool :=
  sameSign ((x.rep d.source).words l) ((x.rep d.target).words l) none back

/-- The run-state copy and the check of a darning, in a gap between runs (R122 to R124): a commit meanwhile starts the parameter copy again; a
match makes the target ACTIVE at the next S; a first failure repeats the darning from the parameter copy, a second one retires the target. -/
def doDarnDone (l : LawId) (back : Readback) (s : State) : State :=
  match (s.law l).darn with
  | none => s
  | some d =>
    if (s.law l).flight.isSome then s
    else if d.restart then
      s.modLaw l (fun x => { x.copyBanks d.target d.source with darn := some { d with restart := false, fails := 0 } })
    else
      let s1 := s.modLaw l (fun x => x.copyRun d.target d.source)
      if (s1.law l).darnMatch l d back then
        ((s1.modLaw l (fun x => { x.modRep d.target (fun r => { r with joins := true }) with
          darn := none, darnCount := satInc x.darnCount })).raiseLaw evDarnDone l d.target.val 0 0).washClose l d.target
      else if d.fails = 0 then s1.modLaw l (fun x => { x.copyBanks d.target d.source with darn := some { d with fails := 1 } })
      else ((s1.raiseLaw evDarnFailed l d.target.val 0 0).retire l d.target).washClose l d.target

/-- DARN_DONE (R124). -/
def execDarnDone (l : LawId) (back : Readback) (s : State) : Host.Outcome State Fault Refusal := whenLive s (doDarnDone l back)

/-! ### Ring 13 records (R472) -/

/-- The expected logic signature of a unit kind, and that of its memory (R473). -/
def sigLogic (kind : Nat) : Option Word :=
  match kind with
  | 1 => some 0x7C3A19E5 | 2 => some 0x41D70A3C | 3 => some 0x9E1264B0 | 4 => some 0x36AFC218 | 5 => some 0xD4057E91
  | 6 => some 0x58C12B7F | 7 => some 0x1B6D93C4 | 8 => some 0xE2705D1A | 9 => some 0x8F4B0E67 | 12 => some 0x3A90F6DE
  | _ => none
def sigMem (kind : Nat) : Option Word :=
  match kind with
  | 1 => some 0x2F90D14B | 4 => some 0x0B57E3D2 | 6 => some 0xA3E84406 | 8 => some 0x6C19B8F3 | 10 => some 0x5B1E0C77
  | 11 => some 0xC8D271A5 | 12 => some 0x74E12C09 | _ => none

/-- The logic test of a unit fails. -/
def logicBad (u : UnitTest) : Bool :=
  match sigLogic u.kind.toNat with
  | some v => decide (u.logic ≠ v)
  | none => false

/-- March C− finds a failing word, or its signature is not the expected one. -/
def memBad (u : UnitTest) : Bool :=
  decide (u.failAddr ≠ 0xFFFF) ||
  (match sigMem u.kind.toNat with
   | some v => decide (u.mem ≠ v)
   | none => false)

/-- A unit passes both of its tests (R473). -/
def unitOk (u : UnitTest) : Bool := !logicBad u && !memBad u

/-- `SIG` and `SIG_EXP` of a record, which has one field each for two tests: those of the test that failed, the logic test first, and of a unit
that passed those of its logic test, or of its memory where it has no other (DESIGN CHOICE, log 101). -/
def unitSig (u : UnitTest) : Word × Word :=
  match sigLogic u.kind.toNat, logicBad u || !memBad u with
  | some v, true => (u.logic, v)
  | _, _ => (u.mem, (sigMem u.kind.toNat).getD 0)

/-- The record of one unit. -/
def testEntry (s : State) (res : Nat) (tag : Half) (scope : Word) (u : UnitTest) : Entry :=
  packEntry [(0, 1, 0x84), (1, 1, res), (2, 2, tag.toNat), (4, 4, s.tim.tideIndex.toNat), (8, 4, scope.toNat), (12, 1, u.kind.toNat),
    (13, 1, u.unit.toNat), (14, 2, u.failAddr.toNat), (16, 4, (unitSig u).1.toNat), (20, 4, (unitSig u).2.toNat), (24, 4, u.micros.toNat)]

/-- Write it; `ST.LAST_SIG` and `ST.LAST_RESULT` show it. -/
def State.testRecord (s : State) (res : Nat) (tag : Half) (scope : Word) (u : UnitTest) : State :=
  (s.writeRec 13 (testEntry s res tag scope u)).modSt (fun x => { x with lastSig := (unitSig u).1, lastResult := BitVec.ofNat 2 res })

/-- The unit of a record that tested none: a refused or abandoned test (log 22). -/
def noUnit : UnitTest := { kind := 0, unit := 0xFF, logic := 0, mem := 0, failAddr := 0xFFFF, micros := 0 }

/-- Bytes 8 to 11 of a SELFTEST record as a word. -/
def scopeWord (kind region cluster rep : Byte) : Word := rep ++ cluster ++ region ++ kind

/-- A claim of R367 stands on a bank holder, as bits [15:8] of its IDs. -/
def State.claimed (s : State) (h : Nat) : Bool := s.txn.slots.toList.any (fun t => t.staged.any (fun v => v.1 / 256 = h))

/-! ### Wash rotation -/

/-- A triad that wash rotation does not pass over (R127): it runs, is triplex and is not halted. -/
def State.washable (s : State) (p : BitVec 6) : Bool :=
  let x := s.law (washLaw p)
  s.runs (washLaw p) && x.triplex && !x.halted

/-- A triad that has no replica in RETIRED. -/
def Law.unretired (x : Law) : Bool := allReps.all (fun k => Decidable.decide ((x.rep k).st ≠ .retired))

/-- Move past the positions that R127 excludes, up to a whole rotation, at a run end of engine l. A triad of which the vote of that run has made
a replica odd is waited for until it is triplex again. -/
def State.washSkip (l : LawId) : Nat → State → State
  | 0, s => s
  | n + 1, s =>
    let m := washLaw s.wash.pos
    if s.washable s.wash.pos then s.modWash (fun w => { w with wait := false })
    else if (s.wash.wait || (decide (m = l) && (s.law m).madeOdd)) && (s.law m).unretired && s.runs m then
      s.modWash (fun w => { w with wait := true })
    else State.washSkip l n s.washNext

/-- The next unclaimed bank holder that is not a law cluster, from a number on (R475); claims stand in the slots. -/
def State.shadowHolder (s : State) : Option Nat :=
  let free := fun (h : Nat) => match idClu (h * 256) with
    | none => false
    | some (.law _) => false
    | some c => !(cluRows c).isEmpty && !(s.txn.slots.toList.any (fun t => t.staged.any (fun v => v.1 / 256 = h)))
  ((List.range 112).map (fun i => (s.wash.holder.toNat + i) % 112)).find? free

/-- A memory test leaves the shadow bank of a holder undefined until its next claim loads it (R471): free values. -/
def State.shadowLost (s : State) (h : Nat) : State :=
  let ids := ((List.range 256).map (fun k => h * 256 + k)).filter (fun id => (parRow id).isSome)
  let s1 := { s with free := s.free + 256 }.modTxn (fun t => { t with
    shadow := ids.foldl (fun m id => mapSet parReset m id (Config.freeWord (s.free + id % 256))) t.shadow })
  match idClu (h * 256) with
  | some (.law l) => s1.loadBanks l
  | _ => s1

/-- The shadow test of a slot begins. -/
def State.shadowTest (s : State) (ok : Bool) : State :=
  if !s.cfgBit 0xB000 1 then s
  else
    match s.shadowHolder with
    | none => s
    | some h => (s.shadowLost h).modWash (fun x => { x with shadow := some (BitVec.ofNat 8 h, ok) })

/-- A claim abandons it without record, and the same holder is taken again (R368, R475). -/
def State.shadowGuard (s : State) : State :=
  match s.wash.shadow with
  | some x => if s.claimed x.1.toNat then s.modWash (fun w => { w with holder := x.1, shadow := none }) else s
  | none => s

/-- It ends: its record, and the next holder. It is taken to end with the replica's test (DESIGN CHOICE, log 101). -/
def State.shadowEnd (s : State) : State :=
  match s.wash.shadow with
  | none => s
  | some x =>
    let h := x.1.toNat
    let ok := x.2
    let w := s.draw
    let u : UnitTest := {
      kind := 10, unit := 0xFF, logic := 0, mem := if ok then (sigMem 10).getD 0 else w.1, failAddr := if ok then 0xFFFF else w.1.setWidth 16,
      micros := 0 }
    ((if ok then s else w.2).testRecord (if ok then 0 else 1) 0
      (scopeWord 0 (BitVec.ofNat 8 (h / 16)) (BitVec.ofNat 8 (h % 16)) 0xFF) u).modWash (fun x => { x with
        holder := BitVec.ofNat 8 ((h + 1) % 112), shadow := none })

/-- WASH_SLOT: a run of an engine has ended at which a slot may begin (R127, R474); none begins in brownout hold (R453). -/
def doWashSlot (l : LawId) (shadowOk : Bool) (s : State) : State :=
  if !s.cfgBit 0xB000 0 || s.wash.inSlot || s.power.brownout || s.power.devSafe ||
      decide ((s.tim.devTime - s.wash.slotEnd).toNat < s.cfgN 0xB004) then s
  else
    let s1 := State.washSkip l 48 s
    if washLaw s1.wash.pos = l ∧ s1.washable s1.wash.pos ∧ (s1.law l).clean ∧ (s1.law l).flight.isNone then
      ((s1.modWash (fun w => { w with inSlot := true })).modLaw l (fun x => x.modRep (washRep s1.wash.pos) (fun r => { r.noSpread with
        st := .washed }))).shadowTest shadowOk
    else s1

/-- WASH_SLOT (R474). -/
def execWashSlot (l : LawId) (shadowOk : Bool) (s : State) : Host.Outcome State Fault Refusal := whenLive s (doWashSlot l shadowOk)

/-- The test of a washed replica ends: darned when it passed, RETIRED with WASH_FAIL when it failed (R474). -/
def doWashTestEnd (logic mem : Word) (failAddr : Half) (micros : Word) (s0 : State) : State :=
  let l := washLaw s0.wash.pos
  let k := washRep s0.wash.pos
  if !s0.wash.inSlot ∨ ((s0.law l).rep k).st ≠ .washed then s0
  else
    let s := s0.shadowEnd
    let u : UnitTest := { kind := 1, unit := BitVec.ofNat 8 k.val, logic := logic, mem := mem, failAddr := failAddr, micros := micros }
    let s1 := s.testRecord (if unitOk u then 0 else 1) 0
      (scopeWord 1 (BitVec.ofNat 8 (regCode (lawReg l))) (BitVec.ofNat 8 (lawClu l)) (BitVec.ofNat 8 k.val)) u
    if unitOk u then s1.modLaw l (fun x => { x.modRep k (fun r => { r with st := .darning }) with darnDue := some k })
    else ((s1.raiseLaw evWashFail l k.val (unitSig u).1 (unitSig u).2).retire l k).washEnd.washNext

/-- WASH_TEST_END (R474). -/
def execWashTestEnd (logic mem : Word) (failAddr : Half) (micros : Word) (s : State) : Host.Outcome State Fault Refusal :=
  whenLive s (doWashTestEnd logic mem failAddr micros)

/-! ### The commanded self-test -/

/-- Levels of the events of a scope kind (R440). -/
def testLevel (kind : Nat) : Nat := if kind ≤ 1 then 0 else if kind = 2 then 1 else if kind = 3 then 2 else 4

/-- An event about a scope. -/
def State.raiseTest (s : State) (c : Cause) (cls : RClass) (kind region cluster rep : Byte) (d0 d1 : Word) (tag : Half) (unit : Nat) :
    State :=
  let k := kind.toNat
  s.raiseCls { c with lvl := testLevel k } cls (if k = 4 then 7 else region.toNat) (if k = 4 then 0xFF else if k = 3 then 0xF else cluster.toNat)
    (if unit ≠ 0xFF then unit else if k = 1 then rep.toNat else 0xFF) d0 d1 tag

/-- The cluster a record names. -/
def testClu (region cluster : Byte) : Option Clu :=
  match regOf region.toNat with
  | none => none
  | some r => cluOf r cluster.toNat

/-- Fields in range (R355, R469): unused bytes are 0xFF; a bank holder has parameters. -/
def testFields (kind region cluster rep : Byte) : Bool :=
  let c := testClu region cluster
  match kind.toNat with
  | 0 => decide (rep = 0xFF) && (match c with | some x => !(cluRows x).isEmpty | none => false)
  | 1 => decide (rep.toNat < 3) && (match c with | some (.law _) => true | _ => false)
  | 2 => decide (rep = 0xFF) && decide (cluster ≠ 15) && c.isSome
  | 3 => decide (rep = 0xFF) && decide (cluster = 0xFF) && (regOf region.toNat).isSome
  | 4 => decide (rep = 0xFF) && decide (cluster = 0xFF) && decide (region = 0xFF)
  | _ => false

/-- A cluster is in active use (R470). -/
def State.inUse (s : State) (r : RegionId) (c : Clu) : Bool :=
  (decide (r = .sup) && !s.power.test) ||
  (match c with
   | .law l => s.runs l
   | .brg b => decide ((s.brg b).arm ≠ .disarmed)
   | .sns _ => !s.modeOff r
   | .can c => s.parOn (canParId c 0)
   | .check => (List.range 8).any (fun n => s.parN (chkParId (Fin.ofNat 8 n) 0) ≠ 0)
   | .host => true
   | .hawser => s.pairOn
   | .tide => false | .brake => false | .selfTest => false | .gatePower => false | .common _ => false)

/-- The package is in active use: a region that is not OFF, a bridge that is not DISARMED, or a unit of HST's other clusters (R469, R470). -/
def State.packageInUse (s : State) : Bool :=
  allRegs.any (fun r => decide (r ≠ .hst) && !s.modeOff r) || (allRegs.flatMap regBridges).any (fun b => decide ((s.brg b).arm ≠ .disarmed)) ||
  ([.can 0, .can 1, .can 2, .check, .hawser] : List Clu).any (s.inUse .hst)

/-- The scope of a test is in active use, kinds 1 to 4. -/
def State.scopeInUse (s : State) (kind region cluster : Byte) : Bool :=
  match kind.toNat, regOf region.toNat, testClu region cluster with
  | 1, _, some (.law l) => s.runs l || (s.law l).halted
  | 2, some r, some c => s.inUse r c
  | 3, some r, _ => decide (r = .hst) || (decide (r = .sup) && !s.power.test) ||
      (regBridges r).any (fun b => decide ((s.brg b).arm ≠ .disarmed))
  | 4, _, _ => s.packageInUse
  | _, _, _ => false

/-- The triad of a scope has a replica that is not ACTIVE. -/
def State.triadOut (s : State) (kind region cluster : Byte) : Bool :=
  decide (kind.toNat = 1 ∨ kind.toNat = 2) &&
  (match testClu region cluster with | some (.law l) => !(s.law l).triplex | _ => false)

/-- A region that is not OFF. -/
def State.notOff (s : State) (kind region : Byte) : Bool :=
  decide (kind.toNat = 3) && (match regOf region.toNat with | some r => !s.modeOff r | none => false)

/-- The first reason of R470 that refuses a test; 0 for none. -/
def State.testReason (s : State) (kind region cluster : Byte) : Nat :=
  firstRank [rank 1 (s.scopeInUse kind region cluster), rank 2 (s.notOff kind region), rank 3 (decide (kind.toNat = 4) && !s.power.test),
    rank 4 s.power.brownout, rank 5 (s.triadOut kind region cluster), rank 6 s.st.busy,
    rank 7 (decide (kind.toNat = 0) && s.claimed (region.toNat * 16 + cluster.toNat)), rank 8 s.power.devSafe]

/-- The scope of the running test still permits it (R470): in kind 1 the replica under test is out of its triad. -/
def State.testStands (s : State) : Bool :=
  let t := s.st
  !s.power.devSafe && !s.scopeInUse (BitVec.ofNat 8 t.kind.toNat) t.region t.cluster && !s.notOff (BitVec.ofNat 8 t.kind.toNat) t.region &&
  !(decide (t.kind = 0) && s.claimed (t.region.toNat * 16 + t.cluster.toNat))

/-- The replica of a kind 1 test is darned before it rejoins (R471). -/
def State.testReplicaBack (s : State) : State :=
  match s.st.kind.toNat, testClu s.st.region s.st.cluster with
  | 1, some (.law l) =>
    s.washBack l (Fin.ofNat 3 s.st.rep.toNat)
  | _, _ => s

/-- A running test whose scope leaves its permitted state, or whose bank is claimed, is abandoned (R368, R470). -/
def State.testGuard (s : State) : State :=
  if s.st.busy && !s.testStands then
    let t := s.st
    let k : Byte := BitVec.ofNat 8 t.kind.toNat
    ((s.testReplicaBack.testRecord 3 t.tag (scopeWord k t.region t.cluster t.rep) noUnit).raiseTest evSelftestAbandoned .note k t.region
      t.cluster t.rep 0 0 t.tag 0xFF).modSt (fun x => { x with busy := false })
  else s

/-- SELFTEST: starts the test of its scope, or is refused with the first reason (R470). The replica of a kind 1 test leaves its triad. -/
def State.selftest (s0 : State) (kind region cluster rep : Byte) (tag : Half) : State × Bool :=
  let s := s0.testGuard
  let n := s.testReason kind region cluster
  if n ≠ 0 then
    ((s.testRecord 2 tag (scopeWord kind region cluster rep) noUnit).raiseTest evSelftestRefused .note kind region cluster rep (wd n) 0 tag
      0xFF, false)
  else
    let s1 := s.modSt (fun x => { x with busy := true, kind := kind.setWidth 3, region := region, cluster := cluster, rep := rep, tag := tag })
    match kind.toNat, testClu region cluster with
    | 1, some (.law l) => (s1.modLaw l (fun x => x.modRep (Fin.ofNat 3 rep.toNat) (fun r => { r.noSpread with st := .washed })), true)
    | 0, _ => (s1.shadowLost (region.toNat * 16 + cluster.toNat), true)
    | _, _ => (s1, true)

/-- The reaction of a failed scope: that of its level under R21. A failed replica is retired (DEDUCED, log 22). -/
def State.testFailed (s : State) (kind region cluster rep : Byte) (code : Half) : State :=
  match kind.toNat, regOf region.toNat, testClu region cluster with
  | 1, _, some (.law l) => s.retire l (Fin.ofNat 3 rep.toNat)
  | 3, some r, _ => s.regionSafe r code
  | 4, _, _ => s.deviceSafe code
  | _, some r, _ => s.cluReact r cluster.toNat code
  | _, none, _ => s

/-- The class that SELFTEST_FAIL takes. -/
def testClass (kind region cluster : Byte) : RClass :=
  match kind.toNat, regOf region.toNat with
  | 1, _ => .note
  | 3, _ => .regionSafe
  | 4, _ => .deviceSafe
  | _, some r => cluClass r cluster.toNat
  | _, none => .note

/-- The law clusters whose storage the test of a scope overwrites, kinds 2 to 4. -/
def testLaws (kind region cluster : Byte) : List LawId :=
  match kind.toNat, regOf region.toNat, testClu region cluster with
  | 2, _, some (.law l) => [l]
  | 3, some r, _ => regLaws r
  | 4, _, _ => allLaws
  | _, _, _ => []

/-- Their banks are reloaded from the ledger (R471). -/
def State.testReload (s : State) (kind region cluster : Byte) : State := each (testLaws kind region cluster) State.loadBanks s

/-- SELFTEST_END: one record per unit, then SELFTEST_PASS, or SELFTEST_FAIL naming the first failing unit (R472). -/
def doSelftestEnd (units : List UnitTest) (s0 : State) : State :=
  let s := s0.testGuard
  if !s.st.busy then s
  else
    let t := s.st
    let k : Byte := BitVec.ofNat 8 t.kind.toNat
    let s1 := units.foldl (fun s u => s.testRecord (if unitOk u then 0 else 1) t.tag (scopeWord k t.region t.cluster t.rep) u) s
    let s2 := (s1.modSt (fun x => { x with busy := false })).testReload k t.region t.cluster
    match units.find? (fun u => !unitOk u) with
    | none => (s2.raiseTest evSelftestPass .note k t.region t.cluster t.rep 0 0 t.tag 0xFF).testReplicaBack
    | some u =>
      (s2.raiseTest evSelftestFail (testClass k t.region t.cluster) k t.region t.cluster t.rep (unitSig u).1 (unitSig u).2 t.tag u.unit.toNat).testFailed
        k t.region t.cluster t.rep (codeOf (testLevel k.toNat) (if k = 4 then 7 else t.region.toNat) evSelftestFail.num)

/-- SELFTEST_END (R472). -/
def execSelftestEnd (units : List UnitTest) (s : State) : Host.Outcome State Fault Refusal := whenLive s (doSelftestEnd units)

end Sys2Proof.Machine
end

