-- ==== Sys2Proof/Machine/Reset.lean ====
section
/-! DEFINITION. Cluster and region resets (R33 to R35, R37, R41, R169, R450, R451, R468). -/

namespace Sys2Proof.Machine

/-- RESET_REFUSED (R445): 1 a condition of R34 or R35, 2 refused under R41, 3 refused under R450. -/
def State.resetRefused (s : State) (r : RegionId) (clu why : Nat) (tag : Half) : State :=
  s.raiseCls evResetRefused .note (regCode r) clu 0xFF (wd why) (wd (regCode r * 256 + clu)) tag

/-- A reaction of a higher level than a reset's own has arisen in this cycle, in its region or the package (R41); DEVICE-SAFE governs every
reset (R39). -/
def State.resetClash (s : State) (r : RegionId) (lvl : Nat) : Bool :=
  s.power.devSafe || (decide (lvl < 2) && s.evq.any (fun e => decide (3 ≤ clsRank e.cls) && decide (e.code.toNat / 1024 % 8 = regCode r)))

/-! ### Clusters -/

/-- A bridge cluster returns DISARMED with its isolation cleared (R34, R35, R169). -/
def State.resetBridge (s : State) (b : BridgeId) : State :=
  let iso := s.isIso b
  let s1 := s.modBrg b (fun _ => { bst := (brgAct b).isSome && !s.cpFault })
  if iso then s1.raiseBrg evIsolateCleared b 0xFF 0 0 else s1

/-- The condition of R35 on the region of a bridge; for an actuator bridge that its actuator is OFF or FREE takes its place, in
REGION-SAFE too (R451). -/
def State.resetMode (s : State) (b : BridgeId) : Bool :=
  let r := brgReg b
  match brgAct b, regSide r with
  | some a, _ => (match (s.actu a).mode with | .off => true | .free => true | .current => false | .position => false | .park => false)
  | none, some x =>
    !s.isSafe r &&
    (match (s.tr x).mode with
     | .off => true | .free => true | .hold => true | .torque => false | .speed => false | .asc => false | .catch => false)
  | none, none => !s.isSafe r && s.modeOff r

/-- RESET_CLUSTER (R35, R451): accepted for a bridge, CAN or check cluster in ISOLATE, and for the hawser cluster after its fault. -/
def State.resetCluster (s : State) (r : RegionId) (clu : Nat) (tag : Half) : State × Bool :=
  if s.resetClash r 1 then (s.resetRefused r clu 2 tag, false)
  else
    let back := fun (t : State) => (t.relock r (BitVec.ofNat 16 (2 ^ clu)), true)
    match cluOf r clu with
    | some (.brg b) =>
      if !s.isIso b || !s.resetMode b then (s.resetRefused r clu 1 tag, false)
      else if (s.brg b).isoHard then (s.resetRefused r clu 3 tag, false)
      else back (s.resetBridge b)
    | some (.can c) =>
      if (s.can c).isolated then back (s.canStart c) else (s.resetRefused r clu 1 tag, false)
    | some .check =>
      if s.chkIso then back { s with chkIso := false, chks := Vector.replicate 8 {} } else (s.resetRefused r clu 1 tag, false)
    | some .hawser =>
      if s.haws.fault then
        back (s.modHaws (fun h => { h.noMirrors with
          fault := false, linkUp := false, locked := false, aligned := 0, queue := [], sending := none, wire := [] }))
      else (s.resetRefused r clu 1 tag, false)
    | _ => (s.resetRefused r clu 1 tag, false)

/-! ### Regions -/

/-- A sense cluster with its channels, and the monitors of its region whose failure a region reset clears (R34, R450); comparator outputs
and filters follow their inputs. -/
def State.resetSns (s : State) (n : SnsId) : State :=
  let s1 := each (snsChans n) (fun s c => s.modChan c (fun _ => {})) (s.modSns n (fun _ => {}))
  each (winsOf n) (fun s w => s.modWin w (fun v => { v with
    hi := { v.hi with latch := false, dacBad := 0 }, lo := { v.lo with latch := false, dacBad := 0 }, failed := false, dacFail := false })) s1

/-- A stand-in pair whose member lies in the region is free again; a failed pair, or one that stands in for nothing, returns with SUP (R195,
R450). -/
def State.resetStandin (s : State) (r : RegionId) (k : Fin 3) : State :=
  let x := s.wst k
  let memberIn := decide (snsReg (chanPos (winChan (winNo x.mon.toNat))).1 = r)
  if (r = .sup ∧ x.state ≠ 2) ∨ (x.state = 2 ∧ memberIn) ∨ (x.state = 1 ∧ memberIn) then s.modWst k (fun _ => {}) else s

/-- Gate sides of a bridge: a lost die rejoins with its region (R37). -/
def State.resetGates (s : State) (b : BridgeId) : State :=
  each (gsList b) (fun s g => s.modGate g (fun x => if x.lost then {} else x)) s

/-- What each region holds besides its clusters of the three kinds, as in OFF after a start. `BRK.TEST_FAILED`, the lands and the brake's
readings, and `CHG.BAT_ABSENT` outlast a region reset (R284, R308); so do an island's time and the setup registers (log 23). The chopper's gate side loses its supply with
SUP (R163). -/
def State.resetBlock (s : State) : RegionId → State
  | .sup =>
    let s1 := ((s.modBrake (fun b => { testFailed := b.testFailed, fbHigh := b.fbHigh, iCoil := b.iCoil })).modTherm (fun _ => {})).modPower
      (fun p => { p with
        gpReady := false, gpStopped := false, gpr := .none, gprNext := .ga, gpMissed := 0, gpEdge := false,
        gpLocked := false})
    let s2 := each (List.range 35) (fun s g => s.modGate (Fin.ofNat 35 g) (fun x => { lost := x.lost })) s1
    ((s2.drive .bch).modWash (fun _ => { slotEnd := s.tim.devTime, rotAt := s.tim.devTime })).modSt (fun _ => {})
  | .hst => s
  | .tra => s.modTr .a (fun _ => {})
  | .trb => s.modTr .b (fun _ => {})
  | .spn => s.modSpan (fun _ => {})
  | .chg => s.modChg (fun c => { batAbsent := c.batAbsent, wasOff := c.wasOff, lamp := c.lamp, lampAt := c.lampAt, lamp0 := c.lamp0,
                                 lamp1 := c.lamp1 })
  | .act =>
    let v := s.draw
    let k := v.2.drawBit
    (each allActs (fun s a => s.modAct a (fun _ => {})) k.2).modPower (fun p => { p with dieALost := false, vmNow := v.1, vmOk := k.1 })

/-- Every cluster of a region starts again, in the order of R33 from now on; the region stands in OFF with its bridges disarmed (R34). -/
def State.reinit (s : State) (r : RegionId) (tag : Half) : State :=
  let s1 := each (regBridges r) (fun s b => (s.resetBridge b).resetGates b) s
  let s2 := each (regLaws r) (fun s l => (s.modLaw l (fun _ => {})).loadBanks l) s1
  let s3 := each (regSns r) State.resetSns s2
  let s4 := each ([0, 1, 2] : List (Fin 3)) (fun s k => s.resetStandin r k) s3
  let s5 := (s4.resetBlock r).modReg r (fun x => { x with
    safe := false, cause := 0, halted := false, haltReq := false, resumeReq := false, safeDue := none,
    startAt := s.tim.devTime })
  (s5.relock r 0xFFFF).raiseTag evRegionResetDone r 0 0 tag

/-- RESET_REGION (R34, R451): accepted in REGION-SAFE or OFF; that of HST is the PCIe fundamental reset. -/
def State.resetRegion (s : State) (r : RegionId) (tag : Half) : State × Bool :=
  if s.resetClash r 2 then (s.resetRefused r 0xF 2 tag, false)
  else if r = .hst ∨ !(s.isSafe r || s.modeOff r) then (s.resetRefused r 0xF 1 tag, false)
  else (s.reinit r tag, true)

end Sys2Proof.Machine
end

