-- ==== Sys2Proof/Machine/Commands.lean ====
section
/-! DEFINITION. The command records of ring 0 as they apply (R96, R136, R137, R204, R237, R270, R294, R296, R303, R306, R355, R425,
R470). Each operation answers the state and whether the record was applied; a record out of range is refused with CMD_REFUSED. -/

namespace Sys2Proof.Machine

/-- How a record ends: applied, refused by an event of its own subject, or refused with CMD_REFUSED. -/
inductive Ended
  | applied | refused | bad
deriving DecidableEq, Repr

/-- Close a record: its CMD_APPLIED, trace record or CMD_REFUSED (R349, R355, R359). -/
def State.ending (e : Entry) (p : State × Ended) : State :=
  match p.2 with
  | .applied => p.1.applied e
  | .refused => p.1.refusedRec e
  | .bad => p.1.cmdRefused e

def endedBy (p : State × Bool) : State × Ended := (p.1, if p.2 then .applied else .refused)

/-! ### SET_MODE -/

/-- The outcome of a mode command: t with rank k; an accepted one that breaks a state rule of a PREPARED commit is refused with rank 10
instead (R381). -/
def State.modeEnd (s0 s t : State) (k : Nat) (c : Cause) (region unit code : Nat) (tag : Half) : State × Ended :=
  if k ≠ 0 then (t, .refused)
  else if s0.prepBreaks t then (s.raiseCls c .note region 0xF unit (wd code) (wd 10) tag, .refused)
  else (t, .applied)

/-- SET_MODE of a region, an actuator and a mode code. -/
def State.cmdSetMode (s : State) (tag : Half) (region actuator mode : Byte) : State × Ended :=
  match regOf region.toNat with
  | some .tra =>
    (match trModeOf mode.toNat with
     | some m => if actuator = 0 then s.modeEnd (s.trSettle .a 2) (s.trCommand .a m tag)
         ((s.trSettle .a 2).trRefusal .a m) evModeRefused 2 0xFF (trCode m) tag else (s, .bad)
     | none => (s, .bad))
  | some .trb =>
    (match trModeOf mode.toNat with
     | some m => if actuator = 0 then s.modeEnd (s.trSettle .b 2) (s.trCommand .b m tag)
         ((s.trSettle .b 2).trRefusal .b m) evModeRefused 3 0xFF (trCode m) tag else (s, .bad)
     | none => (s, .bad))
  | some .spn =>
    (match spModeOf mode.toNat with
     | some m => if actuator = 0 then s.modeEnd s (s.spCommand m tag) (s.spRefusal m) evSpnModeRefused 4 0xFF (spCode m) tag else (s, .bad)
     | none => (s, .bad))
  | some .chg =>
    (match chgModeOf mode.toNat with
     | some m => if actuator = 0 then s.modeEnd s.chgTriggers (s.chgCommand m tag) (s.chgTriggers.chgRefusal m)
         evChgModeRefused 5 0xFF (chCode m) tag else (s, .bad)
     | none => (s, .bad))
  | some .act =>
    (match actModeOf mode.toNat with
     | some m =>
       if 1 ≤ actuator.toNat ∧ actuator.toNat ≤ 3 then
         let a : ActId := Fin.ofNat 3 (actuator.toNat - 1)
         s.modeEnd (s.actTriggers a) (s.actCommand a m tag) ((s.actTriggers a).actRefusal a m) evActModeRefused 6 (a.val + 1) (actCode m) tag
       else (s, .bad)
     | none => (s, .bad))
  | some .sup => (s, .bad)
  | some .hst => (s, .bad)
  | none => (s, .bad)

/-! ### SETPOINT -/

/-- The engines with a ring set-point (R88). -/
def ringSpLaw (n : Nat) : Bool := [1, 4, 7, 8, 9, 10, 11, 12, 13].contains n

/-- A slot that is unused, or names a ring set-point with a finite value (R355). -/
def spSlotOk (x : SpSlot) : Bool :=
  decide (x.law = 0xFF) ||
  (ringSpLaw x.law.toNat && (decide (x.index = 0) || (decide (x.index = 1) && (decide (x.law = 1) || decide (x.law = 4)))) &&
    F.isFinite x.value)

/-- The engines a slot sets: with `VEC_MODE` = 2 a slot for `LAW01` or `LAW04` sets both. -/
def State.spTargets (s : State) (l : LawId) : List LawId :=
  if (l = 1 ∨ l = 4) ∧ s.parN (lawId l 0x20) = 2 then [1, 4] else [l]

/-- Store a ring set-point (R96). -/
def State.setSlot (s : State) (x : SpSlot) : State :=
  if x.law = 0xFF then s
  else
    each (s.spTargets (Fin.ofNat 16 x.law.toNat)) (fun s l => s.modLaw l (fun y =>
      if x.index = 0 then { y with ringSp := x.value } else { y with ringMz := x.value })) s

/-- SETPOINT: one slot out of range refuses the record whole (DEDUCED, log 24). -/
def State.cmdSetpoint (s : State) (xs : List SpSlot) : State × Ended :=
  if xs.all spSlotOk then (xs.foldl State.setSlot s, .applied) else (s, .bad)

/-! ### ARM and DISARM -/

/-- The bridges a mask names, in cluster order; none where a bit names another cluster or the region does not exist. -/
def maskBridges (region : Byte) (mask : Word) : Option (List BridgeId) :=
  match regOf region.toNat with
  | none => none
  | some r =>
    let bits := (List.range 32).filter (fun k => mask.getLsbD k)
    let bs := bits.filterMap (fun k => (regBridges r).find? (fun b => brgClu b = k))
    if bs.length = bits.length then some bs else none

/-- The region's mode permits arming (R203, R236, R269, R295; R453 for the safe states). A halted region refuses every arm command (R45):
it names condition 2 (DEDUCED, log 27). -/
def State.permitsArming (s : State) (b : BridgeId) : Bool :=
  !s.power.devSafe && !s.isSafe (brgReg b) && !s.regHalt (brgReg b) &&
  (match brgAct b, regSide (brgReg b) with
   | some a, _ => decide ((s.actu a).mode ≠ .off)
   | none, some x => decide ((s.tr x).mode ≠ .off)
   | none, none => if brgReg b = .chg then F.pos (s.comP .chg 0x14) else true)

/-- The first of conditions 1 to 8 of R136 that fails; 0 for none. -/
def State.armCase (s : State) (b : BridgeId) : Nat :=
  let x := s.brg b
  firstRank [
    rank 1 (decide (s.txn.epoch = 0)),
    rank 2 (!s.permitsArming b),
    rank 3 (decide (x.arm = .isolated) || decide (x.arm = .halted)),
    rank 4 (decide (brgKind b ≠ .act) && !((gsList b).all s.gsReady && (decide (b = .bch) || s.pairLink b))),
    rank 5 (decide (brgKind b = .act) && !x.bst),
    rank 6 (blockable b && (!s.sto.a || !s.sto.b || s.sto.block)),
    rank 7 s.power.brownout,
    rank 8 (s.testHoldsClu (brgReg b) (brgClu b))]

/-- What arming changes outside its bridge: the flux memory of a traction side is older than the arming (R222), and the absent battery's
flag clears once CHG has been commanded to OFF (R284). -/
def State.onArm (s : State) (b : BridgeId) : State :=
  match regSide (brgReg b) with
  | some x => s.modTr x (fun t => { t with good := false })
  | none =>
    if brgReg b = .chg ∧ s.chg.wasOff then s.modChg (fun c => { c with batAbsent := false, wasOff := false }) else s

/-- Arm one bridge, or refuse with the first failed condition (R136). A bridge already ARMED is judged as well and stays as it is. The
forced test of the blocking nets (R312) has a free outcome: no command carries it (log 17). A slot whose input is active acts at once
(R158); where it isolates, the arming is refused (R174). An arming that a PREPARED commit's rules do not bear (R381) names condition 2, as
the mode does not permit it: the spec gives no number (DESIGN CHOICE, log 95). -/
def State.armOne (s : State) (tag : Half) (b : BridgeId) : State × Bool :=
  if s.armCase b ≠ 0 then (s.armRefused b (s.armCase b) tag, false)
  else if s.isArmed b then (s, true)
  else
    let net := if blockable b then s.drawBit else (true, s)
    if net.1 then
      let t := ((net.2.armBridge b).onArm b).modBrg b (fun x => { x with armedAt := some (s.tim.devTime, tag) })
      if net.2.prepBreaks t then (net.2.armRefused b 2 tag, false)
      else
        let u := t.evalTrips b
        (u, !u.isIso b)
    else (net.2.stoFault.armRefused b 9 tag, false)

/-- ARM: each named bridge in cluster order; the record counts as applied when every bridge was armed. -/
def State.cmdArm (s : State) (tag : Half) (region : Byte) (mask : Word) : State × Ended :=
  match maskBridges region mask with
  | none => (s, .bad)
  | some bs =>
    endedBy (bs.foldl (fun p b => let q := p.1.armOne tag b; (q.1, p.2 && q.2)) (s, true))

/-- DISARM (R137). -/
def State.cmdDisarm (s : State) (region : Byte) (mask : Word) : State × Ended :=
  match maskBridges region mask with
  | none => (s, .bad)
  | some bs => (s.disarmAll bs, .applied)

/-! ### Resets, brake, position, CAN, self-test -/

/-- A reset that breaks a state rule of a PREPARED commit is refused (R381). -/
def State.prepReset (s : State) (r : RegionId) (clu : Nat) (tag : Half) (p : State × Bool) : State × Ended :=
  if p.2 && s.prepBreaks p.1 then (s.resetRefused r clu 1 tag, .refused) else endedBy p

def State.cmdResetCluster (s : State) (tag : Half) (region cluster : Byte) : State × Ended :=
  match regOf region.toNat with
  | none => (s, .bad)
  | some r => if cluster.toNat < cluCount r then s.prepReset r cluster.toNat tag (s.resetCluster r cluster.toNat tag) else (s, .bad)

def State.cmdResetRegion (s : State) (tag : Half) (region : Byte) : State × Ended :=
  match regOf region.toNat with
  | none => (s, .bad)
  | some r => s.prepReset r 0xF tag (s.resetRegion r tag)

def State.cmdBrakeApply (s : State) (tag : Half) : State × Ended := (s.brakeApply tag, .applied)
def State.cmdBrakeRelease (s : State) (tag : Half) : State × Ended :=
  (s.brakeRelease tag, if s.releaseCase = 0 then .applied else .refused)
def State.cmdBrakeTest (s : State) (tag : Half) : State × Ended := (s.brakeTest tag, if s.testCase = 0 then .applied else .refused)

def State.cmdSetPosition (s : State) (actuator : Byte) (v : F32) : State × Ended :=
  if 1 ≤ actuator.toNat ∧ actuator.toNat ≤ 3 ∧ F.isFinite v then (s.setPos (Fin.ofNat 3 (actuator.toNat - 1)) v, .applied) else (s, .bad)

def State.cmdCanRecover (s : State) (ctrl : Byte) : State × Ended :=
  if ctrl.toNat < 3 then
    (match s.canRecover (Fin.ofNat 3 ctrl.toNat) with
     | some t => (t, .applied)
     | none => (s, .bad))
  else (s, .bad)

def State.cmdSelftest (s : State) (tag : Half) (kind region cluster rep : Byte) : State × Ended :=
  if testFields kind region cluster rep then endedBy (s.selftest kind region cluster rep tag) else (s, .bad)

/-! ### An entry of ring 0 (R353, R355) -/

/-- Apply a record as it stands in the ring. -/
def State.applyEntry (e : Entry) (s : State) : State :=
  let tag := halfAt e 2
  State.ending e
    (match (byteAt e 0).toNat with
     | 0x00 => (s, .applied)
     | 0x01 => s.cmdSetMode tag (byteAt e 8) (byteAt e 9) (byteAt e 10)
     | 0x02 => s.cmdSetpoint [spSlotAt e 8, spSlotAt e 16, spSlotAt e 24]
     | 0x03 => s.cmdArm tag (byteAt e 8) (wordAt e 12)
     | 0x04 => s.cmdDisarm (byteAt e 8) (wordAt e 12)
     | 0x05 => s.cmdResetCluster tag (byteAt e 8) (byteAt e 9)
     | 0x06 => s.cmdResetRegion tag (byteAt e 8)
     | 0x07 =>
       (match (byteAt e 8).toNat with
        | 0 => s.cmdBrakeApply tag
        | 1 => s.cmdBrakeRelease tag
        | 2 => s.cmdBrakeTest tag
        | _ => (s, .bad))
     | 0x08 => s.cmdSetPosition (byteAt e 8) (wordAt e 12)
     | 0x09 => s.cmdCanRecover (byteAt e 8)
     | 0x0A => s.cmdSelftest tag (byteAt e 8) (byteAt e 9) (byteAt e 10) (byteAt e 11)
     | _ => (s, .bad))

/-! ### The rows -/

def execNop (h : RecHdr) (s : State) : Host.Outcome State Fault Refusal := whenLive s (fun s => State.ending (nopEntry h) (s, .applied))

def execSetMode (h : RecHdr) (region actuator mode : Byte) (s : State) : Host.Outcome State Fault Refusal :=
  whenLive s (fun s => State.ending (setModeEntry h region actuator mode) (s.cmdSetMode h.tag region actuator mode))

def execSetpoint (h : RecHdr) (s0 s1 s2 : SpSlot) (s : State) : Host.Outcome State Fault Refusal :=
  whenLive s (fun s => State.ending (setpointEntry h s0 s1 s2) (s.cmdSetpoint [s0, s1, s2]))

def execArm (h : RecHdr) (region : Byte) (mask : Word) (s : State) : Host.Outcome State Fault Refusal :=
  whenLive s (fun s => State.ending (armEntry h region mask) (s.cmdArm h.tag region mask))

def execDisarm (h : RecHdr) (region : Byte) (mask : Word) (s : State) : Host.Outcome State Fault Refusal :=
  whenLive s (fun s => State.ending (disarmEntry h region mask) (s.cmdDisarm region mask))

def execResetCluster (h : RecHdr) (region cluster : Byte) (s : State) : Host.Outcome State Fault Refusal :=
  whenLive s (fun s => State.ending (resetClusterEntry h region cluster) (s.cmdResetCluster h.tag region cluster))

def execResetRegion (h : RecHdr) (region : Byte) (s : State) : Host.Outcome State Fault Refusal :=
  whenLive s (fun s => State.ending (resetRegionEntry h region) (s.cmdResetRegion h.tag region))

def execBrakeApply (h : RecHdr) (s : State) : Host.Outcome State Fault Refusal :=
  whenLive s (fun s => State.ending (brakeEntry h 0) (s.cmdBrakeApply h.tag))

def execBrakeRelease (h : RecHdr) (s : State) : Host.Outcome State Fault Refusal :=
  whenLive s (fun s => State.ending (brakeEntry h 1) (s.cmdBrakeRelease h.tag))

def execBrakeTest (h : RecHdr) (s : State) : Host.Outcome State Fault Refusal :=
  whenLive s (fun s => State.ending (brakeEntry h 2) (s.cmdBrakeTest h.tag))

def execSetPosition (h : RecHdr) (actuator : Byte) (value : F32) (s : State) : Host.Outcome State Fault Refusal :=
  whenLive s (fun s => State.ending (setPositionEntry h actuator value) (s.cmdSetPosition actuator value))

def execCanRecover (h : RecHdr) (ctrl : Byte) (s : State) : Host.Outcome State Fault Refusal :=
  whenLive s (fun s => State.ending (canRecoverEntry h ctrl) (s.cmdCanRecover ctrl))

def execSelftest (h : RecHdr) (kind region cluster rep : Byte) (s : State) : Host.Outcome State Fault Refusal :=
  whenLive s (fun s => State.ending (selftestEntry h kind region cluster rep) (s.cmdSelftest h.tag kind region cluster rep))

end Sys2Proof.Machine
end

