-- ==== Sys2Proof/Machine/Timing.lean ====
section
/-! DEFINITION. Timing marks, islands, synchronisation (R54, R58 to R61, R76 to R79, R253). -/

namespace Sys2Proof.Machine

/-! ### Marks and steering (R58, R77) -/

/-- Take an error, in 312.5 ps units, as the distance that the tide boundaries still have to move; later is positive. -/
def State.steerTo (s : State) (e : Int) : State := s.modTim (fun t => { t with steer := e, steering := decide (e ≠ 0) })

/-- Steering while armed moves by at most one tick, eight units, per mark (R77). -/
def steerLeft (e : Int) : Int := e - max (-8) (min 8 e)

/-- A timing mark at a device time: the tide master's count stands at the marked value, every island takes it (R58), and steering proceeds
while a bridge is armed (R77). Islands that run free hold their last alignment and are steered no more (R55, R60). The mark of an instant is
taken once. -/
def State.markAt (s : State) (t : Time) : State :=
  if t = s.tim.lastMark then s
  else
    let s1 := ((s.timeTo t).modTim (fun x => { x with lastMark := t, aligned := if x.freeRun then x.aligned else t })).stepUp
    if s.anyArmed && !s.tim.freeRun then s1.steerTo (steerLeft s.tim.steer) else s1

/-- TIMING_MARK (R58): every 4,000 ticks of the count. -/
def execTimingMark (s : State) : Host.Outcome State Fault Refusal :=
  whenLive s (fun s => s.markAt (s.tim.lastMark + 4000))

/-- Device time at the coming tide boundary: one tide later (R62), moved in one step by outstanding steering while no bridge is armed
(R77; DEDUCED, log 12, which rounds the move toward zero to a whole tick). Islands that run free are not moved (R60). -/
def State.boundaryTime (s : State) : Time :=
  let t := s.tim.tideStart + BitVec.ofNat 64 s.tideTicks
  if s.anyArmed || s.tim.freeRun then t else t + BitVec.ofInt 64 (s.tim.steer.tdiv 8)

/-- The timing part of a tide boundary: its mark, the tide index, and the end of a one-step move (R62, R63, R77). -/
def State.tideTime (s : State) (index : Word) : State :=
  let t := s.boundaryTime
  let s1 := s.markAt t
  let s2 := if s.anyArmed || s.tim.freeRun then s1 else s1.steerTo 0
  s2.modTim (fun x => { x with tideStart := t, tideIndex := index })

/-! ### Islands (R54, R60) -/

/-- ISLAND_UNLOCK: the cluster takes the reaction of its level (R54, R21); word 1 codes that reaction (R445). -/
def doIslandUnlock (r : RegionId) (clu : Nat) (ppm : F32) (s : State) : State :=
  let cls := cluClass r clu
  let s1 := s.modTim (fun t => { t with
    unlocked := t.unlocked.set (rIx r) (t.unlocked[rIx r] ||| BitVec.ofNat 16 (2 ^ clu)) })
  (s1.raiseCls evIslandUnlock cls (regCode r) clu 0xFF ppm (wd (clsRank cls)) 0).cluReact r clu
    (codeOf evIslandUnlock.lvl (regCode r) evIslandUnlock.num)

/-- ISLAND_UNLOCK (R54). -/
def execIslandUnlock (r : RegionId) (clu : BitVec 4) (ppm : F32) (s : State) : Host.Outcome State Fault Refusal :=
  whenUnit (decide (clu.toNat < cluCount r)) s (doIslandUnlock r clu.toNat ppm)

/-- MARK_LOST: a fault of the tide master, SUP cluster 0x4, hence DEVICE-SAFE; the islands hold their last alignment (R60). -/
def doMarkLost (s : State) : State :=
  ((s.modTim (fun t => { t with freeRun := true })).raise evMarkLost 0 4 0xFF 0 0).safeBy .sup evMarkLost

/-- MARK_LOST (R60). -/
def execMarkLost (s : State) : Host.Outcome State Fault Refusal := whenLive s doMarkLost

/-! ### `SYNC_IN` and `SYNC_OUT` (R76 to R79) -/

def unit5ns : Nat := 16
def unit1us : Nat := 3200

/-- Units of 312.5 ps as seconds. -/
def unitsSec (e : Int) : F32 := F.ofRat e 3200000000

def microSec : F32 := F.dec 1 (-6)

/-- The distance of a target from the nearest of the instants that lie whole periods after a start, later positive; all in units of
312.5 ps (DEDUCED, log 91). -/
def nearestError (target start : Time) (period : Nat) : Int :=
  let m := (target - start).toInt % Int.ofNat period
  if 2 * m ≤ Int.ofNat period then m else m - Int.ofNat period

/-- Ticks as units of 312.5 ps, eight to a tick. -/
def tickUnits (t : Time) : Time := 8 * t

/-- `SYNC_IN` is followed: `SYNC_IN_EN` is set and the device is no pair follower (R77, R79). -/
def State.syncInOn (s : State) : Bool := s.cfgBit 0x1000 0 && !s.power.straps.pair

/-- How far the tide boundaries are from the target that an edge on `SYNC_IN` sets, `TIM.SYNC_IN_OFFSET` ticks after it (R77). -/
def State.syncError (s : State) (edge : Time) : Int :=
  nearestError (edge + tickUnits (BitVec.ofNat 64 (s.cfgN 0x100C))) (tickUnits s.tim.tideStart) (8 * s.tideTicks)

/-- A rising edge on `SYNC_IN` at an instant of device time, in units of 312.5 ps (R77, R78). -/
def doSyncInEdge (edge : Time) (s : State) : State :=
  if !s.syncInOn then s
  else
    let e := s.syncError edge
    let near := decide (e.natAbs ≤ unit1us)
    let s1 := (s.steerTo e).modTim (fun t => { t with
      syncLocked := decide (e.natAbs ≤ unit5ns), syncNear := t.syncNear || near, syncMiss := if near then 0 else t.syncMiss,
      syncLost := t.syncLost && !near })
    if s.anyArmed && !near then s1.raiseReg evSyncInFar .sup (unitsSec e) microSec else s1

/-- SYNC_IN_EDGE (R77). -/
def execSyncInEdge (edge : Time) (s : State) : Host.Outcome State Fault Refusal := whenLive s (doSyncInEdge edge)

/-- A tide ends: one more without a near edge while `SYNC_IN` is followed (R78), and the next tide's `SYNC_OUT` pulse is to come (R76). -/
def State.syncTide (s : State) : State :=
  s.modTim (fun t => { t with
    syncMiss := if s.syncInOn && !t.syncNear then t.syncMiss + 1 else 0, syncNear := false, syncDone := false })

/-- SYNC_IN_LOST: no edge within 1 us of its expected instant in three tides in a row; the device runs free until edges return (R78). -/
def doSyncInLost (s : State) : State :=
  if !s.syncInOn || s.tim.syncLost || decide (s.tim.syncMiss < 3) then s
  else ((s.steerTo 0).modTim (fun t => { t with syncLost := true })).raiseReg evSyncInLost .sup 0 0

/-- SYNC_IN_LOST (R78). -/
def execSyncInLost (s : State) : Host.Outcome State Fault Refusal := whenLive s doSyncInLost

/-- One pulse per tide with `SYNC_OUT_EN` = 1, starting `TIM.SYNC_OUT_OFFSET` ticks after the boundary (R76). -/
def doSyncOutPulse (s : State) : State :=
  if s.cfgBit 0x1000 1 && !s.tim.syncDone then
    let at_ := s.tim.tideStart + BitVec.ofNat 64 (s.cfgN 0x1008)
    s.modTim (fun t => { t with syncOut := t.syncOut + 1, syncDone := true, syncAt := at_ })
  else s

/-- SYNC_OUT_PULSE (R76). -/
def execSyncOutPulse (s : State) : Host.Outcome State Fault Refusal := whenLive s doSyncOutPulse

/-! ### `EXTCLK_IN` (R253) -/

def State.extOn (s : State) : Bool := s.cfgBit 0x5000 0

/-- Steering by `EXTCLK_IN` is suspended while `SYNC_IN_EN` = 1 or `STRAP_PAIR` = 1: what remains of it ends, and this is raised once
(R253). -/
def State.extSuspend (s : State) : State :=
  let susp := s.extOn && (s.cfgBit 0x1000 0 || s.power.straps.pair)
  let s1 := s.modSpan (fun p => { p with extSusp := susp })
  if susp && !s.span.extSusp then (s1.steerTo 0).raiseReg evExtSyncSuspended .spn 0 0 else s1

/-- How far the span period starts are from the target that an edge on `EXTCLK_IN` sets, `SPN.EXT_OFFSET` ticks after it (R253). -/
def State.extError (s : State) (edge : Time) : Int :=
  nearestError (edge + tickUnits (BitVec.ofNat 64 (s.cfgN 0x5004))) (tickUnits s.tim.tideStart) (8 * s.periodTicks .spn)

/-- A rising edge on `EXTCLK_IN` at an instant of device time, in units of 312.5 ps (R253); it also serves the gate-power regulator
(R461). -/
def doExtclkEdge (edge : Time) (s : State) : State :=
  let s1 := (s.modPower (fun p => { p with gpEdge := true })).extSuspend
  if !s1.extOn || s1.span.extSusp then s1
  else
    let e := s1.extError edge
    let near := decide (e.natAbs ≤ unit1us)
    (s1.steerTo e).modSpan (fun p => { p with
      extLocked := decide (e.natAbs ≤ unit5ns), extNear := p.extNear || near, extMiss := if near then 0 else p.extMiss,
      extLost := p.extLost && !near })

/-- EXTCLK_EDGE (R253). -/
def execExtclkEdge (edge : Time) (s : State) : Host.Outcome State Fault Refusal := whenLive s (doExtclkEdge edge)

/-- A span period ends: one more without a near edge while `EXTCLK_IN` is followed (R253). -/
def State.extPeriod (s : State) : State :=
  let s1 := s.extSuspend
  s1.modSpan (fun p => { p with
    extMiss := if s1.extOn && !p.extSusp && !p.extNear then p.extMiss + 1 else 0, extNear := false })

/-- EXT_SYNC_LOST: no edge within 1 us of its expected instant in three span periods in a row; the device runs free until edges return
(R253). -/
def doExtSyncLost (s : State) : State :=
  let s1 := s.extSuspend
  if !s1.extOn || s1.span.extSusp || s1.span.extLost || decide (s1.span.extMiss < 3) then s1
  else ((s1.steerTo 0).modSpan (fun p => { p with extLost := true })).raiseReg evExtSyncLost .spn 0 0

/-- EXT_SYNC_LOST (R253). -/
def execExtSyncLost (s : State) : Host.Outcome State Fault Refusal := whenLive s doExtSyncLost

end Sys2Proof.Machine
end

