-- ==== Sys2Proof/Machine/Txn.lean ====
section
/-! DEFINITION. Transactions: the records of ring 1, the vote instant, and what a slack point does with a decision (R366 to R383, R387). -/

namespace Sys2Proof.Machine

/-! ### Records of ring 1 (R370, R371) -/

/-- TXN_RECORD_REFUSED: `UNIT` holds the slot byte (R387). -/
def State.txnRefused (s : State) (e : Entry) : State :=
  (s.raiseTxn evTxnRecordRefused (byteAt e 8).toNat 0 0 (halfAt e 2)).trace .refused e

/-- BEGIN: the slot opens. -/
def State.txnBegin (s : State) (e : Entry) (k : SlotId) : State :=
  let two := (byteAt e 9).getLsbD 0
  let target := wordAt e 16
  if (s.slot k).state ≠ .closed ∨ (two ∧ (s.haws.pair ≠ .paired ∨ target = 0)) then s.txnRefused e
  else
    (s.modSlot k (fun _ => { state := .open, pair := two, txid := wordAt e 12, target := target, tag := halfAt e 2 })).applied e

/-- The items of a STAGE. -/
def stageItems (e : Entry) : List (Nat × Word) :=
  ([(halfAt e 12, wordAt e 14), (halfAt e 18, wordAt e 20), (halfAt e 24, wordAt e 26)].take (byteAt e 9).toNat).map
    (fun x => (x.1.toNat, x.2))

/-- An ID is defined and the value lies in its row (R371). -/
def parOk (v : Nat × Word) : Bool := match parRow v.1 with | none => false | some r => rngOk r.rng v.2

/-- Another slot claims the holder of an ID (R367). -/
def State.claimedBy (s : State) (k : SlotId) (id : Nat) : Bool :=
  allSlots.any (fun j => j ≠ k && inHolder ((s.slot j).staged.map Prod.fst) (id / 256))

/-- The reason of R373 for which a value fails, with n values before it; 0 for none. -/
def State.stageReason (s : State) (k : SlotId) (n : Nat) (v : Nat × Word) : Nat :=
  if 1024 ≤ n then 3 else if !parOk v then 1 else if s.claimedBy k v.1 then 2 else 0

/-- The first failing value of a list, with its reason. -/
def State.stageFail (s : State) (k : SlotId) (n : Nat) : List (Nat × Word) → Option (Nat × Nat)
  | [] => none
  | v :: vs => if s.stageReason k n v ≠ 0 then some (s.stageReason k n v, v.1) else s.stageFail k (n + 1) vs

/-- STAGE: all values or none; a failing one dooms the slot. A claim abandons a self-test of the holder's bank, commanded or of a
wash slot (R368, R475). -/
def State.txnStage (s : State) (e : Entry) (k : SlotId) : State :=
  let x := s.slot k
  let n := (byteAt e 9).toNat
  if !(decide (x.state = .open) || decide (x.state = .doomed)) || decide (n = 0) || decide (3 < n) then s.txnRefused e
  else if x.state = .doomed then s.applied e
  else
    match s.stageFail k x.count (stageItems e) with
    | some f =>
      ((s.modSlot k (fun x => { x with state := .doomed, reason := BitVec.ofNat 4 f.1, doomId := BitVec.ofNat 16 f.2 })).raiseTxn
        evTxnStageBad k.val (wd f.1) (wd f.2) (halfAt e 2)).trace .refused e
    | none =>
      ((s.claim k (stageItems e)).modSlot k (fun x => { x with staged := x.staged ++ stageItems e, count := x.count + n })).testGuard.shadowGuard.applied e

/-- Word 1 of COMMIT_REFUSED for a doomed slot (R373). -/
def Slot.doomWord (x : Slot) : Word := if x.reason = 3 then 1025 else wd x.doomId.toNat

/-- A refusal of a pair transaction shows the mate a refusal mark from the slack point of its tide (R380). -/
def State.refusalMark (s : State) (x : Slot) : State :=
  if x.pair then s.modTxn (fun t => { t with next := ⟨.refusal, x.txid, x.target⟩ }) else s

/-- COMMIT_REFUSED: no value changes, the claims end, the slot closes (R373). -/
def State.commitRefused (s : State) (k : SlotId) (why : Nat) (w : Word) : State :=
  let x := s.slot k
  (((s.closeSlot k).raiseTxn evCommitRefused k.val (wd why) w x.tag).refusalMark x).trace .refused x.record

/-- COMMIT: an OPEN slot waits for its slack point; a DOOMED one is refused at once. -/
def State.txnCommit (s : State) (e : Entry) (k : SlotId) : State :=
  let keep := fun (x : Slot) => { x with
    seq := wordAt e 12, expect := wordAt e 16, tag := halfAt e 2, readAt := s.tim.devTime, note := hdrNote (hdrOf e), record := e }
  match (s.slot k).state with
  | .open =>
    (s.modSlot k (fun x => { keep x with state := .pending, order := s.txn.order })).modTxn (fun t => { t with order := t.order + 1 })
  | .doomed => (s.modSlot k keep).commitRefused k (s.slot k).reason.toNat (s.slot k).doomWord
  | .closed => s.txnRefused e
  | .pending => s.txnRefused e
  | .prepared => s.txnRefused e

/-- ROLLBACK. -/
def State.txnRollback (s : State) (e : Entry) (k : SlotId) : State :=
  if (s.slot k).open then (s.rollBack k 13 (halfAt e 2)).applied e else s.txnRefused e

/-- A record of ring 1 as it is read (R370). -/
def State.txnRecord (e : Entry) (s : State) : State :=
  let b := (byteAt e 8).toNat
  if hdrAt (hdrOf e) || decide (4 ≤ b) then s.txnRefused e
  else
    match (byteAt e 0).toNat with
    | 0x10 => s.txnBegin e (Fin.ofNat 4 b)
    | 0x11 => s.txnStage e (Fin.ofNat 4 b)
    | 0x12 => s.txnCommit e (Fin.ofNat 4 b)
    | 0x13 => s.txnRollback e (Fin.ofNat 4 b)
    | _ => s.txnRefused e

def execBegin (h : RecHdr) (slot flags : Byte) (txid target : Word) (s : State) : Host.Outcome State Fault Refusal :=
  whenLive s (State.txnRecord (beginEntry h slot flags txid target))

def execStage (h : RecHdr) (slot count : Byte) (i0 : Half) (v0 : Word) (i1 : Half) (v1 : Word) (i2 : Half) (v2 : Word) (s : State) :
    Host.Outcome State Fault Refusal :=
  whenLive s (State.txnRecord (stageEntry h slot count i0 v0 i1 v1 i2 v2))

def execCommit (h : RecHdr) (slot : Byte) (seq expect : Word) (s : State) : Host.Outcome State Fault Refusal :=
  whenLive s (State.txnRecord (commitEntry h slot seq expect))

def execRollback (h : RecHdr) (slot : Byte) (s : State) : Host.Outcome State Fault Refusal :=
  whenLive s (State.txnRecord (rollbackEntry h slot))

/-! ### The coming slack point -/

/-- The tide index of the coming slack point; that of an adopted boundary follows the mate's (R399). -/
def State.tideNext (s : State) : Word := if s.haws.adopt then s.haws.mateTide + 1 else s.tim.tideIndex + 1

/-- The period words pending together, in ascending offset. -/
def State.periodPend (s : State) : List (Nat × Word) := s.setupPend.filter (fun v => periodWords.contains v.1)

/-- The state as it would stand with every pending period word in force. -/
def State.withPeriods (s : State) : State :=
  { s with setup := s.periodPend.foldl (fun m v => mapSet setupReset m v.1 v.2) s.setup }

/-- A pending period word changes a region that is not OFF (R69). -/
def State.periodBusy (s : State) (o : Nat) : Bool :=
  if o = 0x1004 then !s.supOff
  else (periodWordRegions o).any (fun r => if r = .sup then !s.supOff else !s.offOrSafe r)

/-- The pending period words pass every case of R69 together (R498). -/
def State.periodsPass (s : State) : Bool :=
  let t := s.withPeriods
  !(s.periodPend.any (fun v => s.periodBusy v.1)) && t.periodsNow.valid && t.periodsHold &&
  decide (t.cfgN 0x5004 < t.periodTicks .spn) && decide (t.cfgN 0x2014 + 12000 ≤ t.tideTicks)

/-- The state with the period words that will be in force at the coming slack point. -/
def State.atSlack (s : State) : State := if s.periodPend ≠ [] ∧ s.periodsPass then s.withPeriods else s

/-! ### The vote instant (R372, R373, R375, R380, R382) -/

/-- a is at or beyond b in serial order. -/
def serialGe (a b : Word) : Bool := decide (0 ≤ (a - b).toInt)

/-- A PENDING commit is due at the coming slack point: read 2 us before it, and gated (R352). -/
def State.commitDue (s : State) (x : Slot) : Bool :=
  decide (800 ≤ (s.boundaryTime - x.readAt).toInt) && serialGe s.host.commit x.seq

/-- The first check of R373 that fails, as reason and word 1. `base` is 5 or 6 where R372 has refused the commit already, 0 otherwise. -/
def State.commitFails (s : State) (x : Slot) (base : Nat) : Option (Nat × Word) :=
  if x.expect ≠ s.txn.epoch then some (4, s.txn.epoch)
  else if base ≠ 0 then some (base, x.target)
  else
    match ({ s.atSlack with params := s.candidate x.staged }).relBroken with
    | some id => some (7, wd id)
    | none =>
      match s.stateBroken x.staged with
      | some w => some (8, w)
      | none =>
        if s.power.devSafe then some (9, 0)
        else if x.pair ∧ s.haws.pair ≠ .paired then some (10, wd (pairCode s.haws.pair))
        else none

/-- Insert a slot behind those whose COMMIT was read no later. -/
def State.slotBy (s : State) (k : SlotId) : List SlotId → List SlotId
  | [] => [k]
  | x :: xs => if (s.slot k).order < (s.slot x).order then k :: x :: xs else x :: s.slotBy k xs

/-- PENDING slots that wait for their V, in the order of their reading. -/
def State.waiting (s : State) : List SlotId :=
  (allSlots.filter (fun k => decide ((s.slot k).state = .pending))).foldl (fun ks k => s.slotBy k ks) []

/-- Refuse a slot that R372 turns away. -/
def State.turnAway (s : State) (k : SlotId) (base : Nat) : State :=
  match s.commitFails (s.slot k) base with
  | some f => s.commitRefused k f.1 f.2
  | none => s

/-- A slot names a tide that has passed, or names the coming one and is not due (R372, R375). -/
def State.targetPassed (s : State) (x : Slot) : Bool :=
  decide (x.target ≠ 0) && serialGe s.tideNext x.target && (decide (x.target ≠ s.tideNext) || !s.commitDue x)

/-- The due commit of the coming slack point (R372). -/
def State.dueCommit (s : State) : Option SlotId :=
  match s.waiting.find? (fun k => decide ((s.slot k).target = s.tideNext) && decide ((s.slot k).target ≠ 0) && s.commitDue (s.slot k)) with
  | some k => some k
  | none => s.waiting.find? (fun k => decide ((s.slot k).target = 0) && s.commitDue (s.slot k))

/-- Judge the due commit: latch it, enter PREPARED, or refuse it. -/
def State.judgeCommit (s : State) (k : SlotId) : State :=
  let x := s.slot k
  match s.commitFails x 0 with
  | some f => s.commitRefused k f.1 f.2
  | none =>
    if x.pair then
      ((s.modSlot k (fun x => { x with state := .prepared })).modTxn (fun t => { t with
        next := ⟨.prepared, x.txid, x.target⟩ })).raiseTxn evPairPrepared k.val 0 0 x.tag
    else s.modSlot k (fun x => { x with passed := true })

/-- What ends a PREPARED commit at its V of n + 2; 0 where it applies (R382). A refusal mark is a mark that has arrived; of the other causes the
lowest code names it. -/
def State.pairEnds (s : State) (x : Slot) : Nat :=
  let got := fun k => decide ((⟨k, x.txid, x.target⟩ : Mark) ∈ s.txn.got)
  firstRank [rank 2 (got .refusal), rank 1 (!got .prepared), rank 3 s.power.devSafe, rank 4 s.power.brownout]

/-- Decide a PREPARED slot at its V of n + 2. -/
def State.decidePrepared (s : State) (k : SlotId) : State :=
  let x := s.slot k
  if x.state ≠ .prepared ∨ x.passed ∨ x.target + 2 ≠ s.tideNext then s
  else if s.pairEnds x = 0 then s.modSlot k (fun x => { x with passed := true })
  else
    ((s.closeSlot k).modTxn (fun t => { t with aborted := some ⟨x.txid, s.tideNext, BitVec.ofNat 8 k.val, x.tag⟩ })).raiseTxn
      evPairCommitAborted k.val (wd (s.pairEnds x)) 0 x.tag

/-- A prepared or refusal mark is carried until the end of the V of n + 2 (R380). -/
def State.endMark (s : State) : State :=
  let m := s.txn.mine
  if (m.kind = .prepared ∨ m.kind = .refusal) ∧ m.tide + 2 = s.tideNext then s.modTxn (fun t => { t with mine := {} }) else s

/-- A decision latched for the coming slack point. -/
def State.latched (s : State) : Option SlotId := allSlots.find? (fun k => (s.slot k).passed)

/-- V (R373): a PREPARED commit is decided; while brownout hold holds nothing else is (R375). A commit that names a passed tide, or is
not chosen for the tide it names, is refused; the due one is judged. -/
def doVoteInstant (s0 : State) : State :=
  let s := (each allSlots State.decidePrepared s0).endMark
  if s.power.brownout then s
  else
    let s1 := each s.waiting (fun s k => if s.targetPassed (s.slot k) then s.turnAway k 5 else s) s
    let due := if s1.latched.isSome then none else s1.dueCommit
    let s2 := each s1.waiting (fun s k =>
      if decide ((s.slot k).target = s.tideNext) && decide ((s.slot k).target ≠ 0) && decide (due ≠ some k) then s.turnAway k 6 else s) s1
    match due with
    | some k => s2.judgeCommit k
    | none => s2

/-- VOTE_INSTANT (R373). -/
def execVoteInstant (s : State) : Host.Outcome State Fault Refusal := whenLive s doVoteInstant

/-! ### The slack point (R376, R378, R383) -/

/-- The parameter epoch after a commit (R378). -/
def epochAfter (e : Word) : Word := if e = 0xFFFFFFFF then 1 else e + 1

/-- Apply the decision latched at V, in the tide that starts here. A pair commit carries an applied mark and waits for the mate's. -/
def State.applyDecision (s : State) : State :=
  match s.latched with
  | none => s
  | some k =>
    let x := s.slot k
    let n := epochAfter s.txn.epoch
    let s1 := ((s.swap x.staged).closeSlot k).modTxn (fun t => { t with epoch := n, lastTide := s.tim.tideIndex })
    let s2 := s1.raiseTxn evCommitApplied k.val (wd x.count) n x.tag
    let s3 := if x.note then s2.raiseHst evCmdApplied 0 0 x.tag else s2
    let s4 := s3.trace .commit x.record
    if x.pair then
      let seen := s.txn.got.any (fun m => decide (m.kind = .applied) && decide (m.id = x.txid))
      s4.modTxn (fun t => { t with
        mine := ⟨.applied, x.txid, s.tim.tideIndex⟩,
        await := if seen then none else some ⟨x.txid, s.tim.tideIndex, BitVec.ofNat 8 k.val, x.tag⟩ })
    else s4

/-- The marks at a slack point: the applied mark ends at n + 3, with COMMIT_UNCONFIRMED where the mate's has not come; the mark of the
tide that starts here is carried; the mate's older marks are forgotten (R380, R383). -/
def State.marksTide (s : State) : State :=
  let now := s.tim.tideIndex
  let s1 := match s.txn.await with
    | some a =>
      if a.tide + 1 = now then
        (s.modTxn (fun t => { t with await := none })).raiseTxn evCommitUnconfirmed a.slot.toNat 0 0 a.tag
      else s
    | none => s
  s1.modTxn (fun t => { t with
    mine := if t.next.kind ≠ .none ∧ t.next.tide = now then t.next
      else if t.mine.kind = .applied ∧ t.mine.tide + 1 = now then {} else t.mine,
    next := if t.next.tide = now then {} else t.next,
    got := t.got.filter (fun m => decide ((now - m.tide).toInt ≤ 4)) })

end Sys2Proof.Machine
end

