-- ==== Sys2Proof/Machine/Period.lean ====
section
/-! DEFINITION. The start of a region period: setup registers that wait for it, halts, the timing bridge, accumulator windows, dead
times and slew strengths, mode moves, and the steps of the brake test (R17, R45, R65, R68, R116, R146, R147, R152, R160, R171, R184, R191,
R307). -/

namespace Sys2Proof.Machine

/-! ### Setup registers that apply at a period start (R17, R18) -/

/-- Refuse a write of a timing register (R69): `TIM.STATUS.SETUP_REFUSED`, the offset, PERIOD_REFUSED. -/
def State.periodRefused (s : State) (o : Nat) (v : Word) : State :=
  (s.modTim (fun t => { t with refused := true, refusedOfs := BitVec.ofNat 16 o })).raiseReg evPeriodRefused .sup (wd o) v

/-- The writes that wait for the period start of a region. -/
def State.periodWaits (s : State) (r : RegionId) : RegMap :=
  s.setupPend.filter (fun v => match setupRow v.1 with | some x => decide (x.app = .period r) | none => false)

/-- One waiting write takes effect. `HST.FETCH_PHASE` and `SPN.EXT_OFFSET` are judged against the periods now in force (R263, R363; log
29). -/
def State.takeWord (s : State) (v : Nat × Word) : State :=
  if v.1 = 0x2014 ∧ ¬ (v.2.toNat + 12000 ≤ s.tideTicks) then s.setupRefused
  else if v.1 = 0x5004 ∧ ¬ (v.2.toNat < s.periodTicks .spn) then s.periodRefused v.1 v.2
  else { s with setup := mapSet setupReset s.setup v.1 v.2 }

/-- `HST.CTRL.RUN` as it stands now (R363): set, the device fetches; cleared, it stops. -/
def State.runFollows (s : State) : State :=
  if s.cfgBit 0x2000 0 then (s.modHost (fun h => { h with running := true })).flushVectors
  else s.modHost (fun h => { h with running := false, manOut := [], reads := [], toRead := [], open3 := false })

/-- Every write that waits for the period start of a region takes effect. -/
def State.setupPeriod (s : State) (r : RegionId) : State :=
  let ws := s.periodWaits r
  let s1 := each ws State.takeWord { s with setupPend := s.setupPend.filter (fun v => !(ws.map Prod.fst).contains v.1) }
  match r with
  | .hst => s1.runFollows
  | .sup => s1.extSuspend
  | _ => s1

/-! ### Halt of a region (R45) -/

/-- A law cluster of a halted region halts at the end of its run, or at once between runs (R129). -/
def State.haltLaw (s : State) (l : LawId) : State :=
  if (s.law l).halted then s
  else if (s.law l).flight.isSome then s.modLaw l (fun x => { x with haltReq := true })
  else (s.modLaw l (fun x => { x with haltReq := false, halted := true, cycle := formCycles (lawForm l) })).raiseLaw evDebugHalted l 0xFF 0 0

/-- A bridge cluster becomes HALTED with both switches off (R43, R171). An isolated one, whose timers and switches stand already, stays in
ISOLATE, which only a reset leaves (R135; DEDUCED, log 27). -/
def State.haltBridge (s : State) (b : BridgeId) : State :=
  if (s.brg b).arm = .halted then s
  else if s.isIso b then s.raiseBrg evBrgHalted b 0xFF 0 0
  else
    ((s.modBrg b (fun x => { x with
      arm := .halted, before := x.arm, resume := false, cmdHi := false, cmdLo := false, hiOn := false, loOn := false, gap := none })).drive
        b).raiseBrg evBrgHalted b 0xFF 0 0

/-- An accepted halt takes effect. -/
def State.haltRegion (s : State) (r : RegionId) : State :=
  let s1 := (s.modReg r (fun x => { x with halted := true, haltReq := false, resumeReq := false })).raiseReg evRegionHalted r 0 0
  let s2 := each (regLaws r) State.haltLaw (s1.modDbg (fun d => { d with region := BitVec.ofNat 3 (regCode r) }))
  let s3 := each (regBridges r) State.haltBridge s2
  each (regSns r) (fun s n => s.modSns n (fun y => { y with stopped := true, busy := 0 })) s3

/-- Halts and resumes of a region at its period start. -/
def State.haltsPeriod (s : State) (r : RegionId) : State :=
  let x := s.reg r
  if x.haltReq then s.haltRegion r
  else if x.resumeReq then s.modReg r (fun x => { x with halted := false, resumeReq := false })
  else s

/-! ### The timing bridge (R68) -/

/-- The keeper of P at this instant: the lowest-numbered bridge not in ISOLATE, else the tide master. -/
def State.keeperNow (s : State) (r : RegionId) : BitVec 4 :=
  match (regBridges r).find? (fun b => !s.isIso b) with
  | some b => BitVec.ofNat 4 (brgClu b)
  | none => 0xF

/-- TIMING_BRIDGE_MOVED where the keeper has changed; it carries SUP (R81). -/
def State.keepPeriod (s : State) (r : RegionId) : State :=
  let now := s.keeperNow r
  let s1 := s.modReg r (fun x => { x with keeper := some now })
  match (s.reg r).keeper with
  | some old =>
    if old = now then s1
    else s1.raise evTimingBridgeMoved 0 now.toNat 0xFF (wd old.toNat) 0
  | none => s1

/-! ### Bridges (R146, R147, R152, R160, R171) -/

/-- Dead time moved toward its target by at most 2.5 ns, eight units, and clamped (R146). -/
def dtMove (now target lo hi : Nat) : Nat := max lo (min hi (if now < target then min target (now + 8) else max target (now - 8)))

/-- One dead time at a period start: adapted, or `DT_INIT`; the periods at `DT_MAX` are counted (R147). -/
def dtStep (adapt : Bool) (init lo hi : Nat) (d : DeadTime) : DeadTime :=
  let n := if adapt then dtMove d.now d.target lo hi else init
  { d with now := n, atMax := if n = hi then d.atMax + 1 else 0, told := d.told && decide (n = hi) }

/-- The strength of one transition type (R152): one down above `DVDT_MAX`, one up below 0.8 of it. -/
def slewStep (committed : Nat) (limit : F32) (x : Slew) : Slew :=
  let v := x.dvdt
  if !x.fresh then x
  else if F.lt limit v then
    (if x.str ≤ 1 then { x with above := x.above + 1 } else { x with str := x.str - 1, above := 0, told := false })
  else
    { x with
      str := if F.lt v (F.mul (F.dec 8 (-1)) limit) then min committed (x.str + 1) else x.str
      above := 0
      told := false }

/-- The adaptations of an armed bridge; the trip window runs down. -/
def State.adaptBridge (s : State) (b : BridgeId) : State :=
  if !s.isArmed b then s
  else
    let adapt := s.parOn (brgId b 0x07)
    let lo := secUnits (s.brgP b 0x04)
    let hi := secUnits (s.brgP b 0x05)
    let s1 := s.modBrg b (fun x => { x with winLeft := x.winLeft - 1 })
    let s2 := if brgKind b = .hv then
        s1.modBrg b (fun x => { x with
          dtHl := dtStep adapt (secUnits x.dtInit) lo hi x.dtHl, dtLh := dtStep adapt (secUnits x.dtInit) lo hi x.dtLh })
      else s1
    if brgKind b ≠ .act ∧ s.parOn (brgId b 0x16) then
      s2.modBrg b (fun x => { x with
        slew := Vector.ofFn (fun g => slewStep (s.segStr b g) (s.brgP b 0x15) x.slew[g]) })
    else s2

/-- A bridge resumed through the debug registers returns to its arm state before the halt (R171). -/
def State.resumeBridge (s : State) (b : BridgeId) : State :=
  let x := s.brg b
  if x.arm = .halted ∧ x.resume then ((s.modBrg b (fun x => { x with arm := x.before, resume := false })).drive b).evalTrips b else s

/-! ### The brake test (R307) -/

/-- The reference at the end of a step. -/
def State.testTarget (s : State) (step : Nat) : F32 :=
  if step = 1 then s.brkP 0x30 else if step = 3 then F.neg (s.brkP 0x30) else F.zero

/-- The side that follows in the test. -/
def State.testNext (s : State) (t : BrakeTest) : Option Side :=
  match t.side, s.btSel .b with
  | .a, true => some .b
  | .a, false => none
  | .b, _ => none

/-- Step 5 has ended: the next region, or BRAKE_TEST_PASS; the brake stays APPLIED. -/
def State.testSideDone (s : State) (t : BrakeTest) : State :=
  match s.testNext t with
  | some x => s.modBrake (fun b => { b with
      test := some { side := x, step := 0, torque := 0, held := 0, enc := 0, encSet := false, tag := t.tag } })
  | none => (s.modBrake (fun b => { b with mode := .applied, test := none, testFailed := false })).raiseBrk evBrakeTestPass 0xFF 0 0 t.tag

/-- A ramp step moves its reference; at its end the next step begins. -/
def State.testRamp (s : State) (t : BrakeTest) : State :=
  let goal := s.testTarget t.step
  let step := F.mul (s.brkP 0x31) (s.tSec (sideReg t.side))
  if F.eq t.torque goal then
    (if t.step = 5 then s.testSideDone t
     else s.modBrake (fun b => { b with test := some { t with step := t.step + 1, held := F.zero } }))
  else
    s.modBrake (fun b => { b with
      test := some { t with torque := if F.le (F.abs (F.sub goal t.torque)) step then goal else F.slew t.torque goal step } })

/-- A hold step: after `BT_HOLD` the measured |i_q| must reach 0.9 of the table's. -/
def State.testHold (s : State) (t : BrakeTest) : State :=
  let held := F.add t.held (s.tSec (sideReg t.side))
  if F.lt held (s.brkP 0x32) then s.modBrake (fun b => { b with test := some { t with held := held } })
  else
    let want := F.mul (F.dec 9 (-1)) (F.abs (s.mtpa (focLaw t.side) (s.brkP 0x30)).2)
    if F.lt (F.abs (s.tr t.side).iq) want then s.failBrakeTest t 2
    else s.modBrake (fun b => { b with test := some { t with step := t.step + 1, held := F.zero } })

/-- The running test at the period start of the region under test. -/
def State.testPeriodOf (s : State) (x : Side) : State :=
  match s.brake.test with
  | none => s
  | some t =>
    if t.side ≠ x then s
    else if t.step = 0 then
      s.modBrake (fun b => { b with test := some { t with step := 1, torque := F.zero, enc := (s.tr x).enc, encSet := true } })
    else if t.step = 2 ∨ t.step = 4 then s.testHold t
    else s.testRamp t

/-! ### Mode moves -/

/-- The moves of each region at its period start. -/
def State.modePeriod (s : State) : RegionId → State
  | .tra => (s.trPeriod .a).testPeriodOf .a
  | .trb => (s.trPeriod .b).testPeriodOf .b
  | .spn => s.extPeriod.spPeriod
  | .chg => s.chgPeriod
  | .act => s.actPeriod
  | .sup =>
    ((s.brakePeriod.setRun 14 .running).setRun 15 .running).modTherm (fun t => { t with
      last := t.cur, cur := Vector.replicate 38 {} })
  | .hst => s

/-- A REGION-SAFE that waits for this period start (R116). -/
def State.safePeriod (s : State) (r : RegionId) : State :=
  match (s.reg r).safeDue with
  | some c => (s.modReg r (fun x => { x with safeDue := none })).regionSafe r c
  | none => s

/-- The sense clusters of a region: the window of region-period accumulators ends, latch bits clear (R184, R191). -/
def State.sensePeriod (s : State) (r : RegionId) : State :=
  each (regSns r) (fun s n => each (winsOf n) State.clearLatches (s.accEnd n 1)) s

/-- The start of the next period of a region; none begins beyond the ratio before the next tide boundary (R65). Before the region has
started, its period is only counted (R33). -/
def doRegionPeriod (r : RegionId) (s : State) : State :=
  if s.ratio r ≤ (s.reg r).periods.toNat then s
  else
    let s1 := s.modReg r (fun x => { x with periods := x.periods + 1 })
    let s0 := s1.reach (s1.periodStart r)
    if !s0.cluUp r 0 then s0 else
    let s2 := s0.setupPeriod r
    let s3 := (((s2.safePeriod r).haltsPeriod r).keepPeriod r).sensePeriod r
    let s4 := each (regBridges r) (fun s b => (s.resumeBridge b).adaptBridge b) (s3.runPeriod r)
    (s4.modePeriod r).testGuard

/-- The period start as a whole: whatever it moves, the period is counted once, and no other region's (R65). -/
def regionPeriod (r : RegionId) (s : State) : State :=
  let t := doRegionPeriod r s
  let n := fun (q : RegionId) => if q = r ∧ (s.reg r).periods.toNat < s.ratio r then (s.reg q).periods + 1 else (s.reg q).periods
  each allRegs (fun t q => t.modReg q (fun x => { x with periods := n q })) t

/-- REGION_PERIOD_START (R65). -/
def execRegionPeriodStart (r : RegionId) (s : State) : Host.Outcome State Fault Refusal :=
  doneSetup s (if s.live then regionPeriod r s else s)

end Sys2Proof.Machine
end

