-- ==== Sys2Proof/Machine/Writes.lean ====
section
/-! DEFINITION. Register accesses over PCIe and the setup SPI port: writes, reads that capture or clear, and their refusals (R14, R15,
R17 to R19, R45, R61, R69, R128, R170, R185, R188, R199, R200, R338, R341, R342, R361 to R364, R433, R478, R498). -/

namespace Sys2Proof.Machine

/-- BAR0 and the setup SPI port answer from 300 us after T0 (R465). -/
def State.answers (s : State) : Bool := s.live && decide (120000 ≤ s.tim.devTime.toNat)

/-! ### Setup registers of HST (R363, R364) -/

/-- `HST.CTRL.RUN` as a read shows it: pending on top of what is in force. -/
def State.runBit (s : State) : Bool := (s.cfgRead 0x2000).getLsbD 0

/-- R364: rings 0, 1 and 3 are enabled and every address is aligned. -/
def State.mayRun (s : State) : Bool :=
  ([0, 1, 3] : List Nat).all (fun n => (s.cfgRead (0x2048 + 0x10 * n)).getLsbD 8) &&
  decide ((s.cfgRead 0x2004).toNat % 128 = 0) && decide ((s.cfgRead 0x200C).toNat % 128 = 0) &&
  (List.range 16).all (fun n => decide ((s.cfgRead (0x2040 + 0x10 * n)).toNat % 32 = 0))

/-- The fields of a register that a write may change while `RUN` = 1 (R364); none for a register that is not locked. -/
def lockedRest (o : Nat) : Option Nat :=
  if o = 0x2018 then some 0x00FF
  else if 0x2004 ≤ o ∧ o ≤ 0x2014 ∨ o = 0x2020 then some 0xFFFFFFFF
  else if 0x2040 ≤ o ∧ o < 0x2140 then (if o % 16 = 8 then some 0x010F else some 0xFFFFFFFF)
  else none

/-- A write that `RUN` = 1 refuses: one to a locked register that is more than a change of its vector and `IRQ_EN` fields. -/
def State.lockedWrite (s : State) (o : Nat) (v : Word) : Bool :=
  s.runBit && (match lockedRest o with
    | none => false
    | some k => decide (k = 0xFFFFFFFF) || decide ((v ^^^ s.cfgRead o).toNat &&& k ≠ 0))

/-- A value outside the range its register states (R363, R413); its write is refused (DEDUCED, log 33). -/
def outOfRange (o : Nat) (v : Nat) : Bool :=
  if o = 0x2018 then decide (v % 256 < 2)
  else if o = 0x2020 then decide (v % 512 = 0) || decide (256 < v % 512) || decide (4 < v / 65536)
  else if 0x2040 ≤ o ∧ o < 0x2140 ∧ o % 16 = 8 then decide (v % 16 < 4) || decide (12 < v % 16)
  else if o = 0x9000 then decide (v / 2 % 4 = 3)
  else false

/-- The write of a masked value to an HST register is refused (R364). -/
def State.writeBarred (s : State) (o : Nat) (v : Word) : Bool :=
  if o = 0x2000 then (if v.getLsbD 0 then !s.runBit && !s.mayRun else s.runBit && s.anyArmed)
  else s.lockedWrite o v || outOfRange o v.toNat

/-- A write of a setup register (R17, R18): refused, in force at once, or pending until its period start or the tide boundary. -/
def State.writeSetup (s : State) (o : Nat) (r : SRow) (v : Word) : State :=
  let x := v &&& BitVec.ofNat 32 r.mask
  if s.writeBarred o x then s.setupRefused
  else if r.app = .atOnce then { s with setup := mapSet setupReset s.setup o x }
  else { s with setupPend := mapIns s.setupPend o x }

/-! ### Registers with bits that act -/

/-- The W1C rule (R14, R15): ones clear, and what the device sets in the same cycle stays set. -/
def w1c {n : Nat} (old v setNow : BitVec n) : BitVec n := (old &&& ~~~v) ||| setNow

/-- The same for one bit of the word written. -/
def w1cBit (old : Bool) (i : Nat) (v setNow : Word) : Bool := (old && !v.getLsbD i) || setNow.getLsbD i

/-- The latch bits of a word of `WIN.LATCH_HI` or `WIN.LATCH_LO` (R200). -/
def State.writeLatch (s : State) (first count : Nat) (c : Bool) (v setNow : Word) : State :=
  each (List.range count) (fun s i => s.modWin (Fin.ofNat 48 (first + i)) (fun w =>
    if c then { w with hi := { w.hi with latch := w1cBit w.hi.latch i v setNow } }
    else { w with lo := { w.lo with latch := w1cBit w.lo.latch i v setNow } })) s

/-- The registers whose bits clear when written with 1; any other offset is left alone. -/
def State.writeW1c (s : State) (o : Nat) (v setNow : Word) : State :=
  if o = 0x1030 then s.modTim (fun t => { t with refused := w1cBit t.refused 4 v setNow })
  else if o = 0x2028 then s.modHost (fun h => { h with alert := w1c h.alert (v.extractLsb' 0 5) (setNow.extractLsb' 0 5) })
  else if o = 0x8C00 then s.writeLatch 0 32 true v setNow
  else if o = 0x8C04 then s.writeLatch 32 16 true v setNow
  else if o = 0x8C08 then s.writeLatch 0 32 false v setNow
  else if o = 0x8C0C then s.writeLatch 32 16 false v setNow
  else if 0x8000 ≤ o ∧ o < 0x8C00 ∧ o % 0x100 = 0 then
    s.modSns (Fin.ofNat 12 ((o - 0x8000) / 0x100)) (fun n => { n with lqOvf := w1cBit n.lqOvf 1 v setNow })
  else if o = 0xC014 then s.modDbg (fun d => { d with refused := w1cBit d.refused 1 v setNow })
  else if o = 0xC028 then s.modDbg (fun d => { d with brgRefused := w1cBit d.brgRefused 1 v setNow })
  else if o = 0xC048 then s.modDbg (fun d => { d with regRefused := w1cBit d.regRefused 4 v setNow })
  else s

/-- The MSI-X table (R361): a vector that waits is sent when its mask bit falls. -/
def State.writeMsix (s : State) (o : Nat) (v : Word) : State :=
  let k : Fin 16 := Fin.ofNat 16 ((o - 0x2800) / 16)
  if o % 16 = 0 then s.modHost (fun h => { h with msixAddr := h.msixAddr.set k (hi32 h.msixAddr[k] ++ v) })
  else if o % 16 = 4 then s.modHost (fun h => { h with msixAddr := h.msixAddr.set k (v ++ lo32 h.msixAddr[k]) })
  else if o % 16 = 8 then s.modHost (fun h => { h with msixData := h.msixData.set k v })
  else
    let b : BitVec 16 := BitVec.ofNat 16 (2 ^ k.val)
    (s.modHost (fun h => { h with msixMask := if v.getLsbD 0 then h.msixMask ||| b else h.msixMask &&& ~~~b })).flushVectors

/-- `DBG.LAW_SEL` may be written (R45, R128): not while a law cluster is halted, but within a halted region its clusters may be
selected. -/
def State.lawSelOpen (s : State) (k : LawId) : Bool :=
  allLaws.all (fun l => !(s.law l).halted) || (s.reg (lawReg k)).halted

/-- The selectors and operands of the debug registers (R45, R128, R170). -/
def State.writeDbg (s : State) (o : Nat) (v : Word) : State :=
  if o = 0xC000 then
    (if s.lawSelOpen (Fin.ofNat 16 (v.toNat % 16)) then s.modDbg (fun d => { d with lawSel := v.extractLsb' 0 4 }) else s)
  else if o = 0xC008 then
    -- 1 to 1,023; a zero is discarded (DEDUCED, log 33)
    (if v.extractLsb' 0 10 = (0 : BitVec 10) then s else s.modDbg (fun d => { d with stepCount := v.extractLsb' 0 10 }))
  else if o = 0xC00C then s.modDbg (fun d => { d with addr := v.extractLsb' 0 10 })
  else if o = 0xC020 then s.modDbg (fun d => { d with brgSel := v.extractLsb' 0 8 })
  else if o = 0xC040 then
    (if allRegs.any (fun r => (s.reg r).halted) then s else s.modDbg (fun d => { d with regSel := v.extractLsb' 0 3 }))
  else s

/-- A write of `DBG.DATA` (R131): only to run-state words of a halted cluster, in all three replicas. -/
def doDbgDataWrite (v : Word) (s : State) : State :=
  let l : LawId := Fin.ofNat 16 s.dbg.lawSel.toNat
  if (s.law l).halted ∧ s.dbg.addr.toNat < runLen (lawForm l) then s.modLaw l (fun x => x.setAll s.dbg.addr.toNat v)
  else s.modDbg (fun d => { d with refused := true })

/-- A write to a unit's block (R433, R436); `CHKn.RESULT` is read only. -/
def State.writeChk (s : State) (o : Nat) (v : Word) : State :=
  let n : ChkId := Fin.ofNat 8 ((o - 0xA800) / 0x20)
  let k := (o - 0xA800) % 0x20
  if k = 0 then doChkContext n .value v s
  else if k = 4 then doChkContext n .alive v s
  else if k = 8 then doChkContext n .length v s
  else if k = 12 then doChkRestart n v s
  else if k = 16 then doFeedB n v s
  else if k = 20 then doFeedH n v s
  else if k = 24 then doFeedW n v s
  else s

/-- An accepted write of the register at an aligned BAR0 offset. Read-only and reserved registers discard it (R14, R19); factory trim
refuses it (R478). -/
def State.writeReg (s : State) (o : Nat) (v setNow : Word) : State :=
  match setupRow o with
  | some r => s.writeSetup o r v
  | none =>
    if o = 0x0010 ∨ o = 0x0014 then s.raisePkg evTrimWriteRefused 0 0
    else if 0x2800 ≤ o ∧ o < 0x2900 then s.writeMsix o v
    else if 0xA800 ≤ o ∧ o < 0xA900 then s.writeChk o v
    else if o = 0xC010 then doDbgDataWrite v s
    else (s.writeW1c o v setNow).writeDbg o v

/-! ### Ports (R338, R341, R342) -/

/-- One register write over the setup SPI port: refused with `STRAP_SPIW` low, and always from 0xC000 on (R342). -/
def State.spiWord (s : State) (o : Nat) (v setNow : Word) : State :=
  if !s.power.straps.spiw || decide (0xC000 ≤ o) then s.raiseHst evSpiWriteRefused 0 0 0 else s.writeReg o v setNow

/-- A write over a port. PCIe discards one that is misaligned or partial (R338); an SPI frame at an offset that is no multiple of 4 is
ignored (R341). -/
def doWrite (p : Port) (o : Nat) (be : BitVec 4) (v setNow : Word) (s : State) : State :=
  if !s.answers then s
  else
    match p with
    | .pcie => if o % 4 ≠ 0 ∨ be ≠ 15 then s.raiseHst evHostAccessBad 0 0 0 else s.writeReg o v setNow
    | .spi => if o % 4 ≠ 0 then s else s.spiWord o v setNow

/-- TIMING_SETUP_WRITE (R69, R498): the value waits for the next tide boundary. -/
def execTimingSetupWrite (p : Port) (offset : Half) (v : Word) (s : State) : Host.Outcome State Fault Refusal :=
  doneSetup s (doWrite p offset.toNat 15 v 0 s)

/-- HST_RUN_SET (R364): a write of `HST.CTRL` with `RUN` = 1. -/
def execHstRunSet (p : Port) (v : Word) (s : State) : Host.Outcome State Fault Refusal :=
  doneSetup s (doWrite p 0x2000 15 (v ||| 1) 0 s)

/-- HST_RUN_CLEAR (R364): a write of `HST.CTRL` with `RUN` = 0. -/
def execHstRunClear (p : Port) (v : Word) (s : State) : Host.Outcome State Fault Refusal :=
  doneSetup s (doWrite p 0x2000 15 (v &&& ~~~1) 0 s)

/-! SPI frames (R341): the bytes that the host sends while chip select is low. A frame that ends within its first three is ignored. -/

/-- A frame is served: the port answers, the frame has this command, and its offset is a multiple of 4; any other frame is ignored. -/
def State.spiServes (s : State) (cmd : Byte) (h : SpiHead) : Bool :=
  s.answers && decide (h.cmd = cmd) && decide (h.offset.toNat % 4 = 0)

/-- The registers of a write frame whose four bytes are complete, bits [7:0] first. -/
def spiData : List Byte → List Word
  | b0 :: b1 :: b2 :: b3 :: rest => (b3 ++ b2 ++ b1 ++ b0) :: spiData rest
  | _ => []

/-- The registers in order, the offset advancing by 4 and wrapping. -/
def State.spiWords (s : State) : Nat → List Word → State
  | _, [] => s
  | o, v :: vs => State.spiWords (s.spiWord o v 0) ((o + 4) % 0x10000) vs

/-- A write frame: command 0x02, the offset, the data. -/
def doSpiWrite (h : SpiHead) (bytes : List Byte) (s : State) : State :=
  if s.spiServes 2 h then s.spiWords h.offset.toNat (spiData bytes) else s

/-- SPI_WRITE (R341, R342). -/
def execSpiWrite (h : SpiHead) (bytes : List Byte) (s : State) : Host.Outcome State Fault Refusal := doneSetup s (doSpiWrite h bytes s)

/-! ### Reads (R14, R15, R61, R185, R188, R338, R342) -/

/-- A read of `TIM.DEVTIME_LO` captures device time for its port (R61). -/
def State.captureTime (s : State) (p : Port) : State :=
  s.modTim (fun t => match p with
    | .pcie => { t with capPcie := t.devTime }
    | .spi => { t with capSpi := t.devTime })

/-- A read of `ACC_SUM_LO` captures the channel's snapshot for its port (R185). -/
def State.captureAcc (s : State) (p : Port) (c : ChanId) : State :=
  s.modChan c (fun x => match p with
    | .pcie => { x with capPcie := x.snap }
    | .spi => { x with capSpi := x.snap })

/-- The channel whose `ACC_SUM_LO` stands at an offset (R199). -/
def accChan (o : Nat) : Option ChanId :=
  if 0x8000 ≤ o ∧ o < 0x8C00 ∧ 0x20 ≤ o % 0x100 ∧ o % 0x100 < 0xC0 ∧ o % 16 = 0 then
    (snsChans (Fin.ofNat 12 ((o - 0x8000) / 0x100)))[(o % 0x100 - 0x20) / 16]?
  else none

/-- The captures that a read makes before it returns its value. -/
def State.captures (s : State) (p : Port) (o : Nat) : State :=
  if o = 0x1040 then s.captureTime p
  else match accChan o with
    | some c => s.captureAcc p c
    | none => s

/-- The read-clear fields of a law cluster's status area (R133): what the device sets in the same cycle is what they hold after. -/
def Law.clearRc (t : Law) (k : Nat) (n : Word) : Law :=
  if k = 4 then { t with reps := Vector.ofFn (fun k => { t.reps[k] with odd := n.extractLsb' (8 * k.val) 8 }) }
  else if k = 20 then { t with darnCount := n.extractLsb' 0 16 }
  else if k = 24 then { t with spreadCount := n.extractLsb' 0 16 }
  else t

/-- The read-clear fields of a controller (R436). -/
def Can.clearRc (c : Can) (k : Nat) (n : Word) : Can :=
  if k = 20 then { c with unmatched := n.extractLsb' 0 16, rxLost := n.extractLsb' 16 16 }
  else if k = 24 then { c with arbLost := n.extractLsb' 0 16, errFrames := n.extractLsb' 16 16 }
  else c

/-- The read-clear fields of the cluster status areas (R133, R173). -/
def State.clearClu (s : State) (r : RegionId) (o : Nat) (n : Word) : State :=
  match cluOf r ((o - 0xE00) / 0x20) with
  | some (.law l) => s.modLaw l (fun t => t.clearRc (o % 0x20) n)
  | some (.brg b) => if o % 0x20 = 28 then s.modBrg b (fun x => { x with desats := n.extractLsb' 0 16 }) else s
  | _ => s

/-- The read-clear fields at an offset take what the device sets in the same cycle, which is zero otherwise (R14, R15). -/
def State.clearRc (s : State) (o : Nat) (n : Word) : State :=
  let low := n.extractLsb' 0 16
  if 0x1000 ≤ o ∧ o < 0x8000 ∧ 0xE00 ≤ o % 0x1000 then
    (match blockReg o with | some r => s.clearClu r (o % 0x1000) n | none => s)
  else if o = 0x2024 then s.modHost (fun h => { h with evLost := low })
  else if o = 0x311C then s.modTr .a (fun t => { t with quiet := low })
  else if o = 0x411C then s.modTr .b (fun t => { t with quiet := low })
  else if o = 0x511C then s.modSpan (fun t => { t with aborts := low })
  else if 0x7100 ≤ o ∧ o < 0x7160 ∧ o % 0x20 = 12 then
    s.modAct (Fin.ofNat 3 ((o - 0x7100) / 0x20)) (fun x => { x with faults := low })
  else if 0x8000 ≤ o ∧ o < 0x8C00 then
    let k : SnsId := Fin.ofNat 12 ((o - 0x8000) / 0x100)
    (if o % 0x100 = 4 then s.modSns k (fun x => { x with roundMax := low })
     else if o % 0x100 = 0xF0 then s.modSns k (fun x => { x with lq := x.lq.drop 1 })
     else s)
  else if o = 0x8C2C then
    each (List.range 24) (fun s i => s.modWin (Fin.ofNat 48 i) (fun w => { w with done := n.getLsbD i })) s
  else if o = 0x9010 then s.modHaws (fun h => { h with crcErr := low })
  else if o = 0x9014 then s.modHaws (fun h => { h with lost := low })
  else if o = 0x9020 then s.modHaws (fun h => { h with losses := low })
  else if 0xA000 ≤ o ∧ o < 0xA0C0 then
    s.modCan (Fin.ofNat 3 ((o - 0xA000) / 0x40)) (fun c => c.clearRc ((o - 0xA000) % 0x40) n)
  else if o = 0xB008 then s.modWash (fun w => { w with rots := low })
  else s

/-- The bytes of a word that are enabled; the others read zero here (log 34). -/
def byteMask (be : BitVec 4) : Word :=
  packWord [(0, 8, 255 * bit (be.getLsbD 0)), (8, 8, 255 * bit (be.getLsbD 1)), (16, 8, 255 * bit (be.getLsbD 2)),
    (24, 8, 255 * bit (be.getLsbD 3))]

/-- One register read: captures, the value, then what the read clears. PCIe with all four byte enables clears (R338); SPI never (R342). -/
def State.readOne (s : State) (p : Port) (o : Nat) (be : BitVec 4) (setNow : Word) : Word × State :=
  let s1 := s.captures p o
  let v := readReg s1 p o &&& byteMask be
  (v, if p = .pcie ∧ be = 15 then s1.clearRc o setNow else s1)

/-- A read over a port; the register is the one that contains the offset (R338). -/
def doRead (p : Port) (o : Nat) (be : BitVec 4) (setNow : Word) (s : State) : State :=
  if !s.answers then s
  else
    let r := s.readOne p (o - o % 4) be setNow
    { r.2 with readOut := [r.1] }

/-- RC_READ (R14, R15, R338). -/
def execRcRead (p : Port) (offset : Half) (be : BitVec 4) (setNow : Word) (s : State) : Host.Outcome State Fault Refusal :=
  done s (doRead p offset.toNat be setNow s)

/-- DEVTIME_CAPTURE (R61). -/
def execDevtimeCapture (p : Port) (s : State) : Host.Outcome State Fault Refusal := done s (doRead p 0x1040 15 0 s)

/-- The BAR0 offset of a channel's `ACC_SUM_LO` (R199). -/
def accOfs (c : ChanId) : Nat := 0x8020 + 0x100 * (chanPos c).1.val + 0x10 * (chanPos c).2

/-- ACC_CAPTURE (R185). -/
def execAccCapture (p : Port) (c : ChanId) (s : State) : Host.Outcome State Fault Refusal := done s (doRead p (accOfs c) 15 0 s)

/-- LQ_DATA_READ (R188): a read over SPI does not remove the word (R342). -/
def execLqDataRead (p : Port) (n : SnsId) (s : State) : Host.Outcome State Fault Refusal :=
  done s (doRead p (0x80F0 + 0x100 * n.val) 15 0 s)

/-- The registers of an SPI read frame in order (R341). -/
def State.spiReads (s : State) : Nat → Nat → List Word × State
  | 0, _ => ([], s)
  | n + 1, o =>
    let r := s.readOne .spi o 15 0
    let t := State.spiReads r.2 n ((o + 4) % 0x10000)
    (r.1 :: t.1, t.2)

/-- What n bytes sent show of the registers read: the last one is cut off when chip select rises within it. -/
def spiSent (n : Nat) (vs : List Word) : List Word :=
  if n % 4 = 0 then vs else vs.dropLast ++ (vs.getLast?.map (fun v => v &&& BitVec.ofNat 32 (256 ^ (n % 4) - 1))).toList

/-- A read frame: command 0x03, the offset, a dummy byte, and one register for every four bytes or part of them. -/
def doSpiRead (h : SpiHead) (bytes : List Byte) (s : State) : State :=
  if s.spiServes 3 h then
    let n := bytes.length - 1
    let r := s.spiReads ((n + 3) / 4) h.offset.toNat
    { r.2 with readOut := spiSent n r.1 }
  else s

/-- SPI_READ (R341, R342). -/
def execSpiRead (h : SpiHead) (bytes : List Byte) (s : State) : Host.Outcome State Fault Refusal := done s (doSpiRead h bytes s)

/-! ### Check-value units (R433) -/

/-- CHK_FEED_B, CHK_FEED_H, CHK_FEED_W, CHK_RESTART and CHK_CONTEXT_WRITE: writes of the unit's registers. -/
def execChkFeedB (p : Port) (n : ChkId) (v : Byte) (s : State) : Host.Outcome State Fault Refusal :=
  doneSetup s (doWrite p (chkOfs n 0x10) 15 (v.setWidth 32) 0 s)
def execChkFeedH (p : Port) (n : ChkId) (v : Half) (s : State) : Host.Outcome State Fault Refusal :=
  doneSetup s (doWrite p (chkOfs n 0x14) 15 (v.setWidth 32) 0 s)
def execChkFeedW (p : Port) (n : ChkId) (v : Word) (s : State) : Host.Outcome State Fault Refusal :=
  doneSetup s (doWrite p (chkOfs n 0x18) 15 v 0 s)
def execChkRestart (p : Port) (n : ChkId) (s : State) : Host.Outcome State Fault Refusal :=
  doneSetup s (doWrite p (chkOfs n 0x0C) 15 1 0 s)
def execChkContextWrite (p : Port) (n : ChkId) (r : ChkReg) (v : Word) (s : State) : Host.Outcome State Fault Refusal :=
  doneSetup s (doWrite p (chkOfs n (match r with | .value => 0 | .alive => 4 | .length => 8)) 15 v 0 s)

end Sys2Proof.Machine
end

