-- ==== Sys2Proof/Machine/Debug.lean ====
section
/-! DEFINITION. The debug commands: halting, stepping and resuming law clusters, regions and bridges (R42 to R45, R128 to R132, R170, R171,
R381). -/

namespace Sys2Proof.Machine

/-- The law engine that `DBG.LAW_SEL` names (R128). -/
def State.dbgLaw (s : State) : LawId := Fin.ofNat 16 s.dbg.lawSel.toNat

/-- The region of a bridge stands in OFF or FREE; for an actuator bridge, its actuator (R43). A region in REGION-SAFE is in neither. -/
def State.restful (s : State) (b : BridgeId) : Bool :=
  match brgReg b with
  | .tra => !s.isSafe .tra && (decide (s.trShown .a = 0) || decide (s.trShown .a = 1))
  | .trb => !s.isSafe .trb && (decide (s.trShown .b = 0) || decide (s.trShown .b = 1))
  | .spn => !s.isSafe .spn && s.modeOff .spn
  | .chg => !s.isSafe .chg && s.modeOff .chg
  | .act =>
    allActs.all (fun a => !(actBridges a).contains b || decide ((s.actu a).mode = .off) || decide ((s.actu a).mode = .free))
  | .sup => true | .hst => true

/-- R43: a halt that the bridges concerned permit; the `TESTMODE` strap lifts the refusal. -/
def State.mayHalt (s : State) (bs : List BridgeId) : Bool := s.power.straps.testmode || bs.all s.restful

/-! ### Law clusters (R129, R131, R132) -/

/-- A halt refused: `DBG.STATUS.REFUSED` and HALT_REFUSED with its reason and `UNIT`. -/
def State.haltRefused (s : State) (l : LawId) (why : Word) (unit : Nat) : State :=
  (s.modDbg (fun d => { d with refused := true })).raiseLaw evHaltRefused l unit why 0

/-- The lowest-numbered replica that is not ACTIVE. -/
def Law.firstOut (x : Law) : Nat := ((allReps.find? (fun k => Decidable.decide ((x.rep k).st ≠ .active))).map (·.val)).getD 0xFF

/-- A halt request for the selected cluster (R43, R129). The reason word of a cluster that a PREPARED slot claims (R381) is not stated: a
free value (log 35). -/
def doDbgHalt (s : State) : State :=
  let l := s.dbgLaw
  if (s.law l).halted ∨ (s.law l).haltReq then s
  else if !s.mayHalt (lawBridges l) then s.haltRefused l 1 (lawClu l)
  else if !(s.law l).triplex then s.haltRefused l 2 (s.law l).firstOut
  else if s.prepHolds (lawId l 0 / 256) then s.draw.2.haltRefused l s.draw.1 (lawClu l)
  else s.haltLaw l

/-- DBG_HALT (R129). -/
def execDbgHalt (s : State) : Host.Outcome State Fault Refusal := done s (if s.answers then doDbgHalt s else s)

/-- A step of a halted cluster that holds a run: from cycle 0 the agreement round takes the pins of this moment; at the budget the run is
voted and not passed on (R131). -/
def doDbgStep (pins : Tri PinSample) (o : VoteObs) (s : State) : State :=
  let l := s.dbgLaw
  let x := s.law l
  match x.halted, x.flight with
  | true, some f0 =>
    let f := if x.cycle = 0 then { f0 with pins := pins, agreed := agree (x.heard.map (triGet pins)) } else f0
    let c := min (formCycles (lawForm l)) (x.cycle + s.dbg.stepCount.toNat)
    let s1 := s.modLaw l (fun x => { x with cycle := c, flight := some f })
    if c < formCycles (lawForm l) then s1
    else if f.noSet then s1.modLaw l (fun x => { x with flight := none })
    else s1.endRun l f o false
  | _, _ => s

/-- DBG_STEP (R131). -/
def execDbgStep (pins : Tri PinSample) (o : VoteObs) (s : State) : Host.Outcome State Fault Refusal :=
  done s (if s.answers then doDbgStep pins o s else s)

/-- Cycles of the signature formed on RESUME (R132). -/
def resumeCycles (l : LawId) : Nat := if l = 14 then 808 else 424

/-- Two replicas form the same signature on RESUME. -/
def Law.resumeSame (x : Law) (l : LawId) (back : Tri Readback) (a b : RepId) : Bool :=
  sameSign ((x.rep a).resumeWords l) ((x.rep b).resumeWords l) (triGet back a) (triGet back b)

/-- The vote over those signatures: none without an agreeing pair, else the replica that differs from it, if one does. -/
def Law.resumeVote (x : Law) (l : LawId) (back : Tri Readback) : Option (Option RepId) :=
  let same := x.resumeSame l back
  match x.active with
  | [a, b, c] =>
    if same a b then (if same b c then some none else some (some c))
    else if same a c then some (some b)
    else if same b c then some (some a)
    else none
  | [a, b] => if same a b then some none else none
  | [] => none
  | [_] => none
  | _ :: _ :: _ :: _ :: _ => none

/-- A law cluster resumes: the signatures of its ACTIVE replicas are voted, one that differs from an agreeing pair is darned, and the
cluster runs again from the first S after the signature time. Without an agreeing pair TRIAD_SPLIT is raised and the region falls at its
next period start (R116); the cluster stays halted until then. -/
def State.resumeLaw (s : State) (l : LawId) (back : Tri Readback) : State :=
  let x := s.law l
  if !x.halted then s.modLaw l (fun x => { x with haltReq := false })
  else
    match x.resumeVote l back with
    | none => s.splitAtStart l
    | some out =>
      let s1 := s.modLaw l (fun x => { x with
        halted := false, haltReq := false, cycle := 0, flight := none
        resumeAt := s.tim.devTime + BitVec.ofNat 64 (resumeCycles l) })
      match out with
      | none => s1
      | some k => s1.modLaw l (fun x => { x.modRep k (fun r => { r.noSpread with st := .darning, joins := false }) with darnDue := some k })

/-- DBG_RESUME (R132). -/
def execDbgResume (back : Tri Readback) (s : State) : Host.Outcome State Fault Refusal :=
  done s (if s.answers && (s.law s.dbgLaw).halted then s.resumeLaw s.dbgLaw back else s)

/-- DBG_DATA_WRITE (R131). -/
def execDbgDataWrite (v : Word) (s : State) : Host.Outcome State Fault Refusal :=
  done s (if s.answers then doDbgDataWrite v s else s)

/-! ### Regions (R45) -/

/-- A commanded self-test runs in a region; the package test runs in each of those it takes (R469). -/
def State.testsIn (s : State) (r : RegionId) : Bool :=
  s.st.busy && (decide (s.st.kind = 4) || decide (s.st.region.toNat = regCode r))

/-- The number of the first case of R45 that refuses a halt; 0 for none. -/
def State.regHaltCase (s : State) (r : RegionId) : Nat :=
  if s.isSafe r || !s.modeOff r then 1
  else if r = .sup ∨ r = .hst then 2
  else if allRegs.any (fun q => decide (q ≠ r) && s.regHalt q) then 3
  else if s.testsIn r then 4
  else 0

/-- A halt request for the selected region; an accepted one waits for the region's period start. -/
def doDbgRegHalt (s : State) : State :=
  match regOf s.dbg.regSel.toNat with
  | none => s
  | some r =>
    if s.regHalt r then s
    else
      let n := s.regHaltCase r
      if n ≠ 0 then (s.modDbg (fun d => { d with regRefused := true })).raiseReg evRegionHaltRefused r (wd n) 0
      else s.modReg r (fun x => { x with haltReq := true })

/-- DBG_REG_HALT (R45). -/
def execDbgRegHalt (s : State) : Host.Outcome State Fault Refusal := done s (if s.answers then doDbgRegHalt s else s)

/-- A bridge of a resumed region returns DISARMED. -/
def State.releaseBridge (s : State) (b : BridgeId) : State :=
  if (s.brg b).arm = .halted then (s.modBrg b (fun x => { x with arm := .disarmed, resume := false })).drive b else s

/-- A sense cluster of a resumed region restarts its sequence at its first scan entry (R501), with the readbacks at the first DAC (R197); its
accumulators wait for their next windows. -/
def State.restartSns (s : State) (n : SnsId) : State :=
  each (snsChans n) (fun s c => s.modChan c (fun x => { x with acc := {} })) (s.modSns n (fun y => { y with
    stopped := false, accWait := 3, busy := 0, setPos := 0, scanPos := 0, roundNs := 0, dacPos := 0 }))

/-- RESUME of the halted region: law clusters checked, bridges DISARMED, sense sequences restarted; the region resumes in OFF at its next
period start. -/
def State.resumeRegion (s : State) (r : RegionId) (back : Tri (Tri Readback)) : State :=
  let s1 := each (regLaws r).zipIdx (fun s l => s.resumeLaw l.1 (triGet back (Fin.ofNat 3 l.2))) s
  let s2 := each (regBridges r) State.releaseBridge s1
  (each (regSns r) State.restartSns s2).modReg r (fun x => { x with resumeReq := true })

def doDbgRegResume (back : Tri (Tri Readback)) (s : State) : State :=
  match allRegs.find? (fun r => (s.reg r).halted && !(s.reg r).resumeReq) with
  | some r => s.resumeRegion r back
  | none => s

/-- DBG_REG_RESUME (R45). -/
def execDbgRegResume (back : Tri (Tri Readback)) (s : State) : Host.Outcome State Fault Refusal :=
  done s (if s.answers then doDbgRegResume back s else s)

/-! ### Bridges (R43, R171) -/

/-- A halt refused: `DBG.BRG_STATUS.REFUSED` and BRG_HALT_REFUSED. -/
def State.brgHaltRefused (s : State) (b : BridgeId) (why : Word) : State :=
  (s.modDbg (fun d => { d with brgRefused := true })).raiseBrg evBrgHaltRefused b (brgClu b) why 0

/-- A halt request for the selected bridge (R43, R171, R381). -/
def doDbgBrgHalt (s : State) : State :=
  match dbgBrg s with
  | none => s
  | some b =>
    if (s.brg b).arm = .halted then s
    else if !s.mayHalt [b] then s.brgHaltRefused b 1
    else if s.prepHolds (brgId b 0 / 256) then s.draw.2.brgHaltRefused b s.draw.1
    else s.haltBridge b

/-- DBG_BRG_HALT (R171). -/
def execDbgBrgHalt (s : State) : Host.Outcome State Fault Refusal := done s (if s.answers then doDbgBrgHalt s else s)

/-- A resume of the selected bridge: it returns at its region's next period start. In a halted region the region's resume rules. -/
def doDbgBrgResume (s : State) : State :=
  match dbgBrg s with
  | none => s
  | some b =>
    if (s.brg b).arm = .halted ∧ !(s.reg (brgReg b)).halted then s.modBrg b (fun x => { x with resume := true }) else s

/-- DBG_BRG_RESUME (R171). -/
def execDbgBrgResume (s : State) : Host.Outcome State Fault Refusal := done s (if s.answers then doDbgBrgResume s else s)

/-! ### Writes of the debug controls (R45, R128, R170) -/

/-- What a replica's pins show when a STEP begins a run and its command carries no sample: free values (log 37). -/
def State.drawPins (s : State) : PinSample × State :=
  let w := fun (i : Nat) => Config.freeWord (s.free + i)
  let b := fun (i : Nat) => Config.freeBit (s.free + i)
  ({ encCount := (w 0).setWidth 16, encIndex := b 0, encFault := b 1, sp0Period := w 1, sp0High := w 2, sp1Period := w 3, sp1High := w 4,
     sp0Since := w 5, sp1Since := w 6, hall := (w 7).setWidth 3, edgeTicks := w 8, sinceEdge := w 9 }, { s with free := s.free + 10 })

/-- What the voters receive from a replica at the end of a stepped run, where the command does not say: free (log 37). -/
def State.drawBundle (s : State) : Bundle × State :=
  let b := if Config.freeBit s.free then Bundle.good
    else if Config.freeBit (s.free + 1) then .odd ((List.range 16).map (fun i => Config.freeWord (s.free + 1 + i))) (Config.freeWord s.free)
    else .missing
  (b, { s with free := s.free + 17 })

/-- What a replica's storage reads back, where the command does not say: free (log 37). -/
def State.drawBack (s : State) : Readback × State :=
  (if Config.freeBit s.free then none else some ((Config.freeWord s.free).setWidth 16, Config.freeWord (s.free + 1)), { s with free := s.free + 2 })

/-- A free value for each replica. -/
def State.drawTri {α : Type} (s : State) (f : State → α × State) : Tri α × State :=
  let a := f s
  let b := f a.2
  let c := f b.2
  (⟨a.1, b.1, c.1⟩, c.2)

/-- A STEP whose observations the write does not carry. -/
def stepFree (s : State) : State :=
  let p := s.drawTri State.drawPins
  let b := p.2.drawTri State.drawBundle
  let v := b.2.drawBit
  doDbgStep p.1 ⟨b.1, v.1⟩ v.2

/-- A RESUME of the selected law cluster, what its replicas read back free. -/
def resumeFree (s : State) : State :=
  let a := s.drawTri State.drawBack
  if (s.law s.dbgLaw).halted then a.2.resumeLaw s.dbgLaw a.1 else s

/-- The same for the halted region. -/
def regResumeFree (s : State) : State :=
  let a := s.drawTri (fun s => s.drawTri State.drawBack)
  doDbgRegResume a.1 a.2

/-- Apply a request where its bit is set. -/
def State.onBit (s : State) (v : Word) (i : Nat) (f : State → State) : State := if v.getLsbD i then f s else s

/-- The requests in a write of a debug control: its bits in rising order (DESIGN CHOICE, log 37). -/
def State.dbgRequest (s : State) (o : Nat) (v : Word) : State :=
  if o = 0xC004 then ((s.onBit v 0 doDbgHalt).onBit v 1 stepFree).onBit v 2 resumeFree
  else if o = 0xC024 then (s.onBit v 0 doDbgBrgHalt).onBit v 1 doDbgBrgResume
  else if o = 0xC044 then (s.onBit v 0 doDbgRegHalt).onBit v 1 regResumeFree
  else s

/-- A full write over PCIe of a debug control. -/
def isDbgControl (p : Port) (o : Nat) (be : BitVec 4) : Bool :=
  decide (p = .pcie) && decide (be = 15) && (decide (o = 0xC004) || decide (o = 0xC024) || decide (o = 0xC044))

/-- A write over a port, whatever register it names. -/
def doAnyWrite (p : Port) (o : Nat) (be : BitVec 4) (v setNow : Word) (s : State) : State :=
  if isDbgControl p o be then (if s.answers then s.dbgRequest o v else s) else doWrite p o be v setNow s

/-- REGISTER_WRITE (R17). -/
def execRegisterWrite (p : Port) (offset : Half) (be : BitVec 4) (v : Word) (s : State) : Host.Outcome State Fault Refusal :=
  doneSetup s (doAnyWrite p offset.toNat be v 0 s)

/-- W1C_WRITE (R14, R15). -/
def execW1cWrite (p : Port) (offset : Half) (be : BitVec 4) (v setNow : Word) (s : State) : Host.Outcome State Fault Refusal :=
  doneSetup s (doAnyWrite p offset.toNat be v setNow s)

end Sys2Proof.Machine
end

