-- ==== Sys2Proof/Machine/Gates.lean ====
section
/-! DEFINITION. Carrier edges, load points and gate sides (R138 to R142, R146 to R157, R161 to R168, R500). -/

namespace Sys2Proof.Machine

/-! ### Switches -/

/-- A switch is commanded on at its gate. -/
def State.swOn (s : State) (b : BridgeId) : Sw → Bool
  | .high => (s.brg b).hiOn
  | .low => (s.brg b).loOn

/-- A soft turn-off of the switch is in progress (R157). -/
def State.swSoft (s : State) (b : BridgeId) : Sw → Bool
  | .high => (s.brg b).softHi
  | .low => (s.brg b).softLo

def otherSw : Sw → Sw
  | .high => .low | .low => .high

/-- The level that the two copies command for a switch (R142). -/
def State.cmdOn (s : State) (b : BridgeId) : Sw → Bool
  | .high => (s.brg b).cmdHi
  | .low => (s.brg b).cmdLo

/-- The copies command a switch. -/
def State.setCmd (s : State) (b : BridgeId) (sw : Sw) (on : Bool) : State :=
  s.modBrg b (fun x => match sw with
    | .high => { x with cmdHi := on }
    | .low => { x with cmdLo := on })

/-- Turn a switch on or off at its gate; an unpowered gate side holds its gate at VN (R163). -/
def State.setSw (s : State) (b : BridgeId) (sw : Sw) (on : Bool) : State :=
  s.modBrg b (fun x => match sw with
    | .high => { x with hiOn := on && s.gateUp b .high }
    | .low => { x with loOn := on && s.gateUp b .low })

/-- The number of a gate side in `UNIT`: nn of `GSnn` (R27, R357), or 0xFF where the bridge has none. -/
def gsUnit (g : Option GsId) : Nat := match g with | some g => g.val + 1 | none => 0xFF

/-- Judged as armed by R500: an armed bridge, and the chopper while it holds its switch on under rank 3 of R145. -/
def State.judged (s : State) (b : BridgeId) : Bool := s.isArmed b || (decide (b = .bch) && (s.brg b).loOn)

/-! ### Edges (R140, R141) -/

/-- The high-side on-interval of a carrier period as a fraction of it, clamped into its own period (R140); for `BRG.BCH` that
of its one switch. -/
def onFraction (mode : Nat) (c : Duty) : F32 :=
  let c01 := fun x => F.clamp x F.zero F.one
  match mode with
  | 0 =>
    let h := F.mul F.half c.d
    F.sub (c01 (F.add (F.add F.half h) c.delta)) (c01 (F.add (F.sub F.half h) c.delta))
  | 1 => F.sub (c01 (F.add c.d c.delta)) (c01 c.delta)
  | _ => F.half

/-- R141: an on-interval or an off-interval shorter than `MIN_PULSE` is not emitted, so the edges that bound it are not. The low side
is the complement (R140): where the on-interval is left out, a switch already commanded as its falling edge commands stays so. -/
def State.edgeDropped (s : State) (b : BridgeId) (sw : Sw) (on : Bool) : Bool :=
  let tc := ticksSec (s.carrierTicks b)
  let frac := onFraction (s.parN (brgId b 0x00)) (s.brg b).cmp
  let minP := s.brgP b 0x02
  let shortOn := F.lt (F.mul frac tc) minP
  let shortOff := F.lt (F.mul (F.sub F.one frac) tc) minP
  -- the on-interval is that of the high side, and of the one switch of `BRG.BCH`
  let rises := if b = .bch then on else decide (sw = .high) == on
  if rises then shortOn || (shortOff && s.cmdOn b (if b = .bch then .low else .high))
  else shortOff || (shortOn && decide (s.cmdOn b sw = on))

/-- A span phase whose low side the start test probes in this period (R239). -/
def State.probing (s : State) (b : BridgeId) : Bool :=
  match s.span.test with
  | some t => t.probe && t.begun && decide (spanBridges[t.phase]? = some b) && s.isArmed b
  | none => false

/-- The transition type of a switch (R173). -/
def slewIx (sw : Sw) (turnOn : Bool) : Fin 4 :=
  match sw, turnOn with | .high, true => 0 | .high, false => 1 | .low, true => 2 | .low, false => 3

/-- Take a measured transition: the dead-time target of R146 for the outgoing switch's turn-off, and the dv/dt of the
transition type for R152, the peak displacement current divided by `DS_CAP` (R151). Actuator bridges measure neither (R165). -/
def State.measure (s : State) (b : BridgeId) (sw : Sw) (on : Bool) : NodeObs → State
  | .none => s
  | .seen tMeas peak =>
    if brgKind b = .act then s
    else
      let k := slewIx sw on
      let dvdt := F.div peak (s.brgP b 0x18)
      let s1 := s.modBrg b (fun x => { x with slew := x.slew.set k { x.slew[k] with dvdt := dvdt, fresh := true } })
      if !on && brgKind b = .hv && s.parOn (brgId b 0x07) && decide (tMeas.toNat ≤ secUnits (s.brgP b 0x05)) then
        let tgt := tMeas.toNat + secUnits (s.brgP b 0x06)
        s1.modBrg b (fun x => match sw with
          | .high => { x with dtHl := { x.dtHl with target := tgt } }
          | .low => { x with dtLh := { x.dtLh with target := tgt } })
      else s1

/-- The DC channel a bridge switches against: the charger bus for the PFC and the DAB's primary, else the link (R235, R266). -/
def brgDc (b : BridgeId) : Fin 54 :=
  match b with
  | .pf1 | .pf2 | .pf3 | .dp1 | .dp2 => 23
  | .ds1 | .ds2 | .ta1 | .ta2 | .ta3 | .tb1 | .tb2 | .tb3 | .sp1 | .sp2 | .sp3 | .sp4 | .bch
  | .g1u | .g1v | .g1w | .g2u | .g2v | .g2w | .g3u | .g3v | .g3w => 12

/-- Count a commutation of a gate side's switch, with the link or bus voltage at it, for the loss records of R322. -/
def State.commute (s : State) (b : BridgeId) (sw : Sw) : State :=
  match gsOf b sw with
  | none => s
  | some g =>
    let k : Fin 38 := Fin.ofNat 38 g.val
    s.modTherm (fun t => { t with
      cur := t.cur.set k { t.cur[k] with comm := t.cur[k].comm + 1, v := F.add t.cur[k].v (s.chan (brgDc b)).val } })

/-- ISOLATE fell in this bridge cycle, so that a second cause of the same cycle is still recorded (R155). -/
def State.isoNow (s : State) (b : BridgeId) : Bool := s.isIso b && decide ((s.brg b).isoAt = some s.tim.devTime)

/-- The start test probes the low side of a phase: its pulses pass in the output state OFF of the phase, under every higher rank of R144. -/
def State.probed (s : State) (b : BridgeId) (sw : Sw) : Bool :=
  s.probing b && decide (sw = .low) && decide (s.outNow b = .off) && !(s.brg b).softHi && !(s.brg b).softLo

/-- The switch turns on or off: its transition is measured and counted, and a low side that conducts refreshes the bootstrap (R167). -/
def State.turnSw (s : State) (b : BridgeId) (sw : Sw) (on : Bool) (node : NodeObs) : State :=
  let s1 := (s.setSw b sw on).measure b sw on node
  let s2 := if on then s1.commute b sw else s1
  if on && decide (sw = .low) && brgKind b = .act then s2.modBrg b (fun x => { x with bst := true }) else s2

/-- A compare value of an armed bridge is reached (R140): the two copies' commands are compared (R142), and the command interlock is
applied whatever the output (R144, R145, R154). The copies hold the level, and the switch follows where the output precedence leaves it
to PWM, or where a probe of the start test governs (R239). -/
def doCarrierEdge (b : BridgeId) (sw : Sw) (on agree : Bool) (node : NodeObs) (s : State) : State :=
  if !s.isArmed b then
    (if s.isoNow b && agree && on && s.cmdOn b (otherSw sw) then s.isoBy evShootCmd b 0xFF 0 0 false else s)
  else if !agree then s.isoBy evPwmMismatch b 0xFF 0 0 false
  else if !s.probed b sw && s.edgeDropped b sw on then s
  else if on && s.cmdOn b (otherSw sw) then s.isoBy evShootCmd b 0xFF 0 0 false
  else
    let s1 := s.setCmd b sw on
    if decide (s.outNow b = .pwm) || s.probed b sw then s1.turnSw b sw on node else s1

/-- CARRIER_EDGE (R140 to R142, R146, R151, R154). `BRG.BCH` has no high side (R140). -/
def execCarrierEdge (b : BridgeId) (sw : Sw) (on agree : Bool) (node : NodeObs) (s : State) :
    Host.Outcome State Fault Refusal :=
  whenUnit (decide (b ≠ .bch ∨ sw = .low)) s (doCarrierEdge b sw on agree node)

/-! ### Load points (R139, R159, R161) -/

/-- The duty limit of R168 on a value an actuator bridge loads. -/
def State.cpLimit (s : State) (b : BridgeId) (v : Duty) : Duty :=
  if brgKind b = .act && s.cpFault then
    (if (s.brg b).sel = .highOn then { v with d := F.dec 95 (-2) } else { v with d := F.min v.d (F.dec 95 (-2)) })
  else v

/-- Leave LOW_ON or HIGH_ON once all three bridges of the side hold a value of a RUNNING current loop (R206). -/
def State.leaveKeep (s : State) (x : Side) : State :=
  if (s.tr x).keep && (sideBridges x).all (fun b => (s.brg b).loaded || !s.isArmed b) then
    each (sideBridges x) (State.select · .pwm) (s.modTr x (fun t => { t with keep := false }))
  else s

/-- The pending value enters the compare registers (R139, R73), limited under CP_FAULT (R168); a disagreement of the timer copies discards it and isolates
(R142, R174). A cycle-by-cycle trip ends where no action 1 slot is active any more (R159). -/
def doLoadPoint (b : BridgeId) (peak agree : Bool) (s : State) : State :=
  if !s.isArmed b then s
  else if peak && decide (s.parN (brgId b 0x00) ≠ 0) then s
  else if !agree then s.isoBy evPwmMismatch b 0xFF 0 0 false
  else
    let still := s.slotAct b 1
    let s1 := s.modBrg b (fun x => { x with
      cmp := s.cpLimit b x.pend, cpPwm := s.cpFault, loaded := x.loaded || x.fresh, counted := x.counted && peak, cbc := x.cbc && still })
    let s2 := s1.drive b
    match regSide (brgReg b) with
    | some x => s2.leaveKeep x
    | none => s2

/-- LOAD_POINT (R139). -/
def execLoadPoint (b : BridgeId) (peak agree : Bool) (s : State) : Host.Outcome State Fault Refusal :=
  whenLive s (doLoadPoint b peak agree)

/-! ### Desaturation (R156, R157) -/

/-- A gate side that drives its switch on detects desaturation: its soft turn-off starts and the opposite switch is held off. Where the
opposite switch's soft turn-off runs already, this one starts its own (R157). In a probe of the start test it fails the phase under test
(R239). -/
def doDesaturation (g : GsId) (s : State) : State :=
  let b := (gsBridge g).1
  let sw := (gsBridge g).2
  if s.swOn b sw || (s.swSoft b (otherSw sw) && !s.swSoft b sw) then
    let s1 := s.modBrg b (fun x => match sw with
      | .high => { x with softHi := true, hiOn := false, loOn := false }
      | .low => { x with softLo := true, hiOn := false, loOn := false })
    if s.probing b then
      s1.modSpan (fun p => { p with
        test := p.test.map (fun t => { t with fails := t.fails ||| BitVec.ofNat 4 (2 ^ t.phase) }) })
    else s1
  else s

/-- DESATURATION (R156). -/
def execDesaturation (g : GsId) (s : State) : Host.Outcome State Fault Refusal := whenLive s (doDesaturation g)

/-- The soft turn-off completes: DESAT, ISOLATE, and GS_DRIVE_FAULT where the gate did not fall (R157). -/
def doDesat (g : GsId) (fell : Bool) (s : State) : State :=
  let b := (gsBridge g).1
  let sw := (gsBridge g).2
  if s.swSoft b sw then
    let s1 := s.modBrg b (fun x => match sw with
      | .high => { x with softHi := false, desats := satInc x.desats }
      | .low => { x with softLo := false, desats := satInc x.desats })
    let s2 := s1.isoBy evDesat b (gsUnit (some g)) 0 0 false
    if fell then s2 else s2.isoBy evGsDriveFault b (gsUnit (some g)) 0 0 false
  else s

/-- DESAT (R157). -/
def execDesat (g : GsId) (fell : Bool) (s : State) : Host.Outcome State Fault Refusal := whenLive s (doDesat g fell)

/-! ### Gate sides (R149, R153, R155, R162, R164) -/

/-- A gate side leaves readiness. -/
def State.unready (s : State) (g : GsId) : State := s.modGate g (fun x => { x with ready := false })

/-- The pair link of a gate side is down, as both ends see it. -/
def State.linkDown (s : State) (g : GsId) : State :=
  let s1 := s.modGate g (fun x => { x with link := false, ready := false })
  match gsMate g with
  | some m => s1.modGate m (fun x => { x with link := false, ready := false })
  | none => s1

/-- The die of a gate side is lost: its switch and the opposite one are held off, in every arm state (R36, R37, R149, R500). -/
def doGsLost (g : GsId) (s : State) : State :=
  if (s.gate g).lost then s
  else
    ((s.linkDown g).modGate g (fun x => { x with lost := true, powered := false })).isoBy evGsLost (gsBridge g).1
      (gsUnit (some g)) 0 0 true

/-- GS_LOST (R149). -/
def execGsLost (g : GsId) (s : State) : Host.Outcome State Fault Refusal := whenLive s (doGsLost g)

/-- PAIRLINK_LOST of an armed bridge isolates it; of another bridge it costs readiness alone (R153, R500). -/
def doPairlinkLost (g : GsId) (s : State) : State :=
  let b := (gsBridge g).1
  let s1 := s.linkDown g
  if s.isArmed b then s1.isoBy evPairlinkLost b (gsUnit (some g)) 0 0 false else s1

/-- PAIRLINK_LOST (R153). `GS35` has no pair link (R155). -/
def execPairlinkLost (g : GsId) (s : State) : Host.Outcome State Fault Refusal :=
  whenUnit (gsMate g).isSome s (doPairlinkLost g)

/-- The switch was on as the bridge entered ISOLATE. -/
def State.wasOn (s : State) (b : BridgeId) : Sw → Bool
  | .high => (s.brg b).wasHi
  | .low => (s.brg b).wasLo

/-- Permission stays away from a turn-on for 1.2 us, or is withdrawn from a switch that is on (R155, R165). Beside a cause that isolated
the bridge in the same cycle it is recorded as well (R155, R169). -/
def doShootGs (b : BridgeId) (sw : Sw) (withdrawn : Bool) (s : State) : State :=
  if (s.isArmed b && (s.swOn b sw || (s.swSoft b sw && withdrawn))) || (s.isoNow b && s.wasOn b sw) then
    s.isoBy evShootGs b (gsUnit (gsOf b sw)) 0 0 false
  else s

/-- SHOOT_GS (R155). `BRG.BCH` has no second switch. -/
def execShootGs (b : BridgeId) (sw : Sw) (withdrawn : Bool) (s : State) : Host.Outcome State Fault Refusal :=
  whenUnit (decide (b ≠ .bch)) s (doShootGs b sw withdrawn)

/-- A supply fault of a gate side: ISOLATE where it is ready and judged as armed, else its readiness alone (R162, R500). -/
def supplyFault (c : Cause) (g : GsId) (v limit : F32) (s : State) : State :=
  let b := (gsBridge g).1
  let s1 := s.unready g
  if (s.gate g).ready && s.judged b then s1.isoBy c b (gsUnit (some g)) v limit true else s1

/-- GS_VP_UV (R162). -/
def execGsVpUv (g : GsId) (vp : F32) (s : State) : Host.Outcome State Fault Refusal :=
  whenLive s (fun s => supplyFault evGsVpUv g vp (s.brgP (gsBridge g).1 0x19) s)

/-- GS_VN_UV (R162). -/
def execGsVnUv (g : GsId) (vn : F32) (s : State) : Host.Outcome State Fault Refusal :=
  whenLive s (fun s => supplyFault evGsVnUv g vn (s.brgP (gsBridge g).1 0x1A) s)

/-- A gate side whose supply, channel and pair link have held for 100 us is ready (R162); a lost die rejoins only through a region
reset (R37), and no gate side is supplied before its turn after the rail is ready (R462, R465). -/
def doGsReady (g : GsId) (s : State) : State :=
  if s.power.gpReady && !(s.gate g).lost && decide (s.power.railAt.toNat + 8000 * g.val ≤ s.tim.devTime.toNat) then
    (s.modGate g (fun x => { x with powered := true, ready := true, link := (gsMate g).isSome })).drive (gsBridge g).1
  else s

/-- GS_READY (R162). -/
def execGsReady (g : GsId) (s : State) : Host.Outcome State Fault Refusal := whenLive s (fun s => (doGsReady g s).stepUp)

/-- GS_DRIVE_FAULT (R164): in any arm state (R500). -/
def execGsDriveFault (g : GsId) (s : State) : Host.Outcome State Fault Refusal :=
  whenLive s (fun s => s.isoBy evGsDriveFault (gsBridge g).1 (gsUnit (some g)) 0 0 false)

/-! ### Actuator bridges (R165 to R168) -/

/-- Both switches off at once, ISOLATE, the actuator to FREE (R166). -/
def doVdsAct (b : BridgeId) (sw : Sw) (s : State) : State :=
  if s.swOn b sw then
    (s.modBrg b (fun x => { x with desats := satInc x.desats })).isoBy evVdsAct b 0xFF 0 0 false
  else s

/-- VDS_ACT (R166). -/
def execVdsAct (b : BridgeId) (sw : Sw) (s : State) : Host.Outcome State Fault Refusal :=
  whenUnit (brgAct b).isSome s (doVdsAct b sw)

/-- A bootstrap below 7.5 V isolates an armed actuator bridge (R167); below 8.0 V it does not permit arming (R136). -/
def doBstUv (b : BridgeId) (v : F32) (s : State) : State :=
  let s1 := s.modBrg b (fun x => { x with bst := false })
  if s.isArmed b then s1.isoBy evBstUv b 0xFF v (F.dec 75 (-1)) false else s1

/-- BST_UV (R167). -/
def execBstUv (b : BridgeId) (v : F32) (s : State) : Host.Outcome State Fault Refusal :=
  whenUnit (brgAct b).isSome s (doBstUv b v)

/-- CP_FAULT limits every actuator bridge to a duty of 0.95 (R168). -/
def doCpFault (v : F32) (s : State) : State :=
  if s.cpFault then s
  else ({ s with cpFault := true }).raiseReg evCpFault .act v (F.dec 85 (-1))

/-- CP_FAULT (R168). -/
def execCpFault (v : F32) (s : State) : Host.Outcome State Fault Refusal := whenLive s (doCpFault v)

/-- The limit ends, and the pump tops up every bootstrap again (R167, R168). -/
def doCpRecovery (s : State) : State :=
  each (regBridges .act) (fun s b => (s.modBrg b (fun x => { x with bst := true, cpPwm := false })).drive b) { s with cpFault := false }

/-- CP_RECOVERY (R168). -/
def execCpRecovery (s : State) : Host.Outcome State Fault Refusal := whenLive s doCpRecovery

/-! ### Limits of the adaptations (R147, R152) -/

/-- A dead time in seconds. -/
def unitSec (n : Nat) : F32 := F.ofRat (Int.ofNat n) 3200000000

/-- DT_AT_LIMIT: `sw` names the outgoing switch, high for `DT_HL`. Raised once until the dead time leaves `DT_MAX` (R147). -/
def doDtAtLimit (b : BridgeId) (sw : Sw) (s : State) : State :=
  let d := match sw with | .high => (s.brg b).dtHl | .low => (s.brg b).dtLh
  if s.isArmed b && decide (16 ≤ d.atMax) && !d.told then
    (s.modBrg b (fun x => match sw with
      | .high => { x with dtHl := { x.dtHl with told := true } }
      | .low => { x with dtLh := { x.dtLh with told := true } })).raiseBrg evDtAtLimit b 0xFF (unitSec d.now) (s.brgP b 0x05)
  else s

/-- DT_AT_LIMIT (R147). Only a high-voltage bridge has `DT_MAX` (R172). -/
def execDtAtLimit (b : BridgeId) (sw : Sw) (s : State) : Host.Outcome State Fault Refusal :=
  whenUnit (decide (brgKind b = .hv)) s (doDtAtLimit b sw)

/-- DVDT_AT_LIMIT: a strength at 1 with dv/dt above the ceiling in 16 periods, raised once (R152). -/
def doDvdtAtLimit (b : BridgeId) (sw : Sw) (turnOn : Bool) (s : State) : State :=
  let k := slewIx sw turnOn
  let d := (s.brg b).slew[k]
  if s.isArmed b && decide (16 ≤ d.above) && !d.told then
    (s.modBrg b (fun x => { x with slew := x.slew.set k { x.slew[k] with told := true } })).raiseBrg evDvdtAtLimit b
      (gsUnit (gsOf b sw)) d.dvdt (s.brgP b 0x15)
  else s

/-- DVDT_AT_LIMIT (R152). Actuator bridges have no slew segments (R165). -/
def execDvdtAtLimit (b : BridgeId) (sw : Sw) (turnOn : Bool) (s : State) : Host.Outcome State Fault Refusal :=
  whenUnit (gsOf b sw).isSome s (doDvdtAtLimit b sw turnOn)

end Sys2Proof.Machine
end

