-- ==== Sys2Proof/Machine/Hawser.lean ====
section
/-! DEFINITION. Crossings received and sent over the hawser link (R391 to R411, R415) and the marks they carry (R380 to R383). -/

namespace Sys2Proof.Machine

/-! ### Marks (R380, R383) -/

def markKind (b : Byte) : MarkKind :=
  if b = 1 then .prepared else if b = 2 then .refusal else if b = 3 then .applied else .none

/-- The mate's applied mark settles a commit that waits for it, and diverges from one aborted here (R383). -/
def State.appliedMark (s : State) (m : Mark) : State :=
  let s1 := s.modTxn (fun t => { t with await := match t.await with | some a => (if a.id = m.id then none else some a) | none => none })
  match s.txn.aborted with
  | some a =>
    if a.id = m.id then
      (s1.modTxn (fun t => { t with aborted := none })).raiseTxn evCommitDiverged a.slot.toNat 0 0 a.tag
    else s1
  | none => s1

/-- Take the mark of an accepted crossing; each is kept once. -/
def State.takeMark (s : State) (h : CrossHdr) : State :=
  let m : Mark := ⟨markKind h.mark, h.markId, h.markTide⟩
  if m.kind = .none ∨ m ∈ s.txn.got then s
  else
    let s1 := s.modTxn (fun t => { t with got := t.got ++ [m] })
    if m.kind = .applied then s1.appliedMark m else s1

/-! ### Reception (R393, R405, R415) -/

/-- Crossings can be received: paired by parameter, both lanes aligned, no hawser fault, `CHK7` not isolated. -/
def State.canReceive (s : State) : Bool :=
  s.pairOn && decide (s.haws.aligned = 3) && !s.haws.fault && !s.chkIso

/-- CROSSING_BAD, at most once per tide (R393). -/
def State.crossingBad (s : State) : State :=
  if s.haws.badTold then s else (s.modHaws (fun h => { h with badTold := true })).raisePair evCrossingBad 0 0

/-- Alive-counter gap of a crossing against the value `CHK7` expects (R393). -/
def State.aliveGap (s : State) (h : CrossHdr) : Nat := if (s.chk 7).ref then (h.alive - (s.chk 7).alive).toNat else 0

/-- `CHK7` after a good crossing: it has passed over its bytes and expects the next alive value (R393). -/
def State.chk7Take (s : State) (body : List Byte) (a : Byte) : State := s.modChk 7 (fun c => { c.passed body (a + 1) with ref := true })

/-- The first show of host lost or brownout hold by the mate (R415). -/
def State.mateWarn (s : State) (old new : Byte) : State :=
  if (new &&& ~~~old &&& 6) ≠ 0 then s.raisePair evMateWarning (wd new.toNat) 0 else s

/-- PAIR_SKEW: to SPLIT; the follower asks for it in its crossings (R405). -/
def State.pairSkew (s : State) (ask : Bool) : State :=
  (s.toSplit evPairSkew).modHaws (fun h => { h with splitReq := ask, skewTide := some s.tim.tideIndex })

/-- What every accepted crossing brings. -/
def State.accepted (s : State) (k : CrossKind) (h : CrossHdr) (payload : List Word) : State :=
  let gap := s.aliveGap h
  let s1 := (s.modHaws (fun x => { x with
    lost := satAdd x.lost gap, lostTide := satAdd x.lostTide gap, mateEpoch := h.epoch, mateTide := h.tide,
    mateFlags := h.flags, tideEq := decide (h.tide = s.tim.tideIndex) })).chk7Take (crossBytes k h payload) h.alive
  let s2 := if gap = 0 then s1 else s1.crossingBad
  let s3 := (s2.mateWarn s.haws.mateFlags h.flags).takeMark h
  if h.flags.getLsbD 0 && !s.power.straps.pair && decide (s3.haws.pair = .paired) then s3.pairSkew false else s3

/-- Receive a crossing: discarded where its CRC fails (R393), else accepted and acted on; then the pair is judged (R405). -/
def State.receive (s : State) (k : CrossKind) (h : CrossHdr) (payload : List Word) (f : State → State) : State :=
  if !s.canReceive then s
  else if !crossCrcOk h k payload then
    (s.modHaws (fun x => { x with crcErr := satInc x.crcErr, crcTide := satInc x.crcTide })).crossingBad
  else (f (s.accepted k h payload)).formPair.rejoinCheck

/-- The configurations agree under R397. -/
def State.helloFits (s : State) (b : HelloBody) : Bool :=
  decide (b.strap ≠ s.power.straps.pair) && decide (b.tideTicks.toNat = s.tideTicks) &&
  allRegs.all (fun r => decide (b.ratios[rIx r].toNat = s.ratio r)) && decide (b.dabMult.toNat = s.cfgN 0x102C)

/-- Whether this device adopts the mate's boundary and index at formation (R399). -/
def State.adopts (s : State) (b : HelloBody) : Bool :=
  if s.anyArmed = b.armed then s.power.straps.pair else !s.anyArmed

/-- A HELLO (R397, R399). While the link forms, each HELLO is answered by one. -/
def doHello (h : CrossHdr) (b : HelloBody) (s : State) : State :=
  if s.haws.linkUp then s
  else if s.helloFits b then
    let s1 := (s.modHaws (fun x => { x with linkUp := true, timed := false, rejoin := decide (x.pair = .carrying) })).queueCross .hello (helloPayload s.ownHello)
    if s.adopts b then
      (s1.modHaws (fun x => { x with adopt := true })).raisePair evTideAdopted s.tim.tideIndex h.tide
    else s1
  else if s.haws.conflict then s
  else (s.modHaws (fun x => { x with conflict := true })).raisePair evConfigConflict 0 0

/-- HELLO (R397). -/
def execHello (h : CrossHdr) (b : HelloBody) (s : State) : Host.Outcome State Fault Refusal :=
  whenLive s (fun s => s.receive .hello h (helloPayload b) (doHello h b))

/-- The four instants of an exchange (R398): departure from and arrival at the lead, arrival at and departure from the follower. -/
structure Exchange where
  t1 : Time
  t2 : Time
  t3 : Time
  t4 : Time
deriving DecidableEq, Repr

/-- The exchange that a TIMING crossing completes: the mate's instants from its payload, the own departure and the arrival here. -/
def State.exchange (s : State) (b : TimingBody) : Exchange :=
  if s.power.straps.pair then ⟨b.departed, b.here, s.haws.departed, b.arrived⟩ else ⟨s.haws.departed, b.arrived, b.departed, b.here⟩

/-- The error of R398, positive where the follower's count is ahead. -/
def Exchange.err (x : Exchange) : Int := ((x.t2 - x.t1).toInt - (x.t4 - x.t3).toInt) / 2

/-- The round trip of R413. -/
def Exchange.rtt (x : Exchange) : Half := BitVec.ofInt 16 ((x.t4 - x.t1).toInt - (x.t3 - x.t2).toInt)

/-- The follower's judgement of its error (R398, R405). -/
def State.followTiming (s : State) (e : Int) : State :=
  let big := decide (ns50 < e.natAbs)
  let n := if big then s.haws.bigErr + 1 else 0
  let s1 := (s.steerTo e).modHaws (fun x => { x with
    err := e, timed := true, locked := decide (e.natAbs ≤ ns5), bigErr := n, splitReq := x.splitReq && big })
  if decide (3 ≤ n) && decide (s.haws.pair = .paired) then s1.pairSkew true else s1

/-- A TIMING crossing (R398): the follower steers by the error; the lead only where it adopts the follower's boundary (R399). -/
def doTiming (b : TimingBody) (s : State) : State :=
  let x := s.exchange b
  let s0 := s.modHaws (fun h => { h with rtt := x.rtt, arrived := b.here })
  if !s.haws.linkUp then s0
  else if s.power.straps.pair then s0.followTiming x.err
  else
    let s1 := s0.modHaws (fun h => { h with err := 0, timed := true, locked := true })
    if s.haws.adopt then s1.steerTo (- x.err) else s1

/-- TIMING (R398). -/
def execTiming (h : CrossHdr) (b : TimingBody) (s : State) : Host.Outcome State Fault Refusal :=
  whenLive s (fun s => s.receive .timing h (timingPayload b) (doTiming b))

/-- A MIRROR crossing (R401): kept for its region. -/
def doMirror (b : MirrorBody) (s : State) : State :=
  s.modHaws (fun x => { x with mirrors := x.mirrors.set (rIx b.region) { valid := true, sample := b.sample, words := b.words } })

/-- The number of words of a region's mirror (R401); HST has none. -/
def mirrorLen : RegionId → Nat
  | .tra => 13 | .trb => 13 | .spn => 9 | .chg => 3 | .act => 6 | .sup => 8 | .hst => 0

/-- MIRROR (R401). -/
def execMirror (h : CrossHdr) (b : MirrorBody) (s : State) : Host.Outcome State Fault Refusal :=
  whenUnit (decide (b.region ≠ .hst) && decide (b.words.length = mirrorLen b.region)) s (fun s => s.receive .mirror h (mirrorPayload b) (doMirror b))

/-- A HEALTH crossing (R401, R403). -/
def doHealth (b : HealthBody) (s : State) : State := s.modHaws (fun x => { x with mateHealth := some b })

/-- HEALTH (R401). -/
def execHealth (h : CrossHdr) (b : HealthBody) (s : State) : Host.Outcome State Fault Refusal :=
  whenLive s (fun s => s.receive .health h (healthPayload b) (doHealth b))

/-- A FAREWELL: PAIRED moves to CARRYING (R405, R407); a rejoin ends (R410). -/
def doFarewell (s : State) : State :=
  match s.haws.pair with
  | .paired => s.toCarrying 1
  | .carrying => s.modHaws (fun x => { x with rejoin := false })
  | .split => s
  | .solo => s

/-- FAREWELL (R405). -/
def execFarewell (h : CrossHdr) (s : State) : Host.Outcome State Fault Refusal := whenLive s (fun s => s.receive .farewell h [] doFarewell)

/-- IDLE (R394): refreshes the link and carries the mate's mark. -/
def execIdle (h : CrossHdr) (s : State) : Host.Outcome State Fault Refusal := whenLive s (fun s => s.receive .idle h [] id)

/-! ### Sending (R394, R398) -/

/-- The instant of a tide's TIMING: 1 us after the boundary. Its departure is taken there, also behind a crossing in transmission (DESIGN
CHOICE, log 100). -/
def State.timingInstant (s : State) : Time := tickUnits (s.tim.tideStart + 400)

/-- TIMING_SEND: once in each tide (R398). -/
def doTimingSend (s : State) : State :=
  if s.canCross && decide (s.haws.timingTide ≠ some s.tim.tideIndex) then
    let b : TimingBody := ⟨s.timingInstant, s.haws.arrived, s.timingInstant⟩
    (s.modHaws (fun x => { x with departed := s.timingInstant, timingTide := some s.tim.tideIndex })).queueCross .timing (timingPayload b)
  else s

/-- TIMING_SEND (R398). -/
def execTimingSend (s : State) : Host.Outcome State Fault Refusal := whenLive s doTimingSend

/-- IDLE_SEND: nothing has been sent for 2 us (R394). -/
def execIdleSend (s : State) : Host.Outcome State Fault Refusal :=
  whenLive s (fun s => if s.haws.sending.isNone then s.queueCross .idle [] else s)

/-- A crossing finishes: after the third FAREWELL nothing more is sent (R407), else the next queued one starts (R394). -/
def doCrossingSent (k : CrossKind) (s : State) : State :=
  if s.haws.sending ≠ some k then s
  else
    let s1 := s.modHaws (fun x => { x with sending := none, wire := [] })
    if k = .farewell then
      let n := s.haws.farewells - 1
      let s2 := s1.modHaws (fun x => { x with farewells := n, silent := decide (n = 0), queue := if n = 0 then [] else x.queue })
      if s2.canCross then s2.pumpCross else s2
    else if s1.canCross then s1.pumpCross else s1.modHaws (fun x => { x with queue := [] })

/-- CROSSING_SENT (R394). -/
def execCrossingSent (k : CrossKind) (s : State) : Host.Outcome State Fault Refusal := whenLive s (doCrossingSent k)

/-! ### The link and `MATE_PRES` (R389, R391, R395, R406) -/

/-- LINK_LOST: no crossing has been accepted for `LINK_LOSS_TIME` (R395). -/
def execLinkLost (s : State) : Host.Outcome State Fault Refusal := whenLive s (fun s => s.linkLoss)

/-- LANE_ALIGNMENT_LOST: the loss of one lane is loss of the link (R391, R395). -/
def execLaneAlignmentLost (k : Fin 2) (s : State) : Host.Outcome State Fault Refusal :=
  whenLive s (fun s => (s.modHaws (fun x => { x with aligned := x.aligned &&& ~~~(BitVec.ofNat 2 (2 ^ k.val)) })).linkLoss)

/-- LANE_ALIGNED: both lanes are aligned and deskewed (R391). -/
def execLaneAligned (s : State) : Host.Outcome State Fault Refusal :=
  whenLive s (fun s => s.modHaws (fun x => { x with aligned := 3 }))

/-- MATE_PRES_CHANGE: a level has held for `MATE_LOW_TIME` (R389). A low one can prove the mate lost (R405). -/
def execMatePresChange (level : Bool) (s : State) : Host.Outcome State Fault Refusal :=
  whenLive s (fun s => (s.modHaws (fun x => { x with pres := level, presTides := 0 })).splitCheck)

/-- The mate's last HEALTH shows it healthy: `OK_OUT` high and no DEVICE-SAFE (R401, R406). -/
def State.mateWell (s : State) : Bool :=
  match s.haws.mateHealth with
  | some b => b.idStatus.getLsbD 1 && !b.idStatus.getLsbD 2
  | none => false

/-- `MATE_PRES` is judged faulty (R406). It is not judged in SOLO (R411). -/
def doMatePresFault (s : State) : State :=
  if s.pairOn && !s.haws.pres && s.mateWell && !s.haws.mpFault then
    (s.modHaws (fun x => { x with mpFault := true })).raisePair evMatePresFault 0 0
  else s

/-- MATE_PRES_FAULT (R406). -/
def execMatePresFault (s : State) : Host.Outcome State Fault Refusal := whenLive s doMatePresFault

/-- HAWSER_FAULT: HST cluster 0x5 stops the link, which counts as lost (R395). -/
def doHawserFault (s : State) : State :=
  ((s.modHaws (fun x => { x with fault := true })).raise evHawserFault 1 5 0xFF 0 0).linkLoss

/-- HAWSER_FAULT (R395). -/
def execHawserFault (s : State) : Host.Outcome State Fault Refusal := whenLive s doHawserFault

end Sys2Proof.Machine
end

