-- ==== Sys2Proof/Machine/Link.lean ====
section
/-! DEFINITION. The host link: manifest and descriptor reads, rings from the host, the heartbeat, PCIe resets (R334 to R337, R343 to R354,
R420 to R422, R447, R451, R467). -/

namespace Sys2Proof.Machine

/-! ### Descriptor reads (R334 to R336, R351, R352) -/

/-- Entries of a ring that reads outstanding will bring. -/
def State.inFlight (s : State) (n : RingId) : Nat := (s.host.reads.map (fun r => if r.1 = n then r.2 else 0)).foldl (· + ·) 0

/-- The controller of a CAN transmit ring (R348). -/
def ringCan (n : RingId) : Option CanId := if n = 4 then some 0 else if n = 7 then some 1 else if n = 10 then some 2 else none

/-- Entries of a CAN transmit ring that the device has read and not passed (R422). -/
def Can.held (x : Can) : Nat := (x.due.map (·.size)).foldl (· + ·) 0 + x.part.length

/-- Entries past the device index that are read or being read. -/
def State.readAhead (s : State) (n : RingId) : Nat :=
  s.inFlight n + (match ringCan n with | some c => (s.can c).held | none => 0)

/-- Index of the next entry to read. -/
def State.nextRead (s : State) (n : RingId) : Half := (s.ring n).devIdx + BitVec.ofNat 16 (s.readAhead n)

/-- Reads that may be outstanding at once (R334). -/
def State.tags (s : State) : Nat := if s.host.cfg.extTag then 128 else 32

/-- A further descriptor read holds a free tag: one tag is the manifest read's, and a manifest read that outlives its tide keeps the one
it holds (R336). -/
def State.tagFree (s : State) : Bool := decide (s.host.reads.length + max 1 s.host.manOut.length < s.tags)

/-- Base address of a ring (R363). -/
def State.ringBase (s : State) (n : RingId) : Nat := s.cfgN (0x2044 + 0x10 * n.val) * 2 ^ 32 + s.cfgN (0x2040 + 0x10 * n.val)

/-- Entries of the next read of a ring: up to 16, not past the wrap, within Max_Read_Request_Size and its 4 KiB page (R335, R352). -/
def State.readLen (s : State) (n : RingId) (want : Nat) : Nat :=
  let slot := (s.nextRead n).toNat % ringSize s n
  let addr := s.ringBase n + 32 * slot
  let page := (4096 - addr % 4096) / 32
  min want (min 16 (min (ringSize s n - slot) (min (max 1 (s.host.cfg.maxRead.toNat / 32)) (max 1 page))))

/-- Issue reads of the entries released while a tag is free (R336). -/
def State.issueReads : Nat → State → State
  | 0, s => s
  | fuel + 1, s =>
    match s.host.toRead with
    | [] => s
    | (n, want) :: rest =>
      if !s.tagFree then s
      else if want = 0 then State.issueReads fuel (s.modHost (fun h => { h with toRead := rest }))
      else
        let k := s.readLen n want
        State.issueReads fuel (s.modHost (fun h => { h with reads := h.reads ++ [(n, k)], toRead := (n, want - k) :: rest }))

/-- Entries a CAN transmit queue still has room for (R422). -/
def State.canRoom (s : State) (c : CanId) : Nat := 16 - ((s.can c).queue.map (·.size)).foldl (· + ·) 0 - s.readAhead (txRing c)

/-- The limit of a ring per tide (R352), and that of R422 for a CAN ring, which is read only on the bus (R425). -/
def State.readLimit (s : State) (n : RingId) : Nat :=
  match ringCan n with
  | some c => if s.canOn c then min 16 (s.canRoom c) else 0
  | none => if n = 0 then 64 else if n = 1 then 256 else 0

/-- Release the new entries of every enabled ring from the host (R345, R352). -/
def State.releaseReads (s : State) : State :=
  let want := fun (n : RingId) => if ringEnabled s n then (n, min (s.readLimit n) (ringFilled s n - s.readAhead n)) else (n, 0)
  State.issueReads 512 (s.modHost (fun h => { h with toRead := ([0, 1, 4, 7, 10] : List RingId).map want }))

/-! ### The manifest (R343 to R347, R350, R467) -/

def manHalf (m : BitVec 1024) (i : Nat) : Half := m.extractLsb' (8 * i) 16
def manWord (m : BitVec 1024) (i : Nat) : Word := m.extractLsb' (8 * i) 32

/-- `FORMAT` and `CRC` of a manifest are right (R343, R344). -/
def manGood (m : BitVec 1024) : Bool :=
  decide (manHalf m 0 = 1) && decide (manWord m 124 = crc32c ((List.range 124).map (fun i => m.extractLsb' (8 * i) 8)))

/-- The host index of ring n in a manifest. -/
def manIdx (m : BitVec 1024) (n : RingId) : Half := manHalf m (16 + 2 * n.val)

/-- Filled entries of a ring under a host index (R350). -/
def State.filledBy (s : State) (n : RingId) (host : Half) : Nat :=
  if hostToDev n then (host - (s.ring n).devIdx).toNat else ((s.ring n).devIdx - host).toNat

/-- Take a host index: entries of a ring to the host that it passes belong to the device again (R351). -/
def State.takeIndex (s : State) (m : BitVec 1024) (n : RingId) : State :=
  let host := manIdx m n
  if !ringEnabled s n then s
  else if ringSize s n < s.filledBy n host then
    s.raiseHst evRingIndexBad (F.ofNat (s.filledBy n host)) (F.ofNat (ringSize s n)) 0
  else
    let left := s.filledBy n host
    let s1 := s.modRing n (fun r => { r with hostIdx := host, recs := if hostToDev n then r.recs else r.recs.drop (r.recs.length - left) })
    if n = 3 then s1.modHost (fun h => { h with events := h.events.drop (h.events.length - left) }) else s1

/-- The start log goes to ring 3 ahead of later events (R467). -/
def State.openLog (s : State) : State :=
  if s.host.open3 then s
  else s.host.log.foldl State.writeRing3 (s.modHost (fun h => { h with open3 := true, log := [] }))

/-- A beat: `HEARTBEAT` differs from that of the last accepted manifest (R346). The first one after HOST_LOST raises HOST_BACK (R347). -/
def State.takeBeat (s : State) (m : BitVec 1024) : State :=
  let beat := !s.host.hbSeen || decide (manWord m 4 ≠ s.host.hb)
  let s1 := s.modHost (fun h => { h with
    hb := manWord m 4, hbSeen := true, commit := manWord m 8, hostTime := m.extractLsb' 384 64, quiesce := m.getLsbD 16,
    beat := h.beat || beat, lost := h.lost && !beat })
  if s.host.lost && beat then s1.raiseReg evHostBack .hst 0 0 else s1

def allRings : List RingId := [0, 1, 2, 3, 4, 5, 6, 7, 8, 9, 10, 11, 12, 13, 14, 15]

/-- An accepted manifest. -/
def State.acceptManifest (s : State) (m : BitVec 1024) : State :=
  let s1 := (each allRings (fun s n => s.takeIndex m n) s).openLog.takeBeat m
  if s1.host.quiesce || s1.host.lost || s1.power.devSafe then s1.modHost (fun h => { h with toRead := [] }) else s1.releaseReads

/-- Completions reach HST: the link is up and no safe state has stopped the bus (R337, R447). -/
def State.hears (s : State) : Bool := s.host.linkUp && !s.host.stopped

/-- The manifest read of this tide can go out: the device masters the bus, no read of this tide has been issued, and no more reads are
outstanding than R334 permits. Only manifest reads that outlived their tide can hold every tag; the fetch then waits (log 30). -/
def State.fetches (s : State) : Bool :=
  s.mastering && decide (s.host.manTide ≠ some s.tim.tideIndex) && decide (s.host.reads.length + s.host.manOut.length < s.tags)

/-- MANIFEST_FETCH: one read in each tide (R345). -/
def doManifestFetch (s : State) : State :=
  if s.fetches then
    s.modHost (fun h => { h with manTide := some s.tim.tideIndex, manOut := h.manOut ++ [s.tim.tideIndex] })
  else s

/-- MANIFEST_FETCH (R345). -/
def execManifestFetch (s : State) : Host.Outcome State Fault Refusal := whenLive s doManifestFetch

/-- MANIFEST_READ_COMPLETE: the oldest manifest read completes. -/
def doManifestRead (m : BitVec 1024) (s : State) : State :=
  match s.hears, s.host.manOut with
  | true, t :: rest =>
    let s1 := s.modHost (fun h => { h with manOut := rest })
    if t ≠ s.tim.tideIndex then s1.raiseHst evManifestLate 0 0 0
    else if !manGood m then s1.raiseHst evManifestBad 0 0 0
    else s1.acceptManifest m
  | _, _ => s

/-- MANIFEST_READ_COMPLETE (R345). -/
def execManifestReadComplete (m : BitVec 1024) (s : State) : Host.Outcome State Fault Refusal := whenLive s (doManifestRead m)

/-! ### CAN frame records (R420, R421) -/

/-- Data bytes supplied with a frame. -/
def frameData (e : Entry) (conts : List Entry) : List Byte :=
  ((List.range 16).map (fun i => byteAt e (16 + i)) ++ conts.flatMap (fun c => (List.range 24).map (fun i => byteAt c (8 + i)))).take
    (byteAt e 12).toNat

/-- A unit is assigned to a controller's transmit side (R430). -/
def State.txUnit (s : State) (c : CanId) (u : Nat) : Bool :=
  decide (u < 8) && (let n : ChkId := Fin.ofNat 8 u; decide (s.chkUse n = 1 + c.val) && !s.chkPair n)

/-- A frame record passes the cases of R421. -/
def State.frameOk (s : State) (c : CanId) (e : Entry) : Bool :=
  let u := (byteAt e 14).toNat
  let k := if u = 255 then 0 else s.chkExtra (Fin.ofNat 8 u)
  let fdf := (byteAt e 13).getLsbD 0
  let brs := (byteAt e 13).getLsbD 1
  let rtr := (wordAt e 8).getLsbD 30
  lenValid fdf ((byteAt e 12).toNat + k) && !(fdf && decide (s.canPar c 1 = 0)) && !(rtr && fdf) && !(brs && !fdf) &&
  !(byteAt e 1).getLsbD 0 && (decide (u = 255) || s.txUnit c u)

/-- The frame of a record. -/
def frameOf (e : Entry) (conts : List Entry) : TxFrame :=
  { ident := wordAt e 8, fdf := (byteAt e 13).getLsbD 0, brs := (byteAt e 13).getLsbD 1, data := frameData e conts, chk := byteAt e 14,
    tag := halfAt e 2, note := (byteAt e 1).getLsbD 1, size := 1 + conts.length }

/-- Split entries into frame records; what is left is the beginning of a frame whose last entries have not been read. -/
def State.frames (s : State) (c : CanId) : Nat → List Entry → List DueFrame × List Entry
  | 0, es => ([], es)
  | _, [] => ([], [])
  | fuel + 1, e :: es =>
    let need := if (byteAt e 0).toNat = 0x20 then contCount (byteAt e 12).toNat else 0
    let conts := (es.takeWhile (fun x => decide ((byteAt x 0).toNat = 0x21))).take need
    if conts.length < need ∧ conts.length = es.length then ([], e :: es)
    else
      let ok := decide ((byteAt e 0).toNat = 0x20) && decide (conts.length = need) && s.frameOk c e
      let r := s.frames c fuel (es.drop conts.length)
      ({ entry := e, readAt := s.tim.devTime, size := 1 + conts.length, frame := if ok then some (frameOf e conts) else none } :: r.1, r.2)

/-- CAN_TX_REFUSED of a record. -/
def State.frameRefused (s : State) (c : CanId) (e : Entry) : State := (s.raiseCan evCanTxRefused c 0xFF 0 0 (halfAt e 2)).trace .refused e

/-- The end of a tide's reading of a CAN ring: a frame whose entries the host has not published is refused; one that the queue has no room
for is read again. -/
def State.frameRest (s : State) (c : CanId) : State :=
  let n := txRing c
  let x := s.can c
  match x.part with
  | [] => s
  | e :: _ =>
    if decide (s.inFlight n ≠ 0) || s.host.toRead.any (fun r => decide (r.1 = n) && decide (r.2 ≠ 0)) then s
    else if x.held = ringFilled s n then
      (s.modCan c (fun y => { y with
        part := [], due := y.due ++ [{ entry := e, readAt := s.tim.devTime, size := x.part.length, frame := none }] })).frameRefused c e
    else s.modCan c (fun y => { y with part := [] })

/-- Entries of a CAN ring arrive. -/
def State.takeFrames (s : State) (c : CanId) (es : List Entry) : State :=
  let all := (s.can c).part ++ es
  let r := s.frames c all.length all
  let s1 := s.modCan c (fun x => { x with due := x.due ++ r.1, part := r.2 })
  (each r.1 (fun s d => if d.frame.isNone then s.frameRefused c d.entry else s) s1).frameRest c

/-! ### Entries of rings 0 and 1 (R352, R354) -/

/-- A deferred record: late, turned away by a full store, or kept (R354). -/
def State.deferRec (s : State) (e : Entry) : State :=
  let ahead := (wordAt e 4 - s.tim.tideIndex).toNat
  if ahead = 0 ∨ 65536 ≤ ahead then (s.raiseHst evCmdLate 0 0 (halfAt e 2)).refusedRec e
  else if 16 ≤ s.host.deferred.length then (s.raiseHst evCmdDeferFull 0 0 (halfAt e 2)).refusedRec e
  else s.modHost (fun h => { h with deferred := h.deferred ++ [e] })

/-- A record of ring 0 is read. -/
def State.takeCmd (s : State) (e : Entry) : State :=
  if hdrAt (hdrOf e) then s.deferRec e else s.modHost (fun h => { h with due := h.due ++ [⟨e, s.tim.devTime⟩] })

/-- The entries of a read, and the index past them (R351). Records read while the host is lost are discarded (R347). -/
def State.takeEntries (s : State) (n : RingId) (es : List Entry) : State :=
  match ringCan n with
  | some c => s.takeFrames c es
  | none =>
    let s1 := s.modRing n (fun r => { r with devIdx := r.devIdx + BitVec.ofNat 16 es.length, moved := true })
    if s.host.lost then s1
    else if n = 0 then each es State.takeCmd s1
    else each es (fun s e => State.txnRecord e s) s1

/-- Remove the oldest read outstanding of a ring. -/
def dropRead (n : RingId) : List (RingId × Nat) → List (RingId × Nat)
  | [] => []
  | r :: rs => if r.1 = n then rs else r :: dropRead n rs

/-- DESCRIPTOR_READ_COMPLETE: the oldest read outstanding of a ring brings its entries; more reads may be issued (R336). -/
def doDescriptorRead (n : RingId) (es : List Entry) (s : State) : State :=
  match s.hears, s.host.reads.find? (fun r => decide (r.1 = n)) with
  | true, some r =>
    if es.length ≠ r.2 then s
    else State.issueReads 512 ((s.modHost (fun h => { h with reads := dropRead n h.reads })).takeEntries n es)
  | _, _ => s

/-- DESCRIPTOR_READ_COMPLETE (R352). -/
def execDescriptorReadComplete (n : RingId) (es : List Entry) (s : State) : Host.Outcome State Fault Refusal :=
  whenLive s (doDescriptorRead n es)

/-! ### Reads that fail (R336) -/

/-- A read outstanding is abandoned with HOST_READ_TIMEOUT. The reads of its ring behind it are issued again after the next manifest, so
that the entries keep their order (DESIGN CHOICE, log 30). -/
def State.readFails (s : State) : HostRead → State
  | .manifest =>
    (match s.host.manOut with
     | [] => s
     | _ :: rest => (s.modHost (fun h => { h with manOut := rest })).raiseHst evHostReadTimeout 0 0 0)
  | .ring n =>
    if s.inFlight n = 0 then s
    else
      let keep := fun (r : RingId × Nat) => decide (r.1 ≠ n)
      let s1 := s.modHost (fun h => { h with reads := h.reads.filter keep, toRead := h.toRead.filter keep })
      let s2 := match ringCan n with
        | some c => s1.modCan c (fun x => { x with part := [] })
        | none => s1
      s2.raiseHst evHostReadTimeout 0 0 0

/-- HOST_READ_TIMEOUT (R336). -/
def execHostReadTimeout (r : HostRead) (s : State) : Host.Outcome State Fault Refusal := whenLive s (fun s => s.readFails r)

/-- TLP_DISCARD: reported by AER; for a completion it counts as a timeout of its read. -/
def doTlpDiscard (t : BadTlp) (s : State) : State :=
  let s1 := s.modHost (fun h => { h with aer := h.aer + 1 })
  match t with
  | .completion r => s1.readFails r
  | .other => s1

/-- TLP_DISCARD (R336). -/
def execTlpDiscard (t : BadTlp) (s : State) : Host.Outcome State Fault Refusal := whenLive s (doTlpDiscard t)

/-! ### Link and configuration (R334, R337, R451) -/

/-- The registers at 0x2000 to 0x2FFF are HST's (R337). -/
def hstReg (o : Nat) : Bool := decide (0x2000 ≤ o) && decide (o < 0x3000)

/-- HST cluster 0x0 starts again: reads in flight and fetched records are gone, its setup registers are at their reset values. The ledger,
the slots, the start log and the count of missed tides stay (R337, R451; log 31). -/
def State.resetHst (s : State) : State :=
  let keep := fun (v : Nat × Word) => !hstReg v.1
  let s1 := { s with setup := s.setup.filter keep, setupPend := s.setupPend.filter keep }
  let s2 := each ([0, 1, 2] : List CanId) (fun s c => s.modCan c (fun x => { x with due := [], part := [] })) s1
  s2.modHost (fun h => {
    hb := h.hb, hbSeen := h.hbSeen, commit := h.commit, hostTime := h.hostTime, beat := h.beat, missed := h.missed,
    lost := h.lost, log := h.log, ret := h.ret, stopped := h.stopped, aer := h.aer })

/-- PCIE_RESET (R337). The fundamental reset also ends REGION-SAFE of HST (R451). The configuration fields return to their reset values
(DESIGN CHOICE, log 31); a link that has gone down comes back with PCIE_LINK_UP, and a function in D3hot is in D0 again from the next
configuration write (R334). -/
def doPcieReset (k : PcieResetKind) (s : State) : State :=
  let s1 := s.resetHst.relock .hst 1
  let s2 := s1.modHost (fun h => { h with linkUp := decide (k = .d3hot) && s.host.linkUp, d3hot := decide (k = .d3hot) })
  let s3 := if k = .fundamental ∧ s.isSafe .hst then
      (s2.modReg .hst (fun x => { x with safe := false, cause := 0 })).modHost (fun h => { h with stopped := h.stopped && s.power.devSafe })
    else s2
  s3.raiseHst evPcieLinkDown 0 0 0

/-- PCIE_RESET (R337). -/
def execPcieReset (k : PcieResetKind) (s : State) : Host.Outcome State Fault Refusal :=
  doneSetup s (if s.live then doPcieReset k s else s)

/-- PCIE_LINK_UP (R337). -/
def execPcieLinkUp (s : State) : Host.Outcome State Fault Refusal := whenLive s (fun s => s.modHost (fun h => { h with linkUp := true }))

/-- PCIE_CONFIG_WRITE (R334): the fields the device obeys, written in D0 (log 31). A vector masked while it was raised is sent once it is
unmasked (R361). -/
def execPcieConfigWrite (c : PcieConfig) (s : State) : Host.Outcome State Fault Refusal :=
  whenLive s (fun s => (s.modHost (fun h => { h with cfg := c, d3hot := false })).flushVectors)

/-- HOST_ENDPOINT_FAULT: HST takes its safe state, nothing further is written, and the host-loss reaction follows at once (R347, R447). -/
def execHostEndpointFault (s : State) : Host.Outcome State Fault Refusal :=
  whenLive s (fun s =>
    ((s.modHost (fun h => { h with stopped := true })).raiseHst evHostEndpointFault 0 0 0).safeBy .hst evHostEndpointFault)

/-! ### Host loss (R346, R347) -/

/-- The tide that ends now, with those before it, makes `HB_TIMEOUT` consecutive missed ones, whatever kept the beat away (log 28). -/
def State.lossDue (s : State) : Bool :=
  !s.host.lost && !s.host.beat && decide (s.cfgF 0x2018 0 8 ≤ s.host.missed.toNat + 1)

/-- HOST_LOST: at the tide boundary that ends the last missed tide, ahead of what else the boundary does (R346, R347, the edge note after
R365). Its events carry the index of the tide that starts there. -/
def doHostLost (s : State) : State :=
  if !s.lossDue then s
  else
    let s1 := (s.reach s.boundaryTime).modTim (fun t => { t with tideIndex := s.tideNext })
    let s2 := (s1.raiseReg evHostLost .hst (F.ofNat (s.host.missed.toNat + 1)) (F.ofNat (s.cfgF 0x2018 0 8))).hostLoss true
    s2.modTim (fun t => { t with tideIndex := s.tim.tideIndex })

/-- HOST_LOST (R346). -/
def execHostLost (s : State) : Host.Outcome State Fault Refusal := whenLive s doHostLost

end Sys2Proof.Machine
end

