-- ==== Sys2Proof/Machine/Tide.lean ====
section
/-! DEFINITION. The tide boundary: the slack point with its commit, period words, deferred and due records, frames, checks, crossings,
telemetry and return manifest (R63, R64, R184, R194, R253, R312, R346, R353, R354, R358, R360, R361, R397, R399, R401, R403, R406, R414,
R422, R465, R498). -/

namespace Sys2Proof.Machine

/-! ### Heartbeat (R346) -/

/-- The tide that ends is counted: a beat in it, or one more missed tide, whatever the cause. -/
def State.countTide (s : State) : State :=
  s.modHost (fun h => { h with beat := false, missed := if h.beat then 0 else if h.missed = 0xFF then 0xFF else h.missed + 1 })

/-! ### Period words (R69, R498) -/

/-- The period words pending together apply, or each is refused and the highest offset is kept. -/
def State.periodsTide (s : State) : State :=
  let ws := s.periodPend
  if ws.isEmpty then s
  else
    let clear := fun (t : State) => { t with setupPend := t.setupPend.filter (fun v => !periodWords.contains v.1) }
    if s.periodsPass then clear s.withPeriods
    else
      (each ws (fun s v => s.raiseReg evPeriodRefused .sup (wd v.1) v.2) (clear s)).modTim (fun t => { t with
        refused := true, refusedOfs := BitVec.ofNat 16 ((ws.map Prod.fst).foldl max 0) })

/-! ### Records (R353, R354, R399) -/

/-- The deferred records of the tide that starts, in the order of their fetch. -/
def State.deferredTide (s : State) : State :=
  let now := s.tim.tideIndex
  let mine := s.host.deferred.filter (fun e => decide (wordAt e 4 = now))
  each mine (fun s e => State.applyEntry e s) (s.modHost (fun h => { h with
    deferred := h.deferred.filter (fun e => decide (wordAt e 4 ≠ now)) }))

/-- After an adopted index, a deferred record that fails R354 is refused with CMD_LATE (R399). -/
def State.recheckDeferred (s : State) : State :=
  let now := s.tim.tideIndex
  let bad := fun (e : Entry) => decide (65536 ≤ (wordAt e 4 - now).toNat)
  each (s.host.deferred.filter bad) (fun s e => (s.raiseHst evCmdLate 0 0 (halfAt e 2)).refusedRec e)
    (s.modHost (fun h => { h with deferred := h.deferred.filter (fun e => !bad e) }))

/-- 2 us in ticks (R352). -/
def readDelay : Nat := 800

/-- A read completed at least 2 us before this slack point (R352). -/
def State.dueNow (s : State) (t : Time) : Bool := decide (readDelay ≤ (s.tim.devTime - t).toNat)

/-- The due records of ring 0, in ring order. -/
def State.cmdsTide (s : State) : State :=
  let now := s.host.due.filter (fun d => s.dueNow d.readAt)
  each now (fun s d => State.applyEntry d.entry s) (s.modHost (fun h => { h with due := h.due.filter (fun d => !s.dueNow d.readAt) }))

/-- Frames that are due enter their queue in ring order, and the device index moves past them; those refused are consumed (R421, R422). -/
def State.framesTide (s : State) (c : CanId) : State :=
  let now := (s.can c).due.takeWhile (fun d => s.dueNow d.readAt)
  let size := (now.map (·.size)).foldl (· + ·) 0
  if now.isEmpty then s
  else
    let s1 := s.modCan c (fun x => { x with queue := x.queue ++ now.filterMap (·.frame), due := x.due.drop now.length })
    let s2 := s1.modRing (txRing c) (fun r => { r with devIdx := r.devIdx + BitVec.ofNat 16 size, moved := true })
    each (now.filter (fun d => d.frame.isSome)) (fun s d => s.trace .applied d.entry) s2

/-! ### The hawser link -/

/-- A condition in three consecutive tides: its count and whether it has been told, and whether it is told now (R403). -/
def skewStep (bad : Bool) (n : Nat) (told : Bool) : Nat × Bool × Bool :=
  if !bad then (0, false, false) else (min 3 (n + 1), told || decide (3 ≤ n + 1), decide (3 ≤ n + 1) && !told)

/-- A mirrored set-point's difference and its limit, where it exceeds it (R403). -/
def State.spDiffers (s : State) (own mate : F32) : Option (F32 × F32) :=
  let d := F.abs (F.sub own mate)
  let lim := F.mul (s.par (hawId 8)) (F.max (F.abs own) F.one)
  if F.lt lim d then some (d, lim) else none

/-- The first set-point of a side that differs from its mirror's. -/
def State.sideSkew (s : State) (x : Side) : Option (F32 × F32) :=
  let m := s.haws.mirrors[rIx (sideReg x)]
  let l := s.law (speedLaw x)
  if m.valid then (s.spDiffers l.ringSp (m.words.getD 10 0)).or (s.spDiffers l.ringMz (m.words.getD 11 0)) else none

/-- The comparisons of R403 at a tide boundary while PAIRED. -/
def State.skewTide (s : State) : State :=
  if s.haws.pair ≠ .paired then s
  else
    let e := skewStep (decide (s.haws.mateEpoch ≠ s.txn.epoch) && !allSlots.any (fun k => decide ((s.slot k).state = .prepared)))
      s.haws.epochSkew s.haws.epochTold
    let far := (s.sideSkew .a).or (s.sideSkew .b)
    let p := skewStep far.isSome s.haws.spSkew s.haws.spTold
    let off := match s.mateShare with
      | some m => F.abs (F.sub (F.add (s.par (hawId 1)) m) F.one)
      | none => F.zero
    let share := F.lt (F.dec 1 (-3)) off
    let s1 := s.modHaws (fun h => { h with
      epochSkew := e.1, epochTold := e.2.1, spSkew := p.1, spTold := p.2.1, shareTold := h.shareTold || share })
    let s2 := if e.2.2 then s1.raisePair evEpochSkew (F.ofNat s.haws.mateEpoch.toNat) (F.ofNat s.txn.epoch.toNat) else s1
    let s3 := match p.2.2, far with
      | true, some d => s2.raisePair evSetpointSkew d.1 d.2
      | _, _ => s2
    if share && !s.haws.shareTold then s3.raisePair evShareMismatch off (F.dec 1 (-3)) else s3

/-- The record of ring 15 (R414). -/
def diagEntry (s : State) : Entry :=
  let h := s.haws
  packEntry [(0, 1, 0x86), (1, 1, pairCode h.pair), (2, 2, bit h.linkUp + 2 * bit h.locked + 4 * bit h.rejoin + 8 * bit h.mpFault),
    (4, 4, s.tim.tideIndex.toNat), (8, 2, h.crcTide.toNat), (10, 2, h.lostTide.toNat), (12, 2, h.rtt.toNat),
    (14, 2, (BitVec.ofInt 16 h.err).toNat), (16, 4, h.mateEpoch.toNat), (20, 4, h.mateTide.toNat),
    (24, 1, (match h.mateHealth with | some b => b.pair.toNat | none => 0))]

/-- The payload of a mirror sent once per tide: its sample instant is the tide boundary, in period 0 (R401, log 10). -/
def State.tideMirror (s : State) (r : RegionId) (ws : List Word) : State :=
  s.queueCross .mirror (mirrorPayload ⟨r, 0, s.tim.tideStart, ws⟩)

/-- What is sent once per tide: mirrors, HEALTH, and HELLO until the link is formed (R397, R401). -/
def State.sendTide (s : State) : State :=
  if !s.pairOn then s
  else
    let s1 := (((s.tideMirror .chg s.chMirror).tideMirror .act s.actMirror).tideMirror .sup s.supMirror).queueCross .health (healthPayload s.ownHealth)
    if s.haws.linkUp then s1 else s1.queueCross .hello (helloPayload s1.ownHello)

/-- `MATE_PRES` high for one tide clears the judgement of R406; the counts of the tide ended start again. -/
def State.presTide (s : State) : State :=
  (s.modHaws (fun h => { h with
    presTides := if h.pres then h.presTides + 1 else 0, mpFault := h.mpFault && !(h.pres && decide (1 ≤ h.presTides)),
    badTold := false, crcTide := 0, lostTide := 0 })).splitCheck

/-! ### Telemetry, vectors, return manifest (R358, R360, R361) -/

/-- Telemetry record r. -/
def tlmEntry (s : State) (r : Nat) : Entry :=
  packEntry ([(0, 1, 0x81), (1, 1, r), (4, 4, s.tim.tideIndex.toNat)] ++
    (List.range 6).map (fun i =>
      (8 + 4 * i, 4, (readReg s .pcie ((s.cfgN (0x2140 + 4 * (6 * r + i)) % 65536) / 4 * 4)).toNat)))

/-- The telemetry of a slack point: where the tide index is a multiple of `HST.TLM_DECIM` (DESIGN CHOICE, log 32). -/
def State.telemetry (s : State) : State :=
  if s.tim.tideIndex.toNat % max 1 (s.cfgF 0x2020 0 9) = 0 then
    each ((List.range (min 4 (s.cfgF 0x2020 16 3))).map (tlmEntry s)) (fun s e => s.writeRec 2 e) s
  else s

/-- The vector of a ring whose index has moved or to which records were written since the last slack point. -/
def State.ringIrqTide (s : State) (n : RingId) : State :=
  let hit := (s.ring n).moved && ringEnabled s n && ringIrq s n
  let s1 := s.modRing n (fun r => { r with moved := false })
  if hit then s1.sendVector (ringVector s n) else s1

/-- The return manifest and its vector, while the device masters the bus. The events of the next tide are counted from here in any
case. -/
def State.retTide (s : State) : State := if s.mastering then s.sendReturn else s.newTide

/-! ### The whole boundary -/

/-- Checks and windows that follow the tide: accumulators, stand-in pairs, lamps, what is told once per tide. -/
def State.checksTide (s : State) : State :=
  let s1 := each allSns (fun s n => s.accEnd n 0) s
  let s2 := each ([0, 1, 2] : List (Fin 3)) (fun s k => s.beginCheck k) s1
  let s3 := each [Side.a, Side.b] (fun s x => s.modTr x (fun t => { t with quietTold := false })) s2
  (s3.extSuspend.lampTide).canTide

/-- TIDE_BOUNDARY: the index advances, then the slack point acts in the order of R353. The operands say whether the states of blocking nets
A and B that the bridges report match the lands (R312); the reaction to a mismatch governs the records of this slack point (R41). -/
def doTideBoundary (netA netB : Bool) (s : State) : State :=
  let adopted := s.haws.adopt
  let s0 := each allRings (fun s n => s.modRing n (fun r => { r with dropped := false })) s
  let s1 := (s0.countTide.syncTide.tideTime s.tideNext).modHaws (fun h => { h with adopt := false })
  let s2 := each allRegs (fun s r => s.modReg r (fun x => { x with periods := 0 })) s1
  let s3 := (s2.modHost (fun h => { h with toRead := [] })).applyDecision.periodsTide
  let s3n := if netA && netB then s3 else s3.stoFault
  let s4 := (if adopted then s3n.recheckDeferred else s3n).deferredTide.cmdsTide
  let s5 := (each ([0, 1, 2] : List CanId) (fun s c => s.framesTide c) s4).marksTide
  let s6 := s5.checksTide.becomeReady
  let s7 := s6.skewTide.telemetry
  let s8 := if s7.cfgBit 0x9000 0 then s7.writeRec 15 (diagEntry s7) else s7
  (each allRings (fun s n => s.ringIrqTide n) s8.presTide.sendTide).retTide.testGuard

/-- The parameters after a tide boundary: those before, with the staged values of the decision latched at V (R376). Nothing else at a
slack point touches them (R2). -/
def State.tideParams (s : State) : RegMap :=
  match s.latched with
  | none => s.params
  | some k => s.candidate (s.slot k).staged

/-- The slots, the epoch and the pair's marks after a tide boundary: the decision latched at V applies and the marks move on (R376, R378, R380,
R383). Nothing else at a slack point touches them. -/
def State.tideTxn (s : State) : Txn :=
  ((s.modTim (fun x => { x with tideIndex := s.tideNext })).applyDecision.marksTide).txn

/-- The boundary as a whole: the parameters, the transactions, the tide index and the boundary's instant are these, whatever the slack point does
besides. -/
def tideBoundary (netA netB : Bool) (s : State) : State :=
  let t := doTideBoundary netA netB s
  { t with params := s.tideParams, txn := s.tideTxn, tim := { t.tim with tideIndex := s.tideNext, tideStart := s.boundaryTime } }

/-- TIDE_BOUNDARY (R63). -/
def execTideBoundary (netA netB : Bool) (s : State) : Host.Outcome State Fault Refusal :=
  doneAll s (if s.live then tideBoundary netA netB s else s)

end Sys2Proof.Machine
end

