-- ==== Sys2Proof/Machine/Dispatch.lean ====
section
/-! DEFINITION. The one arm per command: its meaning, or its rejection by name. -/

namespace Sys2Proof.Machine

def exec (i : Instr) (s : State) : Host.Outcome State Fault Refusal :=
  match i with
  | .nop h => Sys2Proof.Machine.execNop h s
  | .setMode h region actuator mode => Sys2Proof.Machine.execSetMode h region actuator mode s
  | .setpoint h s0 s1 s2 => Sys2Proof.Machine.execSetpoint h s0 s1 s2 s
  | .arm h region mask => Sys2Proof.Machine.execArm h region mask s
  | .disarm h region mask => Sys2Proof.Machine.execDisarm h region mask s
  | .resetCluster h region cluster => Sys2Proof.Machine.execResetCluster h region cluster s
  | .resetRegion h region => Sys2Proof.Machine.execResetRegion h region s
  | .brakeApply h => Sys2Proof.Machine.execBrakeApply h s
  | .brakeRelease h => Sys2Proof.Machine.execBrakeRelease h s
  | .brakeTest h => Sys2Proof.Machine.execBrakeTest h s
  | .setPosition h actuator value => Sys2Proof.Machine.execSetPosition h actuator value s
  | .canRecover h ctrl => Sys2Proof.Machine.execCanRecover h ctrl s
  | .selftest h kind region cluster replica => Sys2Proof.Machine.execSelftest h kind region cluster replica s
  | .begin h slot flags txid target => Sys2Proof.Machine.execBegin h slot flags txid target s
  | .stage h slot count i0 v0 i1 v1 i2 v2 => Sys2Proof.Machine.execStage h slot count i0 v0 i1 v1 i2 v2 s
  | .commit h slot seq expect => Sys2Proof.Machine.execCommit h slot seq expect s
  | .rollback h slot => Sys2Proof.Machine.execRollback h slot s
  | .voteInstant => Sys2Proof.Machine.execVoteInstant s
  | .tideBoundary netA netB => Sys2Proof.Machine.execTideBoundary netA netB s
  | .timingMark => Sys2Proof.Machine.execTimingMark s
  | .regionPeriodStart r => Sys2Proof.Machine.execRegionPeriodStart r s
  | .sampleInstant law pins acks => Sys2Proof.Machine.execSampleInstant law pins acks s
  | .law14Pass k => Sys2Proof.Machine.execLaw14Pass k s
  | .vote law obs => Sys2Proof.Machine.execVote law obs s
  | .applyInstant law late => Sys2Proof.Machine.execApplyInstant law late s
  | .loadPoint b peak copiesAgree => Sys2Proof.Machine.execLoadPoint b peak copiesAgree s
  | .manifestFetch => Sys2Proof.Machine.execManifestFetch s
  | .manifestReadComplete bytes => Sys2Proof.Machine.execManifestReadComplete bytes s
  | .descriptorReadComplete ring entries => Sys2Proof.Machine.execDescriptorReadComplete ring entries s
  | .hostReadTimeout read => Sys2Proof.Machine.execHostReadTimeout read s
  | .tlpDiscard tlp => Sys2Proof.Machine.execTlpDiscard tlp s
  | .pcieReset kind => Sys2Proof.Machine.execPcieReset kind s
  | .registerWrite port offset be value => Sys2Proof.Machine.execRegisterWrite port offset be value s
  | .rcRead port offset be setNow => Sys2Proof.Machine.execRcRead port offset be setNow s
  | .w1cWrite port offset be value setNow => Sys2Proof.Machine.execW1cWrite port offset be value setNow s
  | .devtimeCapture port => Sys2Proof.Machine.execDevtimeCapture port s
  | .accCapture port chan => Sys2Proof.Machine.execAccCapture port chan s
  | .lqDataRead port sns => Sys2Proof.Machine.execLqDataRead port sns s
  | .timingSetupWrite port offset value => Sys2Proof.Machine.execTimingSetupWrite port offset value s
  | .hstRunSet port value => Sys2Proof.Machine.execHstRunSet port value s
  | .hstRunClear port value => Sys2Proof.Machine.execHstRunClear port value s
  | .spiRead head bytes => Sys2Proof.Machine.execSpiRead head bytes s
  | .spiWrite head bytes => Sys2Proof.Machine.execSpiWrite head bytes s
  | .dbgHalt => Sys2Proof.Machine.execDbgHalt s
  | .dbgStep pins obs => Sys2Proof.Machine.execDbgStep pins obs s
  | .dbgResume agree => Sys2Proof.Machine.execDbgResume agree s
  | .dbgDataWrite value => Sys2Proof.Machine.execDbgDataWrite value s
  | .dbgRegHalt => Sys2Proof.Machine.execDbgRegHalt s
  | .dbgRegResume agree => Sys2Proof.Machine.execDbgRegResume agree s
  | .dbgBrgHalt => Sys2Proof.Machine.execDbgBrgHalt s
  | .dbgBrgResume => Sys2Proof.Machine.execDbgBrgResume s
  | .chkFeedB port n value => Sys2Proof.Machine.execChkFeedB port n value s
  | .chkFeedH port n value => Sys2Proof.Machine.execChkFeedH port n value s
  | .chkFeedW port n value => Sys2Proof.Machine.execChkFeedW port n value s
  | .chkRestart port n => Sys2Proof.Machine.execChkRestart port n s
  | .chkContextWrite port n reg value => Sys2Proof.Machine.execChkContextWrite port n reg value s
  | .scanEntryComplete sns entry => Sys2Proof.Machine.execScanEntryComplete sns entry s
  | .windowCrossing win comp level samples => Sys2Proof.Machine.execWindowCrossing win comp level samples s
  | .tripInChange input level => Sys2Proof.Machine.execTripInChange input level s
  | .tripWindowEnd b => Sys2Proof.Machine.execTripWindowEnd b s
  | .standinCheckStep wst ok steady => Sys2Proof.Machine.execStandinCheckStep wst ok steady s
  | .desaturation gs => Sys2Proof.Machine.execDesaturation gs s
  | .desat gs fell => Sys2Proof.Machine.execDesat gs fell s
  | .gsLost gs => Sys2Proof.Machine.execGsLost gs s
  | .pairlinkLost gs => Sys2Proof.Machine.execPairlinkLost gs s
  | .shootGs b sw withdrawn => Sys2Proof.Machine.execShootGs b sw withdrawn s
  | .gsVpUv gs vp => Sys2Proof.Machine.execGsVpUv gs vp s
  | .gsVnUv gs vn => Sys2Proof.Machine.execGsVnUv gs vn s
  | .gsReady gs => Sys2Proof.Machine.execGsReady gs s
  | .gsDriveFault gs => Sys2Proof.Machine.execGsDriveFault gs s
  | .vdsAct b sw => Sys2Proof.Machine.execVdsAct b sw s
  | .bstUv b volts => Sys2Proof.Machine.execBstUv b volts s
  | .cpFault volts => Sys2Proof.Machine.execCpFault volts s
  | .cpRecovery => Sys2Proof.Machine.execCpRecovery s
  | .dtAtLimit b sw => Sys2Proof.Machine.execDtAtLimit b sw s
  | .dvdtAtLimit b sw turnOn => Sys2Proof.Machine.execDvdtAtLimit b sw turnOn s
  | .safeEnFall land => Sys2Proof.Machine.execSafeEnFall land s
  | .safeEnRelease => Sys2Proof.Machine.execSafeEnRelease s
  | .safeEnDiscrepancy => Sys2Proof.Machine.execSafeEnDiscrepancy s
  | .brkStoDelay => Sys2Proof.Machine.execBrkStoDelay s
  | .brakeConversion fb isns vsup => Sys2Proof.Machine.execBrakeConversion fb isns vsup s
  | .brkTestPulse => Sys2Proof.Machine.execBrkTestPulse s
  | .pullInEnd => Sys2Proof.Machine.execPullInEnd s
  | .vsupWarn volts => Sys2Proof.Machine.execVsupWarn volts s
  | .vsupResumed volts => Sys2Proof.Machine.execVsupResumed volts s
  | .vsupReset => Sys2Proof.Machine.execVsupReset s
  | .vioFault volts => Sys2Proof.Machine.execVioFault volts s
  | .vrefFault volts => Sys2Proof.Machine.execVrefFault volts s
  | .vmUv volts => Sys2Proof.Machine.execVmUv volts s
  | .vmOv volts => Sys2Proof.Machine.execVmOv volts s
  | .gpRailFault kind volts => Sys2Proof.Machine.execGpRailFault kind volts s
  | .powerOn straps => Sys2Proof.Machine.execPowerOn straps s
  | .resetNRelease straps => Sys2Proof.Machine.execResetNRelease straps s
  | .startCheck region cluster gs ok => Sys2Proof.Machine.execStartCheck region cluster gs ok s
  | .dieALost celsius => Sys2Proof.Machine.execDieALost celsius s
  | .dieCFault celsius => Sys2Proof.Machine.execDieCFault celsius s
  | .refLost => Sys2Proof.Machine.execRefLost s
  | .islandUnlock region cluster ppm => Sys2Proof.Machine.execIslandUnlock region cluster ppm s
  | .markLost => Sys2Proof.Machine.execMarkLost s
  | .syncInEdge edge => Sys2Proof.Machine.execSyncInEdge edge s
  | .syncInLost => Sys2Proof.Machine.execSyncInLost s
  | .syncOutPulse => Sys2Proof.Machine.execSyncOutPulse s
  | .extclkEdge edge => Sys2Proof.Machine.execExtclkEdge edge s
  | .extSyncLost => Sys2Proof.Machine.execExtSyncLost s
  | .hello h body => Sys2Proof.Machine.execHello h body s
  | .timing h body => Sys2Proof.Machine.execTiming h body s
  | .mirror h body => Sys2Proof.Machine.execMirror h body s
  | .health h body => Sys2Proof.Machine.execHealth h body s
  | .farewell h => Sys2Proof.Machine.execFarewell h s
  | .idle h => Sys2Proof.Machine.execIdle h s
  | .timingSend => Sys2Proof.Machine.execTimingSend s
  | .idleSend => Sys2Proof.Machine.execIdleSend s
  | .linkLost => Sys2Proof.Machine.execLinkLost s
  | .laneAlignmentLost lane => Sys2Proof.Machine.execLaneAlignmentLost lane s
  | .matePresChange level => Sys2Proof.Machine.execMatePresChange level s
  | .matePresFault => Sys2Proof.Machine.execMatePresFault s
  | .canTxLoad c => Sys2Proof.Machine.execCanTxLoad c s
  | .frameSent c buf stamp => Sys2Proof.Machine.execFrameSent c buf stamp s
  | .txAttemptFailed c buf how => Sys2Proof.Machine.execTxAttemptFailed c buf how s
  | .canFrameReceived c frame stamp => Sys2Proof.Machine.execCanFrameReceived c frame stamp s
  | .fdfReceived c => Sys2Proof.Machine.execFdfReceived c s
  | .canBusOff c => Sys2Proof.Machine.execCanBusOff c s
  | .canRecovered c => Sys2Proof.Machine.execCanRecovered c s
  | .canErrPassive c => Sys2Proof.Machine.execCanErrPassive c s
  | .pilotPeriod periodTicks highTicks => Sys2Proof.Machine.execPilotPeriod periodTicks highTicks s
  | .ppConversion volts => Sys2Proof.Machine.execPpConversion volts s
  | .sourceValid => Sys2Proof.Machine.execSourceValid s
  | .chgTimerExpired => Sys2Proof.Machine.execChgTimerExpired s
  | .peerRaiseTimeout => Sys2Proof.Machine.execPeerRaiseTimeout s
  | .chargeDone => Sys2Proof.Machine.execChargeDone s
  | .batteryAbsent => Sys2Proof.Machine.execBatteryAbsent s
  | .spSourceLost law => Sys2Proof.Machine.execSpSourceLost law s
  | .spSourceBack law => Sys2Proof.Machine.execSpSourceBack law s
  | .followErr law => Sys2Proof.Machine.execFollowErr law s
  | .rotorLost side => Sys2Proof.Machine.execRotorLost side s
  | .rotorCaught side => Sys2Proof.Machine.execRotorCaught side s
  | .catchFailed side => Sys2Proof.Machine.execCatchFailed side s
  | .fluxLow side => Sys2Proof.Machine.execFluxLow side s
  | .fluxHigh side => Sys2Proof.Machine.execFluxHigh side s
  | .actParked a => Sys2Proof.Machine.execActParked a s
  | .chopperOpen => Sys2Proof.Machine.execChopperOpen s
  | .chopperConducts => Sys2Proof.Machine.execChopperConducts s
  | .disTimeout => Sys2Proof.Machine.execDisTimeout s
  | .sensBroken k => Sys2Proof.Machine.execSensBroken k s
  | .throttleStep ch => Sys2Proof.Machine.execThrottleStep ch s
  | .hostLost => Sys2Proof.Machine.execHostLost s
  | .darningStart law => Sys2Proof.Machine.execDarningStart law s
  | .darnDone law ok => Sys2Proof.Machine.execDarnDone law ok s
  | .washSlot law shadowOk => Sys2Proof.Machine.execWashSlot law shadowOk s
  | .washTestEnd logic mem failAddr micros => Sys2Proof.Machine.execWashTestEnd logic mem failAddr micros s
  | .selftestEnd units => Sys2Proof.Machine.execSelftestEnd units s
  | .carrierEdge b sw on copiesAgree node => Sys2Proof.Machine.execCarrierEdge b sw on copiesAgree node s
  | .gpRailReady volts => Sys2Proof.Machine.execGpRailReady volts s
  | .gpHalfCycle edgeSeen => Sys2Proof.Machine.execGpHalfCycle edgeSeen s
  | .gpCurrentLimit => Sys2Proof.Machine.execGpCurrentLimit s
  | .resetNAssert lowTicks => Sys2Proof.Machine.execResetNAssert lowTicks s
  | .jtagInstruction op pins => Sys2Proof.Machine.execJtagInstruction op pins s
  | .pcieLinkUp => Sys2Proof.Machine.execPcieLinkUp s
  | .pcieConfigWrite cfg => Sys2Proof.Machine.execPcieConfigWrite cfg s
  | .hostEndpointFault => Sys2Proof.Machine.execHostEndpointFault s
  | .hawserFault => Sys2Proof.Machine.execHawserFault s
  | .canFault c => Sys2Proof.Machine.execCanFault c s
  | .safeEnRise land => Sys2Proof.Machine.execSafeEnRise land s
  | .laneAligned => Sys2Proof.Machine.execLaneAligned s
  | .crossingSent kind => Sys2Proof.Machine.execCrossingSent kind s
  | .brkTestPulseEnd => Sys2Proof.Machine.execBrkTestPulseEnd s
  | .windowHoldRelease win => Sys2Proof.Machine.execWindowHoldRelease win s
  | .errorFrame c lec => Sys2Proof.Machine.execErrorFrame c lec s

end Sys2Proof.Machine
end

