-- ==== Sys2Proof/Machine/Idle.lean ====
section
/-! DEFINITION. What passes when no command waits: one tick of device time. -/

namespace Sys2Proof.Machine

/-- One tick of the tide master's count (R10, R58): device time advances by one 2.5 ns tick, and wraps after its all-ones
value. In reset it stands at zero: it starts at T0 (R63, R465). DESIGN CHOICE, log 6. -/
def idle (s : State) : State :=
  if s.power.phase = .inReset then s else s.timeTo (s.tim.devTime + 1)

end Sys2Proof.Machine
end

