-- ==== Sys2Proof/WellFormed.lean ====
section
/-! DEFINITION. Well-formed commands: their operands name a unit that the device has, and a part that the unit has. An ill-formed command
spells nothing the manual describes; every well-formed one has an effect. -/

namespace Sys2Proof

open Machine

/-- What a command's operands must name. Commands without such an operand are well formed. -/
def Instr.wellFormed : Instr → Bool
  -- `LAW14` has passes 1 to 3 besides its sample instant (R70)
  | .law14Pass k => decide (k ≠ 0)
  -- `BRG.BCH` has no high side to drive or to be interlocked with (R140, R155)
  | .carrierEdge b sw _ _ _ => decide (b ≠ .bch ∨ sw = .low)
  | .shootGs b _ _ => decide (b ≠ .bch)
  -- `GS35` has no pair link (R155)
  | .pairlinkLost g => (gsMate g).isSome
  -- drain monitoring and the bootstrap belong to actuator bridges (R166, R167)
  | .vdsAct b _ => (brgAct b).isSome
  | .bstUv b _ => (brgAct b).isSome
  -- dead times adapt on high-voltage bridges (R147); strengths where there is a gate side (R152)
  | .dtAtLimit b _ => decide (brgKind b = .hv)
  | .dvdtAtLimit b sw _ => (gsOf b sw).isSome
  -- a cluster number of the region (R25)
  | .islandUnlock r c _ => decide (c.toNat < cluCount r)
  -- the regions with a mirror and its length (R401)
  | .mirror _ b => decide (b.region ≠ .hst) && decide (b.words.length = mirrorLen b.region)
  | .nop _ | .setMode _ _ _ _ | .setpoint _ _ _ _ | .arm _ _ _ | .disarm _ _ _ | .resetCluster _ _ _ | .resetRegion _ _ => true
  | .brakeApply _ | .brakeRelease _ | .brakeTest _ | .setPosition _ _ _ | .canRecover _ _ | .selftest _ _ _ _ _ => true
  | .begin _ _ _ _ _ | .stage _ _ _ _ _ _ _ _ _ | .commit _ _ _ _ | .rollback _ _ => true
  | .voteInstant | .tideBoundary _ _ | .timingMark | .regionPeriodStart _ | .sampleInstant _ _ _ | .vote _ _ => true
  | .applyInstant _ _ | .loadPoint _ _ _ | .manifestFetch | .manifestReadComplete _ | .descriptorReadComplete _ _ => true
  | .hostReadTimeout _ | .tlpDiscard _ | .pcieReset _ | .registerWrite _ _ _ _ | .rcRead _ _ _ _ | .w1cWrite _ _ _ _ _ | .devtimeCapture _ | .accCapture _ _ => true
  | .lqDataRead _ _ | .timingSetupWrite _ _ _ | .hstRunSet _ _ | .hstRunClear _ _ | .spiRead _ _ | .spiWrite _ _ => true
  | .dbgHalt | .dbgStep _ _ | .dbgResume _ | .dbgDataWrite _ | .dbgRegHalt | .dbgRegResume _ | .dbgBrgHalt | .dbgBrgResume => true
  | .chkFeedB _ _ _ | .chkFeedH _ _ _ | .chkFeedW _ _ _ | .chkRestart _ _ | .chkContextWrite _ _ _ _ => true
  | .scanEntryComplete _ _ | .windowCrossing _ _ _ _ | .tripInChange _ _ | .tripWindowEnd _ | .standinCheckStep _ _ _ => true
  | .desaturation _ | .desat _ _ | .gsLost _ | .gsVpUv _ _ | .gsVnUv _ _ | .gsReady _ | .gsDriveFault _ => true
  | .cpFault _ | .cpRecovery | .safeEnFall _ | .safeEnRelease | .safeEnDiscrepancy | .brkStoDelay | .brakeConversion _ _ _ => true
  | .brkTestPulse | .pullInEnd | .vsupWarn _ | .vsupResumed _ | .vsupReset | .vioFault _ | .vrefFault _ | .vmUv _ | .vmOv _ => true
  | .gpRailFault _ _ | .powerOn _ | .resetNRelease _ | .startCheck _ _ _ _ | .dieALost _ | .dieCFault _ | .refLost => true
  | .markLost | .syncInEdge _ | .syncInLost | .syncOutPulse | .extclkEdge _ | .extSyncLost | .hello _ _ | .timing _ _ => true
  | .health _ _ | .farewell _ | .idle _ | .timingSend | .idleSend | .linkLost | .laneAlignmentLost _ | .matePresChange _ => true
  | .matePresFault | .canTxLoad _ | .frameSent _ _ _ | .txAttemptFailed _ _ _ | .canFrameReceived _ _ _ | .fdfReceived _ => true
  | .canBusOff _ | .canRecovered _ | .canErrPassive _ | .pilotPeriod _ _ | .ppConversion _ | .sourceValid | .chgTimerExpired => true
  | .peerRaiseTimeout | .chargeDone | .batteryAbsent | .spSourceLost _ | .spSourceBack _ | .followErr _ | .rotorLost _ => true
  | .rotorCaught _ | .catchFailed _ | .fluxLow _ | .fluxHigh _ | .actParked _ | .chopperOpen | .chopperConducts | .disTimeout => true
  | .sensBroken _ | .throttleStep _ | .hostLost | .darningStart _ | .darnDone _ _ | .washSlot _ _ | .washTestEnd _ _ _ _ => true
  | .selftestEnd _ | .gpRailReady _ | .gpHalfCycle _ | .gpCurrentLimit | .resetNAssert _ | .jtagInstruction _ _ | .pcieLinkUp => true
  | .pcieConfigWrite _ | .hostEndpointFault | .hawserFault | .canFault _ | .safeEnRise _ | .laneAligned | .crossingSent _ => true
  | .brkTestPulseEnd | .windowHoldRelease _ | .errorFrame _ _ => true

end Sys2Proof
end

