-- ==== Sys2Proof/Safety.lean ====
section
/-! DEFINITION. The terms in which claims about the device are made: commands that complete, the records of detected events, what stays as it
was, and the form that every step keeps. -/

namespace Sys2Proof.Machine

/-- A command runs to its end from a state, and the state it leaves has a property. -/
def Completes (c : Instr) (s : State) (P : State → Prop) : Prop := ∃ t, exec c s = .next t ∧ P t

/-- The record of an event detected now (R357): its code, class, `CLUSTER`, `UNIT`, `DETAIL` words and `REF_TAG`. -/
def State.event (s : State) (code : Half) (cls : RClass) (cluster unit : Byte) (d0 d1 : Word) (tag : Half) : Event :=
  { code := code, cls := cls, time := s.tim.devTime, tide := s.tim.tideIndex, cluster := cluster, unit := unit, refTag := tag,
    epoch := s.txn.epoch, d0 := d0, d1 := d1, dropped := false }

/-- Events go to the start log, and it has room (R467): no event waits, no safe state has stopped HST, no manifest has opened ring 3, and trace
records, whose ring could be full, are off. -/
def State.logs (s : State) : Prop :=
  s.evq = [] ∧ s.host.stopped = false ∧ s.eventsOpen = false ∧ s.host.log.length ≤ 16 ∧ s.cfgBit 0x2000 1 = false

/-- No slot holds a PREPARED commit, whose rules would bind records (R381). -/
abbrev State.noPrepared (s : State) : Prop := ∀ k, (s.slot k).state ≠ .prepared

/-- Where the start log takes events, it takes these, in this order, and no others. -/
def Records (s t : State) (es : List Event) : Prop := s.logs → t.host.log = s.host.log ++ es

/-- Nothing of the host interface changes but what reports to the host: rings, events, the start log, the return manifest, vectors and alerts.
No ring's host index moves. -/
def ReportsOnly (h k : HostIf) : Prop :=
  k = { h with
    rings := k.rings, events := k.events, log := k.log, evLost := k.evLost, evDrop := k.evDrop, evTide := k.evTide,
    dropTide := k.dropTide, worst := k.worst, ret := k.ret, stopped := k.stopped, alert := k.alert, msixPend := k.msixPend,
    msixSent := k.msixSent } ∧
  ∀ n : RingId, k.rings[n].hostIdx = h.rings[n].hostIdx

/-- Two states differ at most in what reports to the host; no event waits in the second. -/
def SameButHost (s t : State) : Prop := t = { s with host := t.host, evq := [] } ∧ ReportsOnly s.host t.host

/-- The form that every step keeps: the active parameters and the setup registers stand in canonical form, so that equal banks are equal data, and
every detected event has been written (R366, R442). -/
def State.Inv (s : State) : Prop := mapWf parReset s.params = true ∧ mapWf setupReset s.setup = true ∧ s.evq = []

/-- The timing, setup, transaction and parameter state, which a unit's own commands never touch. -/
def SameCore (s t : State) : Prop :=
  t.tim = s.tim ∧ t.setup = s.setup ∧ t.setupPend = s.setupPend ∧ t.params = s.params ∧ t.txn = s.txn

/-- A command runs to its end, leaves this state but for what reports to the host, and records these events. -/
def Does (c : Instr) (s u : State) (es : List Event) : Prop := Completes c s (fun t => SameButHost u t ∧ Records s t es)

/-- Where the start log takes events, this one is among them. -/
def Logs (s t : State) (e : Event) : Prop := s.logs → e ∈ t.host.log

/-- A region stands in its safe state, for the event with a code unless it stood there before; that of SUP is DEVICE-SAFE, which governs every
other region (R32, R39). -/
def InSafe (s t : State) (r : RegionId) (code : Half) : Prop :=
  match r with
  | .sup => t.power.devSafe = true ∧ (s.power.devSafe = false → t.power.devCause = code)
  | _ => s.power.devSafe = false → t.isSafe r = true ∧ (s.isSafe r = false → (t.reg r).cause = code)

/-- What no safe state touches: timing, setup, parameters, transactions, sensing, gate sides, the torque-off lands, controllers, thermal state. -/
def KeepsSensing (s t : State) : Prop :=
  SameCore s t ∧ t.gates = s.gates ∧ t.cpFault = s.cpFault ∧ t.chans = s.chans ∧ t.wins = s.wins ∧ t.wsts = s.wsts ∧
  t.tripIn = s.tripIn ∧ t.sto = s.sto ∧ t.therm = s.therm ∧ t.cans = s.cans ∧ t.dbg = s.dbg

/-- Outside one region no region state, bridge or law engine changes, and nothing that no safe state touches. -/
def OnlyRegion (s t : State) (r : RegionId) : Prop :=
  (∀ q, q ≠ r → t.reg q = s.reg q) ∧ (∀ b, b ∉ regBridges r → t.brg b = s.brg b) ∧ (∀ l, l ∉ regLaws r → t.law l = s.law l) ∧
  KeepsSensing s t

/-- A bridge stands in ISOLATE, for this cause unless it stood there before, with both switches off where it enters now; no other bridge changes,
except where a lost phase of the span can take its region to REGION-SAFE (R29, R169, R251). -/
def Isolates (s t : State) (b : BridgeId) (cause : Nat) : Prop :=
  (t.brg b).arm = .isolated ∧
  (s.isIso b = false → (t.brg b).hiOn = false ∧ (t.brg b).loOn = false ∧ (t.brg b).isoCause = BitVec.ofNat 10 cause) ∧
  (s.isIso b = true → (t.brg b).isoCause = (s.brg b).isoCause) ∧
  (∀ c, c ≠ b → b ∉ spanBridges → t.brg c = s.brg c) ∧ SameCore s t

/-- The record of an isolating event of a bridge detected now, with the gate side concerned or 0xFF (R174). -/
def State.brgEvent (s : State) (b : BridgeId) (num : Nat) (unit : Byte) (d0 d1 : Word) : Event :=
  s.event (codeOf 1 (regCode (brgReg b)) num) .isolate (BitVec.ofNat 8 (brgClu b)) unit d0 d1 0

end Sys2Proof.Machine
end

