-- ==== Sys2Proof/Certificates/Slice0/Obligations.lean ====
section
/-! DEFINITION. The statements for the provers. Those about one command say that it completes, with its own effect, from every state that meets
conditions on the state and the operands alone, and what it leaves as it was. Where a statement says which events a command records, it says so
of the start log (R467), which takes them in the order of R442. -/

open Sys2Proof Sys2Proof.Machine

/-! ### The block as a whole -/

/-- A step runs the command at the front of the queue on everything but the queue, with the queue's rest. -/
def Obligations.StepRunsFront : Prop :=
  ∀ (c : Instr) (rest : List Instr) (s : State), step { s with pending := c :: rest } = exec c { s with pending := rest }

/-- Every command whose operands name what the device has completes, in every state; any other faults by name. No command touches the queue
of those that wait, and every event a command detects has been written when it ends. The model's choice (log 6): with no command waiting,
one tick of device time passes, with what follows device time at once; in reset nothing passes. -/
def Obligations.EveryWellFormedCommandCompletes : Prop :=
  (
    ∀ (c : Instr) (s : State),
      (c.wellFormed = true → ∃ t, exec c s = .next t) ∧ (c.wellFormed = false → exec c s = .fault .noSuchUnit)) ∧
  (
    ∀ (c : Instr) (s t : State), exec c s = .next t → t.pending = s.pending ∧ t.evq = []) ∧
  (
    ∀ s : State, s.pending = [] →
      step s = .next (if s.power.phase = .inReset then s else s.timeTo (s.tim.devTime + 1)))

/-- The active parameters change only at a tide boundary, where the decision latched at V applies its staged values, and in a package reset
(R2, R366, R376). -/
def Obligations.ParametersChangeOnlyByTransaction : Prop :=
  ∀ (c : Instr) (s t : State), exec c s = .next t →
    match c with
    | .vsupReset => t.params = []
    | .resetNAssert _ => t.params = s.params ∨ t.params = []
    | .tideBoundary _ _ => t.params = if s.live then s.tideParams else s.params
    | _ => t.params = s.params

/-- Every step keeps the active parameters and the setup registers in canonical form and leaves no event unwritten. -/
def Obligations.EveryStepKeepsInv : Prop := ∀ s t : State, s.Inv → step s = .next t → t.Inv

/-- The form that every step keeps holds right after reset. -/
def Obligations.ResetHasInv : Prop := State.reset.Inv

/-- What reset leaves, as registers and parameters read then (R80, R133, R173, R233, R264, R289, R300, R315, R340, R364, R387, R413, R479):
the tide of 40,000 ticks and the ratios, regions OFF, engines STOPPED, bridges DISARMED with both switches off, the brake APPLIED, the gates
blocked, slots CLOSED in epoch 0, the pair SOLO, no event, and every parameter at its row's reset value. -/
def Obligations.ResetState : Prop :=
  let s := State.reset
  s.pending = [] ∧ s.power.phase = .inReset ∧ s.evq = [] ∧ s.tim.devTime = 0 ∧ s.tim.tideIndex = 0 ∧
  readReg s .pcie 0x1004 = 40000 ∧ (allRegs.map s.ratio = [1, 1, 4, 4, 5, 2, 5]) ∧ s.cfgN 0x102C = 5 ∧ readReg s .pcie 0x2000 = 0 ∧
  (∀ r, s.isSafe r = false ∧ s.modeOff r = true) ∧ (∀ l, (s.law l).state = .stopped) ∧
  (∀ b, (s.brg b).arm = .disarmed ∧ (s.brg b).hiOn = false ∧ (s.brg b).loOn = false) ∧
  s.brake.mode = .applied ∧ s.sto.block = true ∧ s.power.devSafe = false ∧
  (∀ k, (s.slot k).state = .closed) ∧ s.txn.epoch = 0 ∧ s.haws.pair = .solo ∧ s.host.events = [] ∧ s.host.log = [] ∧
  (∀ id, s.par id = parReset id)

/-- In reset the lands and the logic stand still (R457): a command other than a start or a reset changes nothing but what the host interface
shows. -/
def Obligations.ResetHoldsEverything : Prop :=
  ∀ (c : Instr) (s t : State), s.power.phase = .inReset → s.evq = [] → exec c s = .next t →
    (∀ x, c ≠ .powerOn x) → (∀ x, c ≠ .resetNRelease x) → (∀ n, c ≠ .resetNAssert n) → c ≠ .vsupReset → SameButHost s t

/-- Ring 1 records: every field of an entry reads back as it was written, so no bit of a transaction record is lost. -/
def Obligations.TransactionRecordsRoundTrip : Prop :=
  ∀ (h : RecHdr) (slot b : Byte) (x y : Word) (i0 i1 i2 : Half) (v0 v1 v2 : Word),
    (let e := beginEntry h slot b x y
     byteAt e 0 = 0x10 ∧ hdrOf e = h ∧ byteAt e 8 = slot ∧ byteAt e 9 = b ∧ wordAt e 12 = x ∧ wordAt e 16 = y) ∧
    (let e := stageEntry h slot b i0 v0 i1 v1 i2 v2
     byteAt e 0 = 0x11 ∧ hdrOf e = h ∧ byteAt e 8 = slot ∧ byteAt e 9 = b ∧
     stageItems e = ([(i0.toNat, v0), (i1.toNat, v1), (i2.toNat, v2)].take b.toNat)) ∧
    (let e := commitEntry h slot x y
     byteAt e 0 = 0x12 ∧ hdrOf e = h ∧ byteAt e 8 = slot ∧ wordAt e 12 = x ∧ wordAt e 16 = y) ∧
    (let e := rollbackEntry h slot
     byteAt e 0 = 0x13 ∧ hdrOf e = h ∧ byteAt e 8 = slot)

/-! ### Ring 0 (R355) -/

/-- NOP has no effect; a record with `NOTE_DONE` raises CMD_APPLIED with its tag (R349, R355). -/
def Obligations.NopRecord : Prop :=
  ∀ (h : RecHdr) (s : State), s.live = true →
    Completes (.nop h) s (fun t => SameButHost s t ∧
      Records s t (if h.flags.getLsbD 1 then [s.event (codeOf 1 1 0x2A8) .note 0 0xFF 0 0 h.tag] else []))

/-- SETPOINT: a slot for an engine with a ring set-point stores its value for that engine alone, and with `VEC_MODE` = 2 for both speed
loops; index 1 is the yaw moment of `LAW01` and `LAW04`. A slot out of range, or one that is not finite, refuses the record and nothing is
stored (R96, R355; that one bad slot refuses all three is the model's choice, log 24). -/
def Obligations.SetpointRecord : Prop :=
  ∀ (h : RecHdr) (s : State), s.live = true →
    (∀ (l : LawId) (v : F32), ringSpLaw l.val = true → F.isFinite v = true →
      let rec0 : Instr := .setpoint h ⟨BitVec.ofNat 8 l.val, 0, v⟩ ⟨0xFF, 0, 0⟩ ⟨0xFF, 0, 0⟩
      (¬ ((l = 1 ∨ l = 4) ∧ s.parN (lawId l 0x20) = 2) →
        Completes rec0 s (SameButHost (s.modLaw l (fun y => { y with ringSp := v })))) ∧
      ((l = 1 ∨ l = 4) → s.parN (lawId l 0x20) = 2 →
        Completes rec0 s (SameButHost ((s.modLaw 1 (fun y => { y with ringSp := v })).modLaw 4 (fun y => { y with ringSp := v }))))) ∧
    (∀ (l : LawId) (v : F32), (l = 1 ∨ l = 4) → F.isFinite v = true → s.parN (lawId l 0x20) ≠ 2 →
      Completes (.setpoint h ⟨0xFF, 0, 0⟩ ⟨BitVec.ofNat 8 l.val, 1, v⟩ ⟨0xFF, 0, 0⟩) s
        (SameButHost (s.modLaw l (fun y => { y with ringMz := v })))) ∧
    (∀ x y z : SpSlot, (spSlotOk x && spSlotOk y && spSlotOk z) = false →
      Completes (.setpoint h x y z) s (fun t => SameButHost s t ∧
        Records s t [s.event (codeOf 1 1 0x2A5) .note 0 0xFF 0 0 h.tag]))

/-- ARM of one bridge (R136, R137). A bridge that fails a condition, ARMED or not, names its first failed condition in ARM_REFUSED and
nothing changes; one that passes and is ARMED stays as it is; one that passes and is not is ARMED with output OFF, both switches off and
dead times at `DT_INIT`. The outcome of the forced test of the blocking nets is free (log 17): where it fails the arming is refused with
condition 9 and the device goes to DEVICE-SAFE. A trip slot whose input is active acts at once; where it isolates, ARM_REFUSED is recorded
with it (R174), under a number the model chose (log 95). -/
def Obligations.ArmRecord : Prop :=
  ∀ (h : RecHdr) (b : BridgeId) (s : State), s.live = true →
    let rec0 : Instr := .arm h (BitVec.ofNat 8 (regCode (brgReg b))) (BitVec.ofNat 32 (2 ^ brgClu b))
    let unit : Byte := BitVec.ofNat 8 (brgClu b)
    let refused := fun (n : Nat) => s.event (codeOf 1 (regCode (brgReg b)) 0x0C1) .note unit unit (BitVec.ofNat 32 n) 0 h.tag
    let drawn := { s with free := if blockable b then s.free + 1 else s.free }
    let armed := ((drawn.armBridge b).onArm b).modBrg b (fun x => { x with armedAt := some (s.tim.devTime, h.tag) })
    (s.armCase b ≠ 0 → Completes rec0 s (fun t => SameButHost s t ∧ Records s t [refused (s.armCase b)])) ∧
    (s.armCase b = 0 → s.isArmed b = true → Completes rec0 s (SameButHost s)) ∧
    (s.armCase b = 0 → s.isArmed b = false → s.noPrepared → (blockable b = true → Config.freeBit s.free = true) →
      Completes rec0 s (fun t => SameButHost (armed.evalTrips b) t ∧
        (s.slotMask b = 0 →
          (t.brg b).arm = .armed ∧ (t.brg b).hiOn = false ∧ (t.brg b).loOn = false ∧ (t.brg b).sel = .off ∧
          (t.brg b).dtHl.now = secUnits (s.brgP b 0x03) ∧ (t.brg b).dtLh.now = secUnits (s.brgP b 0x03)) ∧
        ((∃ k, k < 4 ∧ armed.slotOn b k = true ∧ s.slotDoes b k = 2) → (t.brg b).arm = .isolated ∧ Logs s t (refused 3)))) ∧
    (s.armCase b = 0 → s.isArmed b = false → blockable b = true → Config.freeBit s.free = false →
      Completes rec0 s (fun t => t.power.devSafe = true ∧ (t.brg b).arm = (s.brg b).arm ∧ Logs s t (refused 9) ∧
        Logs s t (s.event (codeOf 1 0 0x263) .regionSafe 5 0xFF 0 0 0)))

/-- DISARM of the bridges that a mask names (R137): those ARMED are DISARMED with the high side off, and the low side too but for the
chopper, whose switch the fast path of its region's safe state may hold on (R145); those neither ARMED nor HALTED, and every bridge that the
mask does not name, stay as they are, and a HALTED one resumes DISARMED (log 27). Nothing but bridges changes. A mask that names a cluster
without a bridge refuses the record. -/
def Obligations.DisarmRecord : Prop :=
  ∀ (h : RecHdr) (r : Byte) (mask : Word) (s : State), s.live = true →
    (∀ bs, maskBridges r mask = some bs →
      Completes (.disarm h r mask) s (fun t => SameButHost { s with bridges := t.bridges } t ∧
        (∀ b, b ∉ bs → t.brg b = s.brg b) ∧
        (∀ b, b ∈ bs → s.isArmed b = true →
          (t.brg b).arm = .disarmed ∧ (t.brg b).hiOn = false ∧ (b ≠ .bch → (t.brg b).loOn = false)) ∧
        (∀ b, b ∈ bs → (s.brg b).arm = .halted → t.brg b = { s.brg b with before := .disarmed }) ∧
        (∀ b, b ∈ bs → (s.brg b).arm = .disarmed ∨ (s.brg b).arm = .isolated → t.brg b = s.brg b))) ∧
    (maskBridges r mask = none →
      Completes (.disarm h r mask) s (fun t => SameButHost s t ∧
        Records s t [s.event (codeOf 1 1 0x2A5) .note 0 0xFF 0 0 h.tag]))

/-- RESET_CLUSTER (R35, R169, R450, R451): a bridge in ISOLATE whose region is at rest returns DISARMED with its cause cleared and both
switches off, and ISOLATE_CLEARED is recorded; a CAN controller in ISOLATE starts again with an empty queue, the check cluster with its
units, and the hawser cluster after its fault without a link; the cluster is in lock again. Any other cluster is refused with RESET_REFUSED,
reason 1, a cause that only a region reset recovers with reason 3, and every reset in DEVICE-SAFE with reason 2. A cluster number that the
region does not have refuses the record. -/
def Obligations.ResetClusterRecord : Prop :=
  ∀ (h : RecHdr) (r : RegionId) (n : Byte) (s : State), s.live = true → s.evq = [] → s.noPrepared →
    let rec0 : Instr := .resetCluster h (BitVec.ofNat 8 (regCode r)) n
    let refused := fun (why : Word) (t : State) => SameButHost s t ∧
      Records s t [s.event (codeOf 2 (regCode r) 0x00C) .note n 0xFF why (BitVec.ofNat 32 (regCode r * 256 + n.toNat)) h.tag]
    let relocked := fun (t : State) => t.tim = { s.tim with unlocked := t.tim.unlocked } ∧ (t.tim.unlocked[rIx r]).getLsbD n.toNat = false
    let out := match cluOf r n.toNat with
      | some (.brg b) => s.isIso b && s.resetMode b
      | some (.can c) => (s.can c).isolated
      | some .check => s.chkIso
      | some .hawser => s.haws.fault
      | _ => false
    (cluCount r ≤ n.toNat → Completes rec0 s (fun t => SameButHost s t ∧ Records s t [s.event (codeOf 1 1 0x2A5) .note 0 0xFF 0 0 h.tag])) ∧
    (n.toNat < cluCount r → s.power.devSafe = true → Completes rec0 s (refused 2)) ∧
    (n.toNat < cluCount r → s.power.devSafe = false → out = false → Completes rec0 s (refused 1)) ∧
    (n.toNat < cluCount r → s.power.devSafe = false → out = true →
      (∀ b, cluOf r n.toNat = some (.brg b) →
        ((s.brg b).isoHard = false → Completes rec0 s (fun t => SameButHost { s with bridges := t.bridges, tim := t.tim } t ∧
          (∀ c, c ≠ b → t.brg c = s.brg c) ∧ (t.brg b).arm = .disarmed ∧ (t.brg b).isoCause = 0 ∧ (t.brg b).hiOn = false ∧
          (t.brg b).loOn = false ∧ relocked t ∧ Logs s t (s.event (codeOf 1 (regCode r) 0x0D4) .note n 0xFF 0 0 0))) ∧
        ((s.brg b).isoHard = true → Completes rec0 s (refused 3))) ∧
      (∀ c, cluOf r n.toNat = some (.can c) → Completes rec0 s (fun t => relocked t ∧ (t.can c).isolated = false ∧ (t.can c).queue = [] ∧
        (t.can c).st = (if s.parOn (canParId c 0) then .active else .off) ∧ ∀ d, d ≠ c → t.can d = s.can d)) ∧
      (cluOf r n.toNat = some .check → Completes rec0 s (fun t => relocked t ∧
        SameButHost { s with tim := t.tim, chkIso := false, chks := Vector.replicate 8 {} } t)) ∧
      (cluOf r n.toNat = some .hawser → Completes rec0 s (fun t => relocked t ∧ SameButHost { s with tim := t.tim, haws := t.haws } t ∧
        t.haws.fault = false ∧ t.haws.linkUp = false ∧ t.haws.locked = false ∧ t.haws.aligned = 0 ∧ t.haws.pair = s.haws.pair)))

/-- RESET_REGION (R34, R451): a region in REGION-SAFE or OFF, HST apart, starts again: it leaves its safe state and stands in OFF, its
bridges are DISARMED with both switches off, its engines STOPPED, its clusters start from now on and are in lock, and REGION_RESET_DONE is
recorded; bridges and engines of other regions, setup, parameters and transactions stay, but for the chopper, whose gate side loses its
supply with SUP (R163). One in another mode, and HST, is refused with reason 1, and every one in DEVICE-SAFE with reason 2. A region code
that names none refuses the record. -/
def Obligations.ResetRegionRecord : Prop :=
  ∀ (h : RecHdr) (r : RegionId) (s : State), s.live = true → s.evq = [] → s.noPrepared →
    let rec0 : Instr := .resetRegion h (BitVec.ofNat 8 (regCode r))
    let refused := fun (why : Word) (t : State) => SameButHost s t ∧
      Records s t [s.event (codeOf 2 (regCode r) 0x00C) .note 0xF 0xFF why (BitVec.ofNat 32 (regCode r * 256 + 15)) h.tag]
    (s.power.devSafe = false → r ≠ .hst → s.offOrSafe r = true →
      Completes rec0 s (fun t =>
        t.isSafe r = false ∧ (r ≠ .sup → t.modeOff r = true) ∧ (t.reg r).halted = false ∧ (t.reg r).startAt = s.tim.devTime ∧
        (∀ q, q ≠ r → t.reg q = s.reg q) ∧
        (∀ b ∈ regBridges r, (t.brg b).arm = .disarmed ∧ (t.brg b).hiOn = false ∧ (t.brg b).loOn = false) ∧
        (∀ l ∈ regLaws r, (t.law l).state = .stopped) ∧ (∀ b, b ∉ regBridges r → r ≠ .sup ∨ b ≠ .bch → t.brg b = s.brg b) ∧
        (∀ l, l ∉ regLaws r → t.law l = s.law l) ∧ t.tim = { s.tim with unlocked := t.tim.unlocked } ∧ t.tim.unlocked[rIx r] = 0 ∧
        SameCore { s with tim := t.tim } t ∧ Logs s t (s.event (codeOf 2 (regCode r) 0x00D) .note 0xF 0xFF 0 0 h.tag))) ∧
    (s.power.devSafe = false → r = .hst ∨ s.offOrSafe r = false → Completes rec0 s (refused 1)) ∧
    (s.power.devSafe = true → Completes rec0 s (refused 2)) ∧
    (∀ code : Byte, regOf code.toNat = none → Completes (.resetRegion h code) s (fun t => SameButHost s t ∧
      Records s t [s.event (codeOf 1 1 0x2A5) .note 0 0xFF 0 0 h.tag]))

/-- BRAKE records (R302, R303, R306 to R308). Apply leaves the brake APPLIED with both switches off and no test running, in every mode.
Release begins pull-in where the brake is APPLIED and no pull-in runs, changes nothing where it is RELEASED or pulling in, and is refused
with the first case of R303; one refused in a brake test aborts the test. Test begins with the first side of `BT_SEL`, changes nothing where
`BT_SEL` names none, and is refused with the first condition of R306. None touches anything but the brake. -/
def Obligations.BrakeRecords : Prop :=
  ∀ (h : RecHdr) (s : State), s.live = true →
    let refused := s.event (codeOf 1 0 0x253) .note 5 0xFF (BitVec.ofNat 32 s.releaseCase) 0 h.tag
    Completes (.brakeApply h) s (fun t => SameButHost { s with brake := t.brake } t ∧
      t.brake.mode = .applied ∧ t.brake.pulling = false ∧ t.brake.hs = false ∧ t.brake.ls = false ∧ t.brake.test = none) ∧
    (s.releaseCase = 0 → s.brake.mode = .applied → s.brake.pulling = false →
      Completes (.brakeRelease h) s (fun t => SameButHost { s with brake := t.brake } t ∧
        t.brake.mode = .applied ∧ t.brake.pulling = true ∧ t.brake.hs = true ∧ t.brake.ls = true ∧ t.brake.tag = h.tag)) ∧
    (s.releaseCase = 0 → s.brake.mode ≠ .applied ∨ s.brake.pulling = true → Completes (.brakeRelease h) s (SameButHost s)) ∧
    (s.releaseCase ≠ 0 → s.brake.test = none →
      Completes (.brakeRelease h) s (fun t => SameButHost s t ∧ Records s t [refused])) ∧
    (∀ x, s.releaseCase ≠ 0 → s.brake.test = some x →
      Completes (.brakeRelease h) s (fun t => SameButHost { s with brake := { s.brake with mode := .applied, test := none } } t ∧ Logs s t refused)) ∧
    (∀ x xs, s.testCase = 0 → s.btSides = x :: xs →
      Completes (.brakeTest h) s (SameButHost { s with brake := { s.brake with
        mode := .test, test := some { side := x, step := 0, torque := 0, held := 0, enc := 0, encSet := false, tag := h.tag } } })) ∧
    (s.testCase = 0 → s.btSides = [] → Completes (.brakeTest h) s (SameButHost s)) ∧
    (s.testCase ≠ 0 →
      Completes (.brakeTest h) s (fun t => SameButHost s t ∧
        Records s t [s.event (codeOf 2 0 0x25B) .note 0xF 0xFF (BitVec.ofNat 32 s.testCase) 0 h.tag]))

/-- SET_POSITION, CAN_RECOVER and SELFTEST (R294, R425, R470, R471). With `POS_SRC` = 0 the actuator's edge count becomes the one nearest to
the commanded position, its position that of the count, and it is valid; with `POS_SRC` = 1 nothing changes. A bus-off controller begins its
recovery, any other one refuses the record. A self-test of a scope in its permitted state starts: the tested replica leaves its triad, and
the tested bank's shadow is undefined; one that a reason of R470 refuses writes SELFTEST_REFUSED with the first reason. A running test that
has lost its permission is abandoned first. Fields out of range refuse each record. -/
def Obligations.PositionRecoverSelftestRecords : Prop :=
  ∀ (h : RecHdr) (s : State), s.live = true →
    let bad := fun (c : Instr) => Completes c s (fun t => SameButHost s t ∧ Records s t [s.event (codeOf 1 1 0x2A5) .note 0 0xFF 0 0 h.tag])
    (∀ (a : ActId) (v : F32), F.isFinite v = true →
      let step := s.lawP (actLaw a) 0x22
      let n := F.nearest ((F.toRat v).1 * Int.ofNat (F.toRat step).2) ((F.toRat v).2 * (F.toRat step).1.toNat)
      Completes (.setPosition h (BitVec.ofNat 8 (a.val + 1)) v) s (SameButHost (if s.parOn (lawId (actLaw a) 0x07) then s
        else s.modAct a (fun y => { y with edges := n, posOk := true, pos := F.mul step (F.ofInt n) })))) ∧
    (∀ (a : Byte) (v : F32), ¬ (1 ≤ a.toNat ∧ a.toNat ≤ 3 ∧ F.isFinite v = true) → bad (.setPosition h a v)) ∧
    (∀ c : CanId, (s.can c).st = .busOff → (s.can c).recovering = false →
      Completes (.canRecover h (BitVec.ofNat 8 c.val)) s
        (SameButHost (s.modCan c (fun x => { x with recovering := true })))) ∧
    (∀ c : CanId, ¬ ((s.can c).st = .busOff ∧ (s.can c).recovering = false) → bad (.canRecover h (BitVec.ofNat 8 c.val))) ∧
    (∀ c : Byte, 3 ≤ c.toNat → bad (.canRecover h c)) ∧
    (∀ k r c p, testFields k r c p = false → bad (.selftest h k r c p)) ∧
    (∀ k r c p, testFields k r c p = true →
      let u := s.testGuard
      let begun := { u.st with busy := true, kind := k.setWidth 3, region := r, cluster := c, rep := p, tag := h.tag }
      (u.testReason k r c = 0 → 2 ≤ k.toNat → Completes (.selftest h k r c p) s (SameButHost { u with st := begun })) ∧
      (∀ l, u.testReason k r c = 0 → k = 1 → testClu r c = some (.law l) →
        Completes (.selftest h k r c p) s (fun t => SameButHost { u with st := begun, laws := t.laws } t ∧
          ((t.law l).rep (Fin.ofNat 3 p.toNat)).st = .washed ∧
          (∀ j, j ≠ Fin.ofNat 3 p.toNat → (t.law l).rep j = (u.law l).rep j) ∧ ∀ m, m ≠ l → t.law m = u.law m)) ∧
      (u.testReason k r c = 0 → k = 0 →
        Completes (.selftest h k r c p) s (fun t =>
          SameButHost { u with st := begun, laws := t.laws, free := t.free, txn := { u.txn with shadow := t.txn.shadow } } t ∧
          ∀ m, testClu r c ≠ some (.law m) → t.law m = u.law m)) ∧
      (u.testReason k r c ≠ 0 →
        Completes (.selftest h k r c p) s (fun t => SameButHost { u with st := { u.st with lastSig := 0, lastResult := 2 } } t ∧
          Logs s t (s.event (codeOf (testLevel k.toNat) (if k = 4 then 7 else r.toNat) 0x362) .note
            (if k = 4 then 0xFF else if k = 3 then 0xF else c) (if k = 1 then p else 0xFF) (BitVec.ofNat 32 (u.testReason k r c)) 0 h.tag))))

/-- SET_MODE of a region that accepts the command (R203 to R205, R236 to R238, R269, R270, R295, R296). The region enters the mode with its
run states and outputs, at once or by way of CATCH for a traction region whose angle is not known or that shorts its machine, of the start
test for SPN in OFF, and at the next voted run for BYPASS; the entry of OFF disarms the armed bridges of the region. A command that repeats
the present mode changes nothing but what it must remember, and one for OFF in OFF disarms nothing (of CHG the model's reading, log 64). A
decision or trigger that falls on the same period start acts first. SET_MODE of a region that refuses the command: nothing changes, and the
refusal names the mode and the first rank of R453 that refuses it. A region code, actuator number or mode code outside its range refuses the
record (R355). -/
def Obligations.SetModeRecord : Prop :=
  (
    ∀ (h : RecHdr) (s : State), s.live = true → s.noPrepared →
      let runs := fun (m : TrMode) => match m with
        | .off => (RunState.stopped, RunState.stopped)
        | .free => (.tracking, .tracking) | .asc => (.tracking, .tracking) | .catch => (.tracking, .tracking)
        | .hold => (.running, .tracking) | .torque => (.running, .running) | .speed => (.running, .running)
      (∀ (x : Side) (m : TrMode),
        let u := s.trSettle x 2
        let y := u.tr x
        let entered := fun (m : TrMode) (t : State) => (t.tr x).mode = m ∧ ((t.law (focLaw x)).state, (t.law (speedLaw x)).state) = runs m ∧
          (t.law (obsLaw x)).state = .running
        let all := fun (t : State) (o : OutSel) => ∀ b ∈ sideBridges x, (t.brg b).sel = o
        let now := y.toCatch = 0 ∧ driveMode m = true
        u.trRefusal x m = 0 →
        Completes (.setMode h (BitVec.ofNat 8 (regCode (sideReg x))) 0 (BitVec.ofNat 8 (trCode m))) s (fun t =>
          t.tr (otherSide x) = s.tr (otherSide x) ∧ SameCore s t ∧
          (m = y.mode → y.toCatch = 0 ∨ m = .off ∨ m = .catch → SameButHost u t) ∧
          (m = .off → y.mode ≠ .off → entered .off t ∧ ∀ b ∈ sideBridges x, s.isArmed b = true → (t.brg b).arm = .disarmed) ∧
          (m = .free → y.mode ≠ .free ∨ y.toCatch ≠ 0 → entered .free t ∧ all t .off) ∧
          (m = .asc → y.mode ≠ .asc ∨ y.toCatch ≠ 0 → entered .asc t ∧ all t (u.ascSel x)) ∧
          (m = .catch → y.mode ≠ .catch → entered .catch t ∧ (t.tr x).target = y.mode) ∧
          (driveMode m = true → y.toCatch ≠ 0 ∨ y.mode = .catch → SameButHost (u.modTr x (fun z => { z with target := m, tag := h.tag })) t) ∧
          (now → y.mode = .asc ∨ (y.mode = .free ∧ u.angleKnown x = false) → entered .catch t ∧ (t.tr x).target = m) ∧
          (now → (y.mode = .free ∧ u.angleKnown x = true) ∨ (driveMode y.mode = true ∧ y.mode ≠ m) →
            entered m t ∧ (trShorted y = false → all t .pwm)))) ∧
      (∀ (a : ActId) (m : ActMode),
        let u := s.actTriggers a
        u.actRefusal a m = 0 →
        Completes (.setMode h 6 (BitVec.ofNat 8 (a.val + 1)) (BitVec.ofNat 8 (actCode m))) s (fun t =>
          (t.actu a).mode = m ∧ (∀ c, c ≠ a → t.actu c = s.actu c) ∧ SameCore s t ∧
          ((u.actu a).mode = m → SameButHost u t) ∧
          ((u.actu a).mode ≠ m →
            (t.law (actLaw a)).state = (if m = .off then .stopped else if m = .free then .tracking else .running) ∧
            ∀ b ∈ actBridges a, (m = .off → s.isArmed b = true → (t.brg b).arm = .disarmed) ∧
              (m = .free → (t.brg b).sel = .off) ∧ (actDrives m = true → (t.brg b).sel = .pwm)))) ∧
      (∀ m : SpMode, s.spRefusal m = 0 →
        let was := s.span.mode
        let asked := fun (f : Span → Span) => SameButHost (s.modSpan (fun p => { f p with cmdAt := some s.tim.devTime }))
        Completes (.setMode h 4 0 (BitVec.ofNat 8 (spCode m))) s (fun t => SameCore s t ∧
          (m = .off → t.span.mode = .off ∧
            (was ≠ .off → (t.law 6).state = .stopped ∧ ∀ b ∈ spanBridges, s.isArmed b = true → (t.brg b).arm = .disarmed) ∧
            (was = .off → t.span.test = none ∧ t.laws = s.laws ∧ t.bridges = s.bridges)) ∧
          (m ≠ .off → was = m → asked id t) ∧
          (m = .standby ∨ m = .regulate → was = .off → asked (fun p => { p with
            test := some { goal := m, tag := h.tag, probe := false, phase := 0, begun := false, fails := 0 } }) t) ∧
          (m = .standby → was = .regulate → t.span.mode = .standby ∧ (t.law 6).state = .tracking ∧ ∀ b ∈ spanBridges, (t.brg b).sel = .off) ∧
          (m = .regulate → was = .standby ∨ was = .bypass → t.span.mode = .regulate ∧ (t.law 6).state = .running ∧
            (∀ k, k < 4 → (t.brg (spanBridges.getD k .sp1)).sel = if t.span.active.getLsbD k then .pwm else .off) ∧
            t.span.active = phMask (if was = .standby then s.burstPhase else s.phAvailList) ∧
            (was = .bypass → Logs s t (s.event (codeOf 2 4 0x1C7) .note 0xF 0xFF s.span.vLink 0 0))) ∧
          (m = .bypass → was = .regulate → asked (fun p => { p with bypReq := true }) t) ∧
          (m = .discharge → was = .off → t.span.mode = .discharge ∧ (t.law 6).state = .stopped ∧ ∀ b ∈ spanBridges, (t.brg b).sel = .off))) ∧
      (∀ m : ChMode,
        let u := s.chgTriggers
        let was := u.chg.mode
        let running := u.chg.session = .cc ∨ u.chg.session = .cv
        let pfc := acMode m && u.chg.srcOk && !u.span.pfcHold
        u.chgRefusal m = 0 →
        Completes (.setMode h 5 0 (BitVec.ofNat 8 (chCode m))) s (fun t => t.chg.mode = m ∧ SameCore s t ∧
          (m = .off → (running → t.chg.session = .ended ∧ t.chg.endCause = .host) ∧
            (was = .off → t.laws = u.laws ∧ t.bridges = u.bridges) ∧
            (was ≠ .off → (t.law 8).state = .tracking ∧ (t.law 9).state = .stopped ∧ (t.law 10).state = .running ∧
              ∀ b ∈ regBridges .chg, s.isArmed b = true → (t.brg b).arm = .disarmed)) ∧
          (m ≠ .off → was = m → SameButHost { u with chg := t.chg } t ∧ t.chg.session = u.chg.session ∧ t.chg.peerFault = false) ∧
          (m ≠ .off → was ≠ m → (t.law 8).state = (if acMode m then .running else .tracking) ∧ (t.law 9).state = .running ∧
            (t.law 10).state = .running ∧ (∀ b ∈ dabBridges, (t.brg b).sel = .pwm) ∧
            ∀ b ∈ pfcBridges, (t.brg b).sel = if pfc && !(decide (b = .pf3) && decide (u.chg.phases = 1)) then .pwm else .off)))) ∧
  (
    ∀ (h : RecHdr) (s : State), s.live = true →
      (∀ (x : Side) (m : TrMode),
        let u := s.trSettle x 2
        u.trRefusal x m ≠ 0 →
        Completes (.setMode h (BitVec.ofNat 8 (regCode (sideReg x))) 0 (BitVec.ofNat 8 (trCode m))) s (fun t => SameButHost u t ∧
          Logs s t (s.event (codeOf 2 (regCode (sideReg x)) 0x18C) .note 0xF 0xFF (BitVec.ofNat 32 (trCode m))
            (BitVec.ofNat 32 (u.trRefusal x m)) h.tag))) ∧
      (∀ m : SpMode, s.spRefusal m ≠ 0 →
        Completes (.setMode h 4 0 (BitVec.ofNat 8 (spCode m))) s (fun t => SameButHost s t ∧
          Records s t [s.event (codeOf 2 4 0x1C0) .note 0xF 0xFF (BitVec.ofNat 32 (spCode m)) (BitVec.ofNat 32 (s.spRefusal m)) h.tag])) ∧
      (∀ m : ChMode,
        let u := s.chgTriggers
        u.chgRefusal m ≠ 0 →
        Completes (.setMode h 5 0 (BitVec.ofNat 8 (chCode m))) s (fun t => SameButHost u t ∧
          Logs s t (s.event (codeOf 2 5 0x200) .note 0xF 0xFF (BitVec.ofNat 32 (chCode m)) (BitVec.ofNat 32 (u.chgRefusal m)) h.tag))) ∧
      (∀ (a : ActId) (m : ActMode),
        let u := s.actTriggers a
        u.actRefusal a m ≠ 0 →
        Completes (.setMode h 6 (BitVec.ofNat 8 (a.val + 1)) (BitVec.ofNat 8 (actCode m))) s (fun t => SameButHost u t ∧
          Logs s t (s.event (codeOf 2 6 0x240) .note 0xF (BitVec.ofNat 8 (a.val + 1)) (BitVec.ofNat 32 (actCode m))
            (BitVec.ofNat 32 (u.actRefusal a m)) h.tag))) ∧
      (∀ r a m : Byte,
        ¬ ((2 ≤ r.toNat ∧ r.toNat ≤ 3 ∧ a = 0 ∧ m.toNat ≤ 6) ∨ (4 ≤ r.toNat ∧ r.toNat ≤ 5 ∧ a = 0 ∧ m.toNat ≤ 4) ∨
          (r = 6 ∧ 1 ≤ a.toNat ∧ a.toNat ≤ 3 ∧ m.toNat ≤ 4)) →
        Completes (.setMode h r a m) s (fun t => SameButHost s t ∧
          Records s t [s.event (codeOf 1 1 0x2A5) .note 0 0xFF 0 0 h.tag])))

/-! ### Ring 1 and the two instants of a tide (R366 to R383) -/

/-- The records of ring 1 (R370, R371, R373, R387). BEGIN opens a CLOSED slot; STAGE appends values that are defined, in range and
unclaimed, up to 1024 of them, and takes them into the shadow banks, or dooms the slot with the first failing value; one to a DOOMED slot
stages nothing; COMMIT of an OPEN slot waits for its slack point, and of a DOOMED one is refused at once with the cause of its doom;
ROLLBACK closes a slot whose decision has not been latched. Records of ring 1 that are refused with TXN_RECORD_REFUSED change nothing (R370,
R371): a slot above 3, `AT_TIDE`, BEGIN of a slot that is not CLOSED or for a pair that is not PAIRED or names no tide, STAGE of no value or
more than three, and every other record to a slot in a state that does not take it. -/
def Obligations.TransactionRecords : Prop :=
  (
    ∀ (h : RecHdr) (k : SlotId) (s : State), s.live = true → h.flags.getLsbD 0 = false →
      let b : Byte := BitVec.ofNat 8 k.val
      let noted := fun (t : State) => h.flags.getLsbD 1 = false → Records s t []
      (∀ (f : Byte) (txid target : Word), (s.slot k).state = .closed → (f.getLsbD 0 = true → s.haws.pair = .paired ∧ target ≠ 0) →
        Completes (.begin h b f txid target) s (fun t => noted t ∧ SameButHost
          (s.modSlot k (fun _ => { state := .open, pair := f.getLsbD 0, txid := txid, target := target, tag := h.tag })) t)) ∧
      (∀ (n : Byte) (i0 i1 i2 : Half) (v0 v1 v2 : Word), (s.slot k).state = .open → 1 ≤ n.toNat → n.toNat ≤ 3 →
        let items := ([(i0.toNat, v0), (i1.toNat, v1), (i2.toNat, v2)].take n.toNat)
        ((∀ v ∈ items, parOk v = true ∧ s.claimedBy k v.1 = false) → (s.slot k).count + n.toNat ≤ 1024 → s.st.busy = false →
          Completes (.stage h b n i0 v0 i1 v1 i2 v2) s (fun t => noted t ∧ SameButHost
            { (s.claim k items).modSlot k (fun x => { x with staged := x.staged ++ items, count := x.count + n.toNat }) with wash := t.wash } t)) ∧
        (∀ why id, s.stageFail k (s.slot k).count items = some (why, id) →
          Completes (.stage h b n i0 v0 i1 v1 i2 v2) s (fun t =>
            SameButHost (s.modSlot k (fun x => { x with
              state := .doomed, reason := BitVec.ofNat 4 why, doomId := BitVec.ofNat 16 id })) t ∧
            Records s t [s.event (codeOf 1 1 0x2B1) .note 0 b (BitVec.ofNat 32 why) (BitVec.ofNat 32 id) h.tag]))) ∧
      (∀ (n : Byte) (i0 i1 i2 : Half) (v0 v1 v2 : Word), (s.slot k).state = .doomed → 1 ≤ n.toNat → n.toNat ≤ 3 →
        Completes (.stage h b n i0 v0 i1 v1 i2 v2) s (fun t => noted t ∧ SameButHost s t)) ∧
      (∀ seq expect : Word, (s.slot k).state = .open →
        Completes (.commit h b seq expect) s (fun t => Records s t [] ∧ SameButHost
          ((s.modSlot k (fun x => { x with
            state := .pending, seq := seq, expect := expect, tag := h.tag, readAt := s.tim.devTime, note := h.flags.getLsbD 1,
            record := commitEntry h b seq expect, order := s.txn.order })).modTxn (fun x => { x with order := x.order + 1 })) t)) ∧
      (∀ seq expect : Word, (s.slot k).state = .doomed →
        Completes (.commit h b seq expect) s (fun t =>
          SameButHost ((s.closeSlot k).modTxn (fun x => { x with
            next := if (s.slot k).pair then ⟨.refusal, (s.slot k).txid, (s.slot k).target⟩ else x.next })) t ∧
          Records s t [s.event (codeOf 1 1 0x2B3) .note 0 b (BitVec.ofNat 32 (s.slot k).reason.toNat)
            (if (s.slot k).reason = 3 then 1025 else BitVec.ofNat 32 (s.slot k).doomId.toNat) h.tag])) ∧
      ((s.slot k).state = .open ∨ (s.slot k).state = .doomed ∨ ((s.slot k).state = .pending ∧ (s.slot k).passed = false) →
        Completes (.rollback h b) s (fun t => SameButHost (s.closeSlot k) t ∧
          (h.flags.getLsbD 1 = false → Records s t [s.event (codeOf 1 1 0x2B4) .note 0 b 13 0 h.tag])))) ∧
  (
    ∀ (h : RecHdr) (b n : Byte) (x y : Word) (i0 i1 i2 : Half) (v0 v1 v2 : Word) (s : State), s.live = true →
      let k : SlotId := Fin.ofNat 4 b.toNat
      let st := (s.slot k).state
      let refused := fun (c : Instr) => Completes c s (fun t => SameButHost s t ∧
        Records s t [s.event (codeOf 1 1 0x2B0) .note 0 b 0 0 h.tag])
      let never := 4 ≤ b.toNat ∨ h.flags.getLsbD 0 = true
      (never ∨ st ≠ .closed ∨ (n.getLsbD 0 = true ∧ (s.haws.pair ≠ .paired ∨ y = 0)) → refused (.begin h b n x y)) ∧
      (never ∨ (st ≠ .open ∧ st ≠ .doomed) ∨ n = 0 ∨ 3 < n.toNat → refused (.stage h b n i0 v0 i1 v1 i2 v2)) ∧
      (never ∨ (st ≠ .open ∧ st ≠ .doomed) → refused (.commit h b x y)) ∧
      (never ∨ st = .closed ∨ st = .prepared ∨ (st = .pending ∧ (s.slot k).passed = true) → refused (.rollback h b)))

/-- The vote instant for a commit of this device alone, the only one that waits, with no brownout hold (R372, R373, R375, R377). One read 2
us before its slack point and gated is judged: it is latched where no check of R373 fails; otherwise the first failing check is recorded
with its word, the slot closes and no value changes. One that names a passed tide fails with reason 5 unless the epoch fails first; one that
is neither due nor late waits. -/
def Obligations.VoteInstantJudges : Prop :=
  ∀ (k : SlotId) (s : State), s.live = true → (∀ j, j ≠ k → (s.slot j).state ≠ .pending ∧ (s.slot j).passed = false) →
    s.noPrepared → s.txn.mine = {} → (s.slot k).state = .pending → (s.slot k).pair = false → (s.slot k).passed = false →
    let x := s.slot k
    let due := (x.target = 0 ∨ x.target = s.tideNext) ∧ s.commitDue x = true
    let refused := fun (why : Nat) (w : Word) => Does .voteInstant s (s.closeSlot k)
      [s.event (codeOf 1 1 0x2B3) .note 0 (BitVec.ofNat 8 k.val) (BitVec.ofNat 32 why) w x.tag]
    (s.power.brownout = true → Does .voteInstant s s []) ∧
    (s.power.brownout = false → due → s.commitFails x 0 = none →
      Does .voteInstant s (s.modSlot k (fun x => { x with passed := true })) []) ∧
    (∀ why w, s.power.brownout = false → due → s.commitFails x 0 = some (why, w) → refused why w) ∧
    (s.power.brownout = false → s.targetPassed x = true → x.expect = s.txn.epoch → refused 5 x.target) ∧
    (s.power.brownout = false → s.targetPassed x = true → x.expect ≠ s.txn.epoch → refused 4 s.txn.epoch) ∧
    (s.power.brownout = false → s.commitDue x = false → s.targetPassed x = false → x.target ≠ s.tideNext ∨ x.target = 0 →
      Does .voteInstant s s [])

/-- The tide boundary (R63, R64, R376, R378): the index advances by one, or follows the mate's where it is adopted (R399), and a decision
latched at V applies: its values become active, the epoch advances and skips 0, and its slot closes. With no decision the parameters and the
epoch stay. -/
def Obligations.TideBoundaryApplies : Prop :=
  ∀ (netA netB : Bool) (s : State), s.live = true →
    (∀ k, s.latched = some k →
      Completes (.tideBoundary netA netB) s (fun t =>
        t.params = s.candidate (s.slot k).staged ∧ t.tim.tideIndex = s.tideNext ∧ t.tim.tideStart = s.boundaryTime ∧
        t.txn.epoch = (if s.txn.epoch = 0xFFFFFFFF then 1 else s.txn.epoch + 1) ∧ t.txn.lastTide = s.tideNext ∧
        (t.slot k).state = .closed ∧ ∀ j, j ≠ k → t.slot j = s.slot j)) ∧
    (s.latched = none →
      Completes (.tideBoundary netA netB) s (fun t =>
        t.params = s.params ∧ t.tim.tideIndex = s.tideNext ∧ t.tim.tideStart = s.boundaryTime ∧ t.txn.epoch = s.txn.epoch ∧
        ∀ j, t.slot j = s.slot j))

/-! ### Supplies, start, gate power, test port (R44, R457 to R468, R477) -/

/-- A package reset puts every register at its reset value and waits for T0 (R457, R459, R464): `VSUP` below its reset level with cause 3,
`RESET_N` low for 1 us or more with cause 2. A low of less than 200 ns is ignored; between the two the device resets or does not, as a free
choice says. The queue and the count of free values are the model's own and stay. The start (R464): from reset, T0 samples the straps,
device time and the tide index are 0, the regions start 250 us apart in code order (R33), and RESET_CAUSE is recorded: 1 after power-on, 2
after `RESET_N`, 3 after `VSUP`. Out of reset neither does anything, and a release of `RESET_N` starts the device only where `RESET_N` has
reset it. What the readings show then is free (log 36). -/
def Obligations.PackageResetAndStart : Prop :=
  (
    ∀ (s : State),
      let waiting := fun (cause : BitVec 2) (n : Nat) => ({ State.reset with power := { cause := cause }, pending := s.pending, free := n } : State)
      exec .vsupReset s = .next (waiting 3 s.free) ∧
      (∀ n : Word, 400 ≤ n.toNat → exec (.resetNAssert n) s = .next (waiting 2 s.free)) ∧
      (∀ n : Word, n.toNat < 80 → Completes (.resetNAssert n) s (SameButHost s)) ∧
      (∀ n : Word, 80 ≤ n.toNat → n.toNat < 400 →
        (Config.freeBit s.free = true → exec (.resetNAssert n) s = .next (waiting 2 (s.free + 1))) ∧
        (Config.freeBit s.free = false → Completes (.resetNAssert n) s (SameButHost { s with free := s.free + 1 })))) ∧
  (
    ∀ (x : Straps) (s : State),
      let started := fun (cause : Nat) (t : State) =>
        SameButHost { s with power := t.power, tim := { refOk := true }, regions := t.regions, free := t.free } t ∧
        (∀ r, t.reg r = { s.reg r with startAt := BitVec.ofNat 64 (100000 * regCode r) }) ∧
        t.power.phase = .starting ∧ t.power.straps = x ∧ t.power.startStep = 1 ∧ t.power.cause = BitVec.ofNat 2 cause ∧
        t.power.gpStopped = false ∧ t.power.devSafe = s.power.devSafe ∧
        (s.logs → t.host.log = s.host.log ++
          [{ code := codeOf 4 7 2, cls := .note, time := 0, tide := 0, cluster := 0xFF, unit := 0xFF, refTag := 0, epoch := s.txn.epoch,
             d0 := BitVec.ofNat 32 cause, d1 := 0, dropped := false }])
      (s.power.phase = .inReset → Completes (.powerOn x) s (started (if s.power.cause = 3 then 3 else 1))) ∧
      (s.live = true → Completes (.powerOn x) s (SameButHost s)) ∧
      (s.power.phase = .inReset → s.power.cause = 2 → Completes (.resetNRelease x) s (started 2)) ∧
      (s.live = true ∨ s.power.cause ≠ 2 → Completes (.resetNRelease x) s (SameButHost s)))

/-- `VSUP` and `VM` (R459, R460): brownout hold begins with VSUP_WARN below `VSUP_WARN_LEVEL` and ends with VSUP_RESUMED at or above it,
each recorded once; `VM` below its lower level is a fault of ACT only while an actuator is not OFF, and above its upper level always. A
reading on the good side of its level is kept and has no other effect. Faults of the package and of die A (R38, R39, R55, R459, R496): `VIO`
or the reference outside its range, die C and the reference clock take the device to DEVICE-SAFE, the brake applied and `OK_OUT` low, and a
value in range does nothing; a lost die A holds every actuator gate low and takes ACT alone to REGION-SAFE. -/
def Obligations.SupplyAndPackage : Prop :=
  (
    ∀ (v : F32) (s : State), s.live = true →
      let warn := s.lawP 15 0x40
      let uv := s.lawP 15 0x41
      let ov := s.lawP 15 0x42
      let read := s.modPower (fun p => { p with vsupNow := v })
      let warned := s.modPower (fun p => { p with vsupNow := v, vsupOk := false, brownout := true })
      let resumed := s.modPower (fun p => { p with vsupNow := v, vsupOk := true, brownout := false })
      let vm := { s.power with vmNow := v, vmOk := !(F.lt v uv || F.lt ov v) }
      let pkg := fun (num : Nat) (cls : RClass) => s.event (codeOf 4 7 num) cls 0xFF 0xFF v warn 0
      (F.lt v warn = true → Does (.vsupWarn v) s warned (if s.power.brownout then [] else [pkg 0 .limit])) ∧
      (F.lt v warn = false → Does (.vsupWarn v) s read []) ∧
      (F.le warn v = true → Does (.vsupResumed v) s resumed (if s.power.brownout then [pkg 1 .note] else [])) ∧
      (F.le warn v = false → Does (.vsupResumed v) s read []) ∧
      (s.anyActOn = false ∨ F.lt v uv = false → Does (.vmUv v) s { s with power := vm } []) ∧
      (s.anyActOn = true → F.lt v uv = true → Completes (.vmUv v) s (fun t => InSafe s t .act (codeOf 2 6 5) ∧ OnlyRegion s t .act ∧
        t.power = vm ∧ Logs s t (s.event (codeOf 2 6 5) .regionSafe 0xF 0xFF v uv 0))) ∧
      (F.lt ov v = false → Does (.vmOv v) s { s with power := vm } []) ∧
      (F.lt ov v = true → Completes (.vmOv v) s (fun t => InSafe s t .act (codeOf 2 6 6) ∧ OnlyRegion s t .act ∧
        t.power = vm ∧ Logs s t (s.event (codeOf 2 6 6) .regionSafe 0xF 0xFF v ov 0)))) ∧
  (
    ∀ (v : F32) (s : State), s.live = true →
      let safe := fun (lvl num : Nat) (d0 d1 : Word) (t : State) =>
        t.power.devSafe = true ∧ (s.power.devSafe = false → t.power.devCause = codeOf lvl 7 num ∧ t.power.okOut = false ∧
          t.brake.hs = false ∧ t.brake.ls = false ∧ ∀ r, r ≠ .hst → r ≠ .sup → t.isSafe r = true) ∧
        Logs s t (s.event (codeOf lvl 7 num) .deviceSafe 0xFF 0xFF d0 d1 0)
      let vioOut := F.lt v (F.ofNat 3) || F.lt (F.dec 36 (-1)) v
      let vrefOut := F.lt v (F.dec 405504 (-5)) || F.lt (F.dec 413696 (-5)) v
      (vioOut = true → Completes (.vioFault v) s (fun t => safe 4 3 v (broken v (F.ofNat 3) (F.dec 36 (-1))) t ∧ t.power.vioOk = false ∧
        KeepsSensing s t)) ∧
      (vioOut = false → Does (.vioFault v) s s []) ∧
      (vrefOut = true → Completes (.vrefFault v) s (fun t => safe 4 4 v (broken v (F.dec 405504 (-5)) (F.dec 413696 (-5))) t ∧
        t.power.vrefOk = false ∧ KeepsSensing s t)) ∧
      (vrefOut = false → Does (.vrefFault v) s s []) ∧
      Completes (.dieCFault v) s (fun t => safe 3 0xB v (F.ofNat 160) t ∧ t.power.tjC = v ∧ KeepsSensing s t) ∧
      Completes .refLost s (fun t => safe 4 0x40 0 0 t ∧ t.tim = { s.tim with refOk := false, freeRun := true } ∧
        KeepsSensing { s with tim := t.tim } t) ∧
      Completes (.dieALost v) s (fun t => InSafe s t .act (codeOf 3 6 0xA) ∧ OnlyRegion s t .act ∧
        t.power = { s.power with tjA := v, dieALost := true } ∧ (∀ a, ∀ b ∈ actBridges a, (t.brg b).hiOn = false ∧ (t.brg b).loOn = false) ∧
        Logs s t (s.event (codeOf 3 6 0xA) .regionSafe 0xF 0xFF v (F.ofNat 160) 0)))

/-- Start checks (R466). A completed check of a cluster that has started (R33) counts for READY. One that passes changes nothing else but,
of an actuator bridge, whether its bootstrap supply counts as good. One that fails brings the reaction of the cluster's level, and is
recorded unless that reaction stops HST: a bridge is isolated, a CAN controller is isolated and off, the check cluster is isolated, the
hawser cluster is in fault, and any other takes its region to REGION-SAFE. A cluster that has not started has no check to complete. A
powered gate side that is not ready when its check fails isolates its bridge; any other report of a gate side changes nothing. -/
def Obligations.StartChecks : Prop :=
  ∀ (r : RegionId) (n : BitVec 4) (s : State), s.live = true → n.toNat < cluCount r →
    let clu := cluOf r n.toNat
    let counted := fun (t : State) => t.power = { s.power with startStep := t.power.startStep, checked := t.power.checked } ∧
      t.power.checked = s.power.checked.set (rIx r) (s.power.checked[rIx r] ||| BitVec.ofNat 16 (2 ^ n.toNat))
    let record := fun (t : State) (cls : RClass) => Logs s t (s.event (codeOf 1 (regCode r) 9) cls (n.setWidth 8) 0xFF 0 0 0)
    let idle := fun (t : State) => SameButHost { s with power := { s.power with startStep := t.power.startStep } } t
    (s.cluUp r n.toNat = true →
      Completes (.startCheck r n none true) s (fun t => counted t ∧ SameButHost { s with power := t.power, bridges := t.bridges } t ∧
        ∀ b, t.brg b = { s.brg b with bst := t.brg b |>.bst } ∧
          (clu ≠ some (.brg b) ∨ brgAct b = none → t.brg b = s.brg b) ∧
          (clu = some (.brg b) → brgAct b ≠ none → (t.brg b).bst = !s.cpFault)) ∧
      (∀ b, clu = some (.brg b) → Completes (.startCheck r n none false) s (fun t => Isolates s t b 9 ∧ record t .isolate ∧
        t.power.checked = s.power.checked.set (rIx r) (s.power.checked[rIx r] ||| BitVec.ofNat 16 (2 ^ n.toNat)))) ∧
      (∀ c, clu = some (.can c) → Completes (.startCheck r n none false) s (fun t => counted t ∧ record t .isolate ∧
        SameButHost ({ s with power := t.power }.modCan c (fun x => { x with isolated := true, st := .off })) t)) ∧
      (clu = some .check → Completes (.startCheck r n none false) s (fun t => counted t ∧ record t .isolate ∧
        SameButHost { s with power := t.power, chkIso := true } t)) ∧
      (clu = some .hawser → Completes (.startCheck r n none false) s (fun t => counted t ∧ record t .handover ∧
        t.haws.fault = true ∧ (s.pairOn = true → t.haws.linkUp = false) ∧
        SameButHost { s with power := t.power, haws := t.haws, tim := t.tim } t)) ∧
      ((∀ b, clu ≠ some (.brg b)) → (∀ c, clu ≠ some (.can c)) → clu ≠ some .check → clu ≠ some .hawser →
        Completes (.startCheck r n none false) s (fun t => InSafe s t r (codeOf 1 (regCode r) 9) ∧ (r ≠ .hst → record t .regionSafe) ∧
          t.power.checked = s.power.checked.set (rIx r) (s.power.checked[rIx r] ||| BitVec.ofNat 16 (2 ^ n.toNat)) ∧
          ∀ m, clu = some (.sns m) → t.sns[m].fault = true))) ∧
    (∀ ok, s.cluUp r n.toNat = false → Completes (.startCheck r n none ok) s idle) ∧
    (∀ (g : GsId), s.gsPowered g = true → (s.gate g).ready = false →
      let b := (gsBridge g).1
      Completes (.startCheck r n (some g) false) s (fun t => t.power.gsFailed.getLsbD g.val = true ∧ Isolates s t b 9 ∧
        Logs s t (s.event (codeOf 1 (regCode (brgReg b)) 9) .isolate (BitVec.ofNat 8 (brgClu b)) (BitVec.ofNat 8 (g.val + 1)) 0 0 0))) ∧
    (∀ (g : GsId) (ok : Bool), ok = true ∨ s.gsPowered g = false ∨ (s.gate g).ready = true →
      Completes (.startCheck r n (some g) ok) s idle)

/-- The gate-power regulator (R461, R462): a rail fault that can hold stops it, the rail's reading is kept, no gate side is supplied, every
switch of a high-voltage bridge and of the chopper is off, and the device goes to DEVICE-SAFE as for any fault of SUP; a rail that reaches
readiness powers every gate side that has not been lost; half-cycles alternate, and each cycle that begins without an edge on `EXTCLK_IN`
counts, two of them ending the lock to it; the current limit ends the present half-cycle; a stopped regulator ignores a rail report and a
half-cycle. JTAG (R44): bypass, identification and sample are accepted always; the outputs are driven only in the test state; an instruction
that addresses trim is refused with TRIM_WRITE_REFUSED (R478). -/
def Obligations.GatePowerAndJtag : Prop :=
  (
    ∀ (v : F32) (s : State), s.live = true →
      let lo := s.gpTimes (s.lawP 15 0x43)
      (∀ k, s.power.gpStopped = false → s.gpCan k v = true →
        Completes (.gpRailFault k v) s (fun t => InSafe s t .sup (codeOf 1 0 7) ∧ t.power.gpStopped = true ∧ t.power.gpReady = false ∧
          t.power.gpNow = v ∧ t.power.gpr = .none ∧ (∀ g, (t.gate g).powered = false ∧ (t.gate g).ready = false) ∧
          (∀ b, brgAct b = none → (t.brg b).hiOn = false ∧ (t.brg b).loOn = false) ∧
          Logs s t (s.event (codeOf 1 0 7) .regionSafe 7 0xFF v (s.gpLimit k v) 0))) ∧
      (∀ k, s.power.gpStopped = true ∨ s.gpCan k v = false → Does (.gpRailFault k v) s s []) ∧
      (s.power.gpStopped = false → s.power.gpReady = false → F.le lo v = true →
        Completes (.gpRailReady v) s (fun t => SameButHost { s with
            power := { s.power with gpReady := true, gpNow := v, railAt := s.tim.devTime, startStep := t.power.startStep },
            gates := t.gates, bridges := t.bridges } t ∧
          (∀ g, t.gate g = { s.gate g with powered := !(s.gate g).lost }) ∧
          ∀ b, t.brg b = { s.brg b with hiOn := (t.brg b).hiOn, loOn := (t.brg b).loOn })) ∧
      (s.power.gpStopped = true ∨ s.power.gpReady = true ∨ F.le lo v = false → Does (.gpRailReady v) s s [])) ∧
  (
    ∀ (e : Bool) (s : State), s.live = true →
      (s.power.gpStopped = false →
        let p := s.power
        let seen := e || p.gpEdge
        let cycle := decide (p.gprNext ≠ .gb)
        let sync := s.parOn (lawId 15 0x48)
        Completes (.gpHalfCycle e) s (fun t => SameButHost { s with power := t.power } t ∧
          t.power = { p with
            gpr := t.power.gpr, gprNext := t.power.gprNext, gpLocked := t.power.gpLocked, gpMissed := t.power.gpMissed,
            gpEdge := t.power.gpEdge } ∧
          t.power.gpr = (if cycle then .ga else .gb) ∧ t.power.gprNext = (if cycle then .gb else .ga) ∧
          (cycle = false → t.power.gpLocked = p.gpLocked ∧ t.power.gpMissed = p.gpMissed ∧ t.power.gpEdge = p.gpEdge) ∧
          (cycle = true → sync = true → seen = true → t.power.gpLocked = true ∧ t.power.gpMissed = 0 ∧ t.power.gpEdge = false) ∧
          (cycle = true → sync = true → seen = false → t.power.gpMissed = p.gpMissed + 1 ∧
            t.power.gpLocked = (p.gpLocked && decide (p.gpMissed + 1 < 2))) ∧
          (cycle = true → sync = false → t.power.gpLocked = false))) ∧
      (s.power.gpStopped = true → Does (.gpHalfCycle e) s s []) ∧
      Does .gpCurrentLimit s (s.modPower (fun p => { p with gpr := .none })) []) ∧
  (
    ∀ (pins : List Bool) (s : State), s.live = true →
      (∀ op, op = .bypass ∨ op = .idcode ∨ op = .sample → Does (.jtagInstruction op pins) s (s.modPower (fun p => { p with jtag := op, scan := [] })) []) ∧
      Does (.jtagInstruction .extest pins) s (if s.power.test then s.modPower (fun p => { p with jtag := .extest, scan := pins }) else s) [] ∧
      Does (.jtagInstruction .trim pins) s s [s.event (codeOf 4 7 0x366) .note 0xFF 0xFF 0 0 0])

/-! ### Timing (R54 to R80, R253) -/

/-- A timing mark (R58, R60, R77, R417): every island takes the marked value 4,000 ticks after the last one, unless it runs free and holds
its alignment; each CAN counter has counted one for every ten ticks up to it, and while a bridge is armed at most one tick of outstanding
steering is made up. Nothing else changes but the reported start step and the switches of bridges whose carriers move. An island out of lock
(R54, R21): its cluster is marked out of lock, ISLAND_UNLOCK is recorded unless the reaction stops HST, and the cluster takes the reaction
of its level: a bridge is isolated, a CAN controller and the check cluster too, the hawser cluster is in fault, and any other takes its
region to REGION-SAFE. -/
def Obligations.TimingMarksAndLock : Prop :=
  (
    ∀ s : State, s.live = true →
      let at_ := s.tim.lastMark + 4000
      let counts := fun (t : Time) => BitVec.ofNat 32 (t.toNat / 10)
      let steered := s.anyArmed && !s.tim.freeRun
      let left := s.tim.steer - max (-8) (min 8 s.tim.steer)
      Completes .timingMark s (fun t =>
        SameButHost { s with tim := t.tim, cans := t.cans, bridges := t.bridges, power := { s.power with startStep := t.power.startStep } } t ∧
        t.tim = { s.tim with
          devTime := at_, lastMark := at_, aligned := if s.tim.freeRun then s.tim.aligned else at_,
          steer := if steered then left else s.tim.steer, steering := if steered then decide (left ≠ 0) else s.tim.steering } ∧
        (∀ c, t.can c = { s.can c with tsNow := (s.can c).tsNow + (counts at_ - counts s.tim.devTime) }) ∧
        (∀ b, b ∉ spanBridges ∨ (s.brg b).gap = none → t.brg b = s.brg b) ∧
        (∀ b, t.brg b = { s.brg b with hiOn := (t.brg b).hiOn, loOn := (t.brg b).loOn }))) ∧
  (
    ∀ (r : RegionId) (n : BitVec 4) (ppm : F32) (s : State), s.live = true → n.toNat < cluCount r →
      let clu := cluOf r n.toNat
      let out := s.tim.unlocked.set (rIx r) (s.tim.unlocked[rIx r] ||| BitVec.ofNat 16 (2 ^ n.toNat))
      let locked := fun (t : State) => t.tim = { s.tim with unlocked := out } ∧ t.allLocked = false
      let record := fun (t : State) (cls : RClass) => Logs s t (s.event (codeOf 1 (regCode r) 0x41) cls (n.setWidth 8) 0xFF ppm
        (BitVec.ofNat 32 (clsRank cls)) 0)
      (∀ b, clu = some (.brg b) → Completes (.islandUnlock r n ppm) s (fun t => locked t ∧ Isolates { s with tim := t.tim } t b 0x41 ∧
        record t .isolate)) ∧
      (∀ c, clu = some (.can c) → Completes (.islandUnlock r n ppm) s (fun t => locked t ∧ record t .isolate ∧
        SameButHost ({ s with tim := t.tim }.modCan c (fun x => { x with isolated := true, st := .off })) t)) ∧
      (clu = some .check → Completes (.islandUnlock r n ppm) s (fun t => locked t ∧ record t .isolate ∧
        SameButHost { s with tim := t.tim, chkIso := true } t)) ∧
      (clu = some .hawser → Completes (.islandUnlock r n ppm) s (fun t => t.tim.unlocked = out ∧ t.allLocked = false ∧ record t .handover ∧
        t.haws.fault = true ∧ (s.pairOn = true → t.haws.linkUp = false) ∧ SameButHost { s with haws := t.haws, tim := t.tim } t)) ∧
      ((∀ b, clu ≠ some (.brg b)) → (∀ c, clu ≠ some (.can c)) → clu ≠ some .check → clu ≠ some .hawser →
        Completes (.islandUnlock r n ppm) s (fun t => locked t ∧ InSafe s t r (codeOf 1 (regCode r) 0x41) ∧ (r ≠ .hst → record t .regionSafe))))

/-- The start of a region period (R65): the region's period count advances by one up to its ratio and not beyond, and no other region's
changes. One that comes beyond the ratio does nothing, and one of a region that has not started counts and does nothing else (R33). A write
of `HST.CTRL` that waits takes effect at the start of the next HST period (R17, R363): with `RUN` set the device runs from then on; with it
clear reads in progress are dropped; no law engine, parameter or transaction changes. -/
def Obligations.RegionPeriods : Prop :=
  (
    ∀ (r : RegionId) (s : State), s.live = true →
      let u := s.modReg r (fun x => { x with periods := x.periods + 1 })
      let v := u.reach (u.periodStart r)
      (s.ratio r ≤ (s.reg r).periods.toNat → Completes (.regionPeriodStart r) s (SameButHost s)) ∧
      ((s.reg r).periods.toNat < s.ratio r →
        Completes (.regionPeriodStart r) s (fun t =>
          (t.reg r).periods = (s.reg r).periods + 1 ∧ (∀ q, q ≠ r → (t.reg q).periods = (s.reg q).periods) ∧ t.params = s.params ∧
          (v.cluUp r 0 = false → SameButHost v t)))) ∧
  (
    ∀ (w : Word) (s : State), s.live = true → (s.reg .hst).periods.toNat < s.ratio .hst → s.setupPend = [(0x2000, w)] →
      (s.reg .hst).startAt.toNat ≤ s.tim.devTime.toNat → (s.reg .hst).safeDue = none → (s.reg .hst).haltReq = false → s.st.busy = false →
      Completes (.regionPeriodStart .hst) s (fun t =>
        t.setupPend = [] ∧ mapGet setupReset t.setup 0x2000 = w ∧ (∀ o, o ≠ 0x2000 → mapGet setupReset t.setup o = mapGet setupReset s.setup o) ∧
        t.host.running = w.getLsbD 0 ∧ (w.getLsbD 0 = false → t.host.reads = [] ∧ t.host.manOut = [] ∧ t.host.toRead = []) ∧
        (∀ l, t.law l = s.law l) ∧ t.params = s.params ∧ t.txn = s.txn))

/-- An island that misses its timing mark raises MARK_LOST against the tide master, SUP cluster 4: a cluster fault of SUP, whose REGION-SAFE
is DEVICE-SAFE. The islands hold their last alignment and run free: marks that come later neither align nor steer them, and no outstanding
steering moves their next tide boundary (R60). -/
def Obligations.MarkLost : Prop :=
  ∀ s : State, s.live = true →
    Completes .markLost s (fun t => t.tim = { s.tim with freeRun := true } ∧ InSafe s t .sup (codeOf 1 0 0x42) ∧
      Logs s t (s.event (codeOf 1 0 0x42) .regionSafe 4 0xFF 0 0 0) ∧ KeepsSensing { s with tim := t.tim } t ∧
      Completes .timingMark t (fun u => u.tim.aligned = s.tim.aligned ∧ u.tim.steer = s.tim.steer) ∧
      t.boundaryTime = s.tim.tideStart + BitVec.ofNat 64 s.tideTicks)

/-- `SYNC_IN`, `SYNC_OUT` and `EXTCLK_IN` (R76 to R79, R253): an edge of the source that is followed sets what remains to steer, its target
being the register's offset after the edge, and whether it is locked, within 5 ns; one beyond 1 us is told on `SYNC_IN` while a bridge is
armed. After three tides, or span periods, in a row without an edge within 1 us the source is lost: told once, and what remained to steer
ends. A pulse goes out once per tide with `SYNC_OUT_EN`, starting `TIM.SYNC_OUT_OFFSET` after the boundary. `EXTCLK_IN` is suspended, told
once, while `SYNC_IN` or the pair follower's clock is followed. With its enable clear each source does nothing. That the error is taken to
the nearest boundary is the model's reading (log 91). -/
def Obligations.Synchronisation : Prop :=
  ∀ (edge : Time) (s : State), s.live = true →
    let steered := fun (x : Int) (y : State) => y.modTim (fun t => { t with steer := x, steering := decide (x ≠ 0) })
    let e := nearestError (edge + 8 * BitVec.ofNat 64 (s.cfgN 0x100C)) (8 * s.tim.tideStart) (8 * s.tideTicks)
    let x := nearestError (edge + 8 * BitVec.ofNat 64 (s.cfgN 0x5004)) (8 * s.tim.tideStart) (8 * s.periodTicks .spn)
    let edged := s.modPower (fun p => { p with gpEdge := true })
    (s.syncInOn = true →
      Does (.syncInEdge edge) s ((steered e s).modTim (fun t => { t with
          syncLocked := decide (e.natAbs ≤ 16), syncNear := t.syncNear || decide (e.natAbs ≤ 3200),
          syncMiss := if e.natAbs ≤ 3200 then 0 else t.syncMiss, syncLost := t.syncLost && decide (3200 < e.natAbs) }))
        (if s.anyArmed && decide (3200 < e.natAbs) then
          [s.event (codeOf 2 0 0x46) .note 0xF 0xFF (F.ofRat e 3200000000) (F.dec 1 (-6)) 0] else []) ∧
      (s.tim.syncLost = false → 3 ≤ s.tim.syncMiss →
        Does .syncInLost s ((steered 0 s).modTim (fun t => { t with syncLost := true })) [s.event (codeOf 2 0 0x45) .note 0xF 0xFF 0 0 0])) ∧
    (s.syncInOn = false → Does (.syncInEdge edge) s s []) ∧
    (s.syncInOn = false ∨ s.tim.syncLost = true ∨ s.tim.syncMiss < 3 → Does .syncInLost s s []) ∧
    (s.cfgBit 0x1000 1 = true → s.tim.syncDone = false →
      Does .syncOutPulse s (s.modTim (fun t => { t with
        syncOut := t.syncOut + 1, syncDone := true, syncAt := t.tideStart + BitVec.ofNat 64 (s.cfgN 0x1008) })) []) ∧
    (s.cfgBit 0x1000 1 = false ∨ s.tim.syncDone = true → Does .syncOutPulse s s []) ∧
    (s.extOn = true → s.cfgBit 0x1000 0 = false → s.power.straps.pair = false →
      Does (.extclkEdge edge) s ((steered x edged).modSpan (fun p => { p with
        extSusp := false, extLocked := decide (x.natAbs ≤ 16), extNear := p.extNear || decide (x.natAbs ≤ 3200),
        extMiss := if x.natAbs ≤ 3200 then 0 else p.extMiss, extLost := p.extLost && decide (3200 < x.natAbs) })) [] ∧
      (s.span.extLost = false → 3 ≤ s.span.extMiss →
        Does .extSyncLost s ((steered 0 s).modSpan (fun p => { p with extSusp := false, extLost := true }))
          [s.event (codeOf 2 4 0x1D1) .note 0xF 0xFF 0 0 0]) ∧
      (s.span.extLost = true ∨ s.span.extMiss < 3 → Does .extSyncLost s (s.modSpan (fun p => { p with extSusp := false })) [])) ∧
    (s.extOn = false →
      Does (.extclkEdge edge) s (edged.modSpan (fun p => { p with extSusp := false })) [] ∧
      Does .extSyncLost s (s.modSpan (fun p => { p with extSusp := false })) []) ∧
    (s.extOn = true → s.cfgBit 0x1000 0 = true ∨ s.power.straps.pair = true →
      let held := s.span.extSusp
      let told := if held then [] else [s.event (codeOf 2 4 0x1D2) .note 0xF 0xFF 0 0 0]
      Does (.extclkEdge edge) s ((if held then edged else steered 0 edged).modSpan (fun p => { p with extSusp := true })) told ∧
      Does .extSyncLost s ((if held then s else steered 0 s).modSpan (fun p => { p with extSusp := true })) told)

/-! ### Runs of law engines, sense to gates (R70 to R75, R95 to R97, R112 to R116) -/

/-- The sample instant starts a run of an engine that has started, is TRACKING or RUNNING and has at least two ACTIVE replicas (R70, R72,
R74, R112, R113, R120): the run holds the values and outputs visible at S, the ring set-points, and the pins agreed among the ACTIVE
replicas whose samples arrived in time; a darned replica joins here (R124). With no strobed set still converting, nothing of another engine
changes but what its own run takes of a shared strobe. Passes 1 to 3 of `LAW14` do the same a quarter period apart. With fewer than two
ACTIVE replicas an engine that runs starts no run: TRIAD_SPLIT is recorded and its region falls to REGION-SAFE at its next period start
(R112, R116). An engine that is STOPPED, has not started (R33) or waits after a resume (R132) starts none either, without an event. -/
def Obligations.SampleInstants : Prop :=
  (
    ∀ (l : LawId) (k : Fin 4) (pins : Tri PinSample) (acks : Tri Ack) (s : State), s.live = true →
      let x := (s.law l).join
      s.runs l = true → s.cluUp (lawReg l) (lawClu l) = true → (s.law l).halted = false → 2 ≤ x.active.length →
      ¬ s.sampleTime l k < (s.law l).resumeAt →
      (∀ y ∈ s.ownSets l, (s.snsC y.1).busy = 0) → (s.ownSets l).Pairwise (fun y z => y.1 ≠ z.1) →
      let begun := fun (ps : Tri PinSample) (heard : List RepId) (t : State) => ∃ f, (t.law l).flight = some f ∧ f.at_ = s.sampleTime l k ∧
        f.sp = (s.law l).ringSp ∧ f.mz = (s.law l).ringMz ∧ f.vals = s.chans.toList.map (·.val) ∧
        f.outs = s.laws.toList.map (·.outAt (s.sampleUnits l k)) ∧
        f.agreed = agree (heard.map (triGet ps)) ∧ f.noSet = false ∧
        t.tim.devTime = (if s.tim.devTime < s.sampleTime l k then s.sampleTime l k else s.tim.devTime) ∧
        (∀ j : RepId, ((t.law l).rep j).st = (x.rep j).st) ∧ (∀ m, m ≠ l → t.law m = { s.law m with flight := (t.law m).flight }) ∧
        (∀ b, (s.brg b).gap = none → t.brg b = s.brg b) ∧ SameCore { s with tim := t.tim } t
      (k = 0 → Completes (.sampleInstant l pins acks) s
        (begun pins (x.active.filter (fun j => decide (triGet acks j = .taken))))) ∧
      (l = 14 → k ≠ 0 → Completes (.law14Pass k) s (fun t => begun ⟨noPins, noPins, noPins⟩ x.active t ∧ t.therm.passK = k))) ∧
  (
    ∀ (l : LawId) (pins : Tri PinSample) (acks : Tri Ack) (s : State), s.live = true →
      let x := (s.law l).join
      let u := s.reach (s.sampleTime l 0)
      (s.runs l = true → u.cluUp (lawReg l) (lawClu l) = true → (s.law l).halted = false → x.active.length < 2 →
        ¬ s.sampleTime l 0 < (s.law l).resumeAt →
        Completes (.sampleInstant l pins acks) s (fun t =>
          SameButHost ((u.modLaw l (fun _ => x)).modReg (lawReg l) (fun r => { r with
            safeDue := some (r.safeDue.getD (codeOf 1 (regCode (lawReg l)) 0x8A)) })) t ∧
          Records s t [u.event (codeOf 1 (regCode (lawReg l)) 0x8A) .regionSafe (BitVec.ofNat 8 (lawClu l)) 0xFF 0 0 0])) ∧
      (s.runs l = false ∨ u.cluUp (lawReg l) (lawClu l) = false ∨ s.sampleTime l 0 < (s.law l).resumeAt →
        Does (.sampleInstant l pins acks) s (u.modLaw l (fun _ => x)) []))

/-- A vote in which two ACTIVE replicas agree, in every output word and the signature, passes on what they have sent (R73, R111, R114): it
waits for A behind what waits already, the run ends, and for a RUNNING engine the oldest waiting output stands in the holding registers of
the bridges it drives; an output that has missed its A is not passed on (R75). An ACTIVE replica that agrees with neither is odd: it is
ACTIVE no longer, its count advances and the tide is kept (R114, R125, R133). An output that is not finite is not passed on, and its region
falls to REGION-SAFE (R85). A vote without agreement passes nothing on (R114, R116): of three replicas it is TRIAD_SPLIT, of two
DUPLEX_MISMATCH; the run ends, what waits for A and what is visible stay, and the region falls to REGION-SAFE at its next period start. Two
voter copies that disagree pass nothing on and take it there at once. A run that a strobe collision left without its set ends without a vote
(R201); with no run in flight, or in a halted cluster, a vote does nothing. -/
def Obligations.Votes : Prop :=
  (
    ∀ (l : LawId) (f : RunIn) (o : VoteObs) (a b : RepId) (s : State), s.live = true → (s.law l).flight = some f → f.noSet = false →
      (s.law l).halted = false → o.copiesAgree = true → a ∈ (s.law l).active → b ∈ (s.law l).active → a ≠ b →
      let same := fun j k => bundlesAgree ((s.law l).bundle o j) ((s.law l).bundle o k)
      same a b = true →
      let r := ((s.modLaw l (fun x => { x with madeOdd := false })).formRun l f).sentBy ((s.law l).sent o a)
      Completes (.vote l o) s (fun t => (t.law l).flight = none ∧ t.params = s.params ∧ t.setup = s.setup ∧
        (r.finite l = true → r.st.runs l = true → f.dead = false →
          (t.law l).held = (r.st.law l).held ++ [⟨r.outs, f.applyAt, r.st.running l⟩] ∧ (t.law l).voted = true ∧ (t.law l).sampled = f.at_ ∧
          (∀ h hs b i, (t.law l).held = h :: hs → (b, i) ∈ (lawBridges l).zipIdx →
            (t.brg b).hold = if h.drives then some (lawDuty l h.outs i) else none)) ∧
        (r.st.runs l = true → r.finite l = false ∨ f.dead = true → (t.law l).held = (r.st.law l).held) ∧
        (r.st.runs l = true → r.finite l = false → InSafe r.st t (lawReg l) (codeOf 1 (regCode (lawReg l)) 0x83)) ∧
        (∀ j, j ∈ (s.law l).active → j ≠ a → j ≠ b → same a j = false →
          ((t.law l).rep j).st ≠ .active ∧ (t.law l).lastOddTide = s.tim.tideIndex ∧
          ((t.law l).rep j).odd = (if ((s.law l).rep j).odd = 0xFF then 0xFF else ((s.law l).rep j).odd + 1)))) ∧
  (
    ∀ (l : LawId) (f : RunIn) (o : VoteObs) (s : State), s.live = true → (s.law l).flight = some f → (s.law l).halted = false → f.noSet = false →
      let same := fun j k => bundlesAgree ((s.law l).bundle o j) ((s.law l).bundle o k)
      let none2 := ∀ a b, a ∈ (s.law l).active → b ∈ (s.law l).active → a ≠ b → same a b = false
      let kept := fun (t : State) => (t.law l).flight = none ∧ (t.law l).held = (s.law l).held ∧ (t.law l).out = (s.law l).out
      let ended := fun (num : Nat) (t : State) => kept t ∧
        (t.reg (lawReg l)).safeDue = some ((s.reg (lawReg l)).safeDue.getD (codeOf 1 (regCode (lawReg l)) num)) ∧
        Logs s t (s.event (codeOf 1 (regCode (lawReg l)) num) .regionSafe (BitVec.ofNat 8 (lawClu l)) 0xFF 0 0 0)
      (o.copiesAgree = true → none2 → (s.law l).active.length = 3 → Completes (.vote l o) s (ended 0x8A)) ∧
      (o.copiesAgree = true → none2 → (s.law l).active.length = 2 → Completes (.vote l o) s (ended 0x8B)) ∧
      (o.copiesAgree = false → Completes (.vote l o) s (fun t => kept t ∧ InSafe s t (lawReg l) (codeOf 1 (regCode (lawReg l)) 0x8C)))) ∧
  (
    ∀ (l : LawId) (o : VoteObs) (s : State), s.live = true →
      (∀ f, (s.law l).flight = some f → f.noSet = true → (s.law l).halted = false →
        Does (.vote l o) s (s.modLaw l (fun x => { x with flight := none })) []) ∧
      ((s.law l).flight = none ∨ (s.law l).halted = true → Does (.vote l o) s s []))

/-- The apply instant (R73, R75): the oldest waiting output becomes visible and its holding values become pending, for the bridges of the
engine alone, and the holding registers take the next output that waits; of two whose A fall into one bridge cycle only the later is
applied. One that was not latched in time is dropped with OUTPUT_LATE, the pending values stay, and the region goes to REGION-SAFE, also
where the run is still in flight; with nothing due nothing happens. Those of `LAW14` are the throttle factors in force (R327). A load point
(R139, R142, R144): the pending value of an armed bridge enters its compare registers at the counter's zero, and at its peak too with `LOAD`
= 0; where the two timer copies disagree the value is discarded and the bridge isolated with PWM_MISMATCH. A bridge that is not armed loads
nothing. -/
def Obligations.ApplyInstantsAndLoadPoints : Prop :=
  (
    ∀ (l : LawId) (s : State), s.live = true →
      let late := fun (u t : State) => InSafe s t (lawReg l) (codeOf 1 (regCode (lawReg l)) 0x43) ∧
        Logs s t (u.event (codeOf 1 (regCode (lawReg l)) 0x43) .regionSafe (BitVec.ofNat 8 (lawClu l)) 0xFF 0 0 0) ∧
        (∀ b ∈ lawBridges l, (t.brg b).pend = (s.brg b).pend) ∧ SameCore { s with tim := t.tim } t
      ((s.law l).held = [] → (s.law l).outputDue = false → ∀ late, Does (.applyInstant l late) s s []) ∧
      (∀ f, (s.law l).held = [] → (s.law l).outputDue = true → (s.law l).flight = some f → ∀ b,
        Completes (.applyInstant l b) s (fun t => late s t ∧ (t.law l).flight = some { f with dead := true })) ∧
      (∀ h hs, (s.law l).held = h :: hs → (∀ g ∈ hs.head?, h.at_ / 8 ≠ g.at_ / 8) →
        Completes (.applyInstant l false) s (fun t => (t.law l).held = hs ∧ (t.law l).out = h.outs ∧ (t.law l).prev = (s.law l).out ∧
          (l = 14 → t.therm.f = Vector.ofFn (fun (k : Fin 7) => h.outs.getD k.val F.one)) ∧
          (∀ b ∈ lawBridges l, (∀ v, (s.brg b).hold = some v → (t.brg b).pend = v) ∧ (t.brg b).cmp = (s.brg b).cmp) ∧
          (∀ b i, (b, i) ∈ (lawBridges l).zipIdx →
            (t.brg b).hold = hs.head?.bind (fun g => if g.drives then some (lawDuty l g.outs i) else none)) ∧
          (∀ b, b ∉ lawBridges l → (s.brg b).gap = none → t.brg b = s.brg b) ∧ (∀ m, m ≠ l → t.law m = s.law m) ∧
          SameCore { s with tim := t.tim } t) ∧
        Completes (.applyInstant l true) s (fun t => (t.law l).held = hs ∧ late (s.reach (h.at_ / 8)) t)) ∧
      (∀ g h hs, (s.law l).held = g :: h :: hs → g.at_ / 8 = h.at_ / 8 →
        Completes (.applyInstant l false) s (fun t => (t.law l).held = hs ∧ (t.law l).out = h.outs))) ∧
  (
    ∀ (b : BridgeId) (peak : Bool) (s : State), s.live = true →
      (∀ agree, s.isArmed b = false → Does (.loadPoint b peak agree) s s []) ∧
      (∀ agree, peak = true → s.parN (brgId b 0x00) ≠ 0 → Does (.loadPoint b peak agree) s s []) ∧
      (s.isArmed b = true → (peak = false ∨ s.parN (brgId b 0x00) = 0) →
        Completes (.loadPoint b peak true) s (fun t => (t.brg b).cmp = s.cpLimit b (s.brg b).pend ∧ (t.brg b).arm = .armed ∧
          (t.brg b).pend = (s.brg b).pend ∧ (regSide (brgReg b) = none → ∀ c, c ≠ b → t.brg c = s.brg c) ∧ SameCore s t) ∧
        Completes (.loadPoint b peak false) s (fun t => Isolates s t b 0xC0 ∧ (t.brg b).cmp = (s.brg b).cmp ∧
          Logs s t (s.brgEvent b 0xC0 0xFF 0 0))))

/-- External set-point sources and following error (R95 to R97). An input invalid for `SP_TIMEOUT` is lost, with SP_SOURCE_LOST once, and is
back after it has been valid for as long; a source that a commit has replaced in the run of its loss is recorded without its fallback. A
following error of `FE_TIME` disarms its own flag and is recorded with the reaction chosen: none but the record, and FREE for an actuator
that asks for it, or REGION-SAFE of the engine's region. Where the condition does not hold each does nothing. -/
def Obligations.SourcesAndFollowing : Prop :=
  ∀ (l : LawId) (s : State), s.live = true →
    let ev := fun (num : Nat) (cls : RClass) (d0 d1 : Word) =>
      s.event (codeOf 1 (regCode (lawReg l)) num) cls (BitVec.ofNat 8 (lawClu l)) 0xFF d0 d1 0
    let lostNow := s.parN (lawId l 0xE0) ≠ 0 ∧ (s.law l).spLost = false ∧ F.le (s.lawP l 0xE8) (s.rw l rwSpBad) = true
    let freed := s.setRw l rwFeArmed F.zero
    let free := lawForm l = .position ∧ s.parOn (lawId l 0x2B) = true
    (formExt (lawForm l) = true → (s.law l).spOld = none → lostNow →
      Does (.spSourceLost l) s (s.modLaw l (fun x => { x with spLost := true })) [ev 0x81 .note (s.rw l rwSpBad) (s.lawP l 0xE8)]) ∧
    (∀ bad tmo, formExt (lawForm l) = true → (s.law l).spOld = some (bad, tmo) →
      Does (.spSourceLost l) s (s.modLaw l (fun x => { x with spOld := none })) [ev 0x81 .note bad tmo]) ∧
    (formExt (lawForm l) = false ∨ ((s.law l).spOld = none ∧ ¬ lostNow) → Does (.spSourceLost l) s s []) ∧
    ((s.law l).spLost = true → F.le (s.lawP l 0xE8) (s.rw l rwSpGood) = true →
      Does (.spSourceBack l) s (s.modLaw l (fun x => { x with spLost := false })) [ev 0x82 .note (s.rw l rwSpGood) (s.lawP l 0xE8)]) ∧
    ((s.law l).spLost = false ∨ F.le (s.lawP l 0xE8) (s.rw l rwSpGood) = false → Does (.spSourceBack l) s s []) ∧
    (s.feDue l = true → s.parN (lawId l 0xEC) ≠ 2 →
      Does (.followErr l) s (if free then freed.modAct (lawAct l) (fun x => { x with freeDue := true }) else freed)
        [ev 0x80 .note (s.rw l rwFeErr) 0]) ∧
    (s.feDue l = true → s.parN (lawId l 0xEC) = 2 →
      Completes (.followErr l) s (fun t => InSafe s t (lawReg l) (codeOf 1 (regCode (lawReg l)) 0x80) ∧
        Logs s t (ev 0x80 .regionSafe (s.rw l rwFeErr) 3) ∧ (free → (t.actu (lawAct l)).freeDue = true) ∧ SameCore s t)) ∧
    (s.feDue l = false → Does (.followErr l) s s [])

/-! ### Bridges and gate sides (R140 to R168, R500) -/

/-- A carrier edge of an armed bridge (R140 to R142, R144, R145, R154). The copies' command for the switch takes the edge, and where the
output is PWM, or the start test probes this low side (R239), the switch follows as far as its gate side is supplied, and no other bridge
changes; an edge of a pulse too short is not emitted. A turn-on while the opposite switch is commanded on is SHOOT_CMD, whatever the output,
and copies that disagree are PWM_MISMATCH, and both isolate the bridge with both switches off. A bridge that is not armed has no edge, but
SHOOT_CMD of the cycle in which it was isolated is recorded as well (R155). Desaturation (R156, R157): the gate side of a switch that is on
begins its soft turn-off and the opposite switch is held off; so does one whose opposite switch is in soft turn-off already; when it
completes, the bridge is isolated and DESAT is recorded, with GS_DRIVE_FAULT where the gate has not fallen. A switch that is off, or in no
soft turn-off, reports neither. -/
def Obligations.CarrierEdgesAndDesaturation : Prop :=
  (
    ∀ (b : BridgeId) (sw : Sw) (node : NodeObs) (s : State), s.live = true → (b ≠ .bch ∨ sw = .low) →
      let cmd := fun (on agree : Bool) => Instr.carrierEdge b sw on agree node
      let emitted := fun (on : Bool) => s.isArmed b = true ∧ (s.probed b sw = true ∨ s.edgeDropped b sw on = false)
      let follows := s.outNow b = .pwm ∨ s.probed b sw = true
      let shoot := s.brgEvent b 0xC4 0xFF 0 0
      (∀ on, emitted on → (on = true → s.cmdOn b (otherSw sw) = false) → follows →
        Completes (cmd on true) s (fun t => t.cmdOn b sw = on ∧ t.cmdOn b (otherSw sw) = s.cmdOn b (otherSw sw) ∧
          t.swOn b sw = (on && s.gateUp b sw) ∧ t.swOn b (otherSw sw) = s.swOn b (otherSw sw) ∧
          (t.brg b).arm = .armed ∧ (t.brg b).cmp = (s.brg b).cmp ∧ (∀ c, c ≠ b → t.brg c = s.brg c) ∧
          SameButHost { s with bridges := t.bridges, therm := t.therm } t ∧ Records s t [])) ∧
      (∀ on, emitted on → (on = true → s.cmdOn b (otherSw sw) = false) → ¬ follows → Does (cmd on true) s (s.setCmd b sw on) []) ∧
      (∀ on, s.isArmed b = true → s.probed b sw = false → s.edgeDropped b sw on = true → Does (cmd on true) s s []) ∧
      (emitted true → s.cmdOn b (otherSw sw) = true → Completes (cmd true true) s (fun t => Isolates s t b 0xC4 ∧ Logs s t shoot)) ∧
      (∀ on, s.isArmed b = true → Completes (cmd on false) s (fun t => Isolates s t b 0xC0 ∧ Logs s t (s.brgEvent b 0xC0 0xFF 0 0))) ∧
      (s.isIso b = true → (s.brg b).isoAt = some s.tim.devTime → s.cmdOn b (otherSw sw) = true → Does (cmd true true) s s [shoot]) ∧
      (∀ on agree, s.isArmed b = false → s.isoNow b = false ∨ agree = false ∨ on = false ∨ s.cmdOn b (otherSw sw) = false →
        Does (cmd on agree) s s [])) ∧
  (
    ∀ (g : GsId) (s : State), s.live = true →
      let b := (gsBridge g).1
      let sw := (gsBridge g).2
      let unit : Byte := BitVec.ofNat 8 (g.val + 1)
      let begins := s.swOn b sw = true ∨ (s.swSoft b (otherSw sw) = true ∧ s.swSoft b sw = false)
      (begins →
        Completes (.desaturation g) s (fun t => t.swSoft b sw = true ∧ t.swOn b .high = false ∧ t.swOn b .low = false ∧
          t.outNow b = .off ∧ (t.brg b).arm = (s.brg b).arm ∧ (∀ c, c ≠ b → t.brg c = s.brg c) ∧ Records s t [] ∧
          (s.probing b = false → t.span = s.span) ∧ SameButHost { s with bridges := t.bridges, span := t.span } t)) ∧
      (¬ begins → Does (.desaturation g) s s []) ∧
      (s.swSoft b sw = true →
        Completes (.desat g true) s (fun t => Isolates s t b 0xC7 ∧ t.swSoft b sw = false ∧ (t.brg b).desats = satInc (s.brg b).desats ∧
          Logs s t (s.brgEvent b 0xC7 unit 0 0)) ∧
        Completes (.desat g false) s (fun t => Isolates s t b 0xC7 ∧ t.swSoft b sw = false ∧ (t.brg b).desats = satInc (s.brg b).desats ∧
          Logs s t (s.brgEvent b 0xC7 unit 0 0) ∧
          Logs s t { s.brgEvent b 0xCB unit 0 0 with code := codeOf 0 (regCode (brgReg b)) 0xCB })) ∧
      (∀ fell, s.swSoft b sw = false → Does (.desat g fell) s s []))

/-- Gate sides (R36, R149, R153, R155, R162 to R164, R465, R500). A lost die isolates its bridge in every arm state and loses its supply and
its pair link; a lost pair link and a supply fault isolate an armed bridge, the latter also the chopper that holds its switch on, and cost
another its readiness alone without an event; a missing or withdrawn permission isolates an armed bridge whose switch is concerned, and is
recorded beside a cause of the same cycle that found the switch on; a gate that does not cross isolates in every arm state; a gate side
becomes ready once the rail is and its turn has come, unless its die is lost, and its bridge's switches follow the supply. -/
def Obligations.GateSides : Prop :=
  ∀ (g : GsId) (v : F32) (s : State), s.live = true →
    let b := (gsBridge g).1
    let sw := (gsBridge g).2
    let unit : Byte := BitVec.ofNat 8 (g.val + 1)
    let at3 := fun (num : Nat) (d0 d1 : Word) => { s.brgEvent b num unit d0 d1 with code := codeOf 3 (regCode (brgReg b)) num }
    let unready := fun (t : State) => (t.gate g).ready = false ∧ (∀ h, h ≠ g → t.gate h = s.gate h)
    let turn := s.power.gpReady = true ∧ (s.gate g).lost = false ∧ s.power.railAt.toNat + 8000 * g.val ≤ s.tim.devTime.toNat
    let shoots := fun (w : Bool) => (s.isArmed b = true ∧ (s.swOn b sw = true ∨ (s.swSoft b sw = true ∧ w = true)))
    let beside := s.isoNow b = true ∧ s.wasOn b sw = true
    ((s.gate g).lost = false → Completes (.gsLost g) s (fun t => Isolates s t b 0xCA ∧ (t.brg b).isoHard = true ∧
      (t.gate g).lost = true ∧ (t.gate g).powered = false ∧ (t.gate g).ready = false ∧ (t.gate g).link = false ∧ Logs s t (at3 0xCA 0 0))) ∧
    ((s.gate g).lost = true → Does (.gsLost g) s s []) ∧
    (∀ m, gsMate g = some m →
      (s.isArmed b = true → Completes (.pairlinkLost g) s (fun t => Isolates s t b 0xC6 ∧ (t.gate g).link = false ∧ (t.gate m).link = false ∧
        (t.gate g).ready = false ∧ (t.gate m).ready = false ∧ Logs s t (s.brgEvent b 0xC6 unit 0 0))) ∧
      (s.isArmed b = false → Completes (.pairlinkLost g) s (fun t => SameButHost { s with gates := t.gates } t ∧ Records s t [] ∧
        (t.gate g).ready = false ∧ (t.gate m).ready = false ∧ ∀ h, h ≠ g → h ≠ m → t.gate h = s.gate h)) ∧
      (∀ w, shoots w → Completes (.shootGs b sw w) s (fun t => Isolates s t b 0xC5 ∧ Logs s t (s.brgEvent b 0xC5 unit 0 0))) ∧
      (∀ w, beside → Does (.shootGs b sw w) s s [s.brgEvent b 0xC5 unit 0 0]) ∧
      (∀ w, ¬ shoots w → ¬ beside → Does (.shootGs b sw w) s s [])) ∧
    ((s.gate g).ready = true → s.judged b = true →
      Completes (.gsVpUv g v) s (fun t => Isolates s t b 0xC8 ∧ unready t ∧ Logs s t (at3 0xC8 v (s.brgP b 0x19))) ∧
      Completes (.gsVnUv g v) s (fun t => Isolates s t b 0xC9 ∧ unready t ∧ Logs s t (at3 0xC9 v (s.brgP b 0x1A)))) ∧
    (((s.gate g).ready && s.judged b) = false →
      Does (.gsVpUv g v) s (s.modGate g (fun x => { x with ready := false })) [] ∧
      Does (.gsVnUv g v) s (s.modGate g (fun x => { x with ready := false })) []) ∧
    Completes (.gsDriveFault g) s (fun t => Isolates s t b 0xCB ∧
      Logs s t { s.brgEvent b 0xCB unit 0 0 with code := codeOf 0 (regCode (brgReg b)) 0xCB }) ∧
    (turn → Completes (.gsReady g) s (fun t => Records s t [] ∧
      SameButHost { s.modGate g (fun x => { x with powered := true, ready := true, link := (gsMate g).isSome }) with
        power := { s.power with startStep := t.power.startStep }, bridges := t.bridges } t ∧
      (∀ c, c ≠ b → t.brg c = s.brg c) ∧ t.brg b = { s.brg b with hiOn := (t.brg b).hiOn, loOn := (t.brg b).loOn })) ∧
    (¬ turn → Completes (.gsReady g) s (fun t => Records s t [] ∧
      SameButHost { s with power := { s.power with startStep := t.power.startStep } } t))

/-- Actuator bridges (R165 to R168): excess drain-source voltage of a switch that is on, and a bootstrap below 7.5 V of an armed bridge,
isolate it, and the actuator's mode does not change before its next period start; without arming a low bootstrap is noted alone. A lost
charge pump is recorded once, and its recovery tops up every bootstrap. Adaptations at their limits (R147, R152): a dead time of a
high-voltage bridge at `DT_MAX` for 16 periods, and a strength at 1 with dv/dt above its ceiling for 16 periods, are each recorded once;
nothing else changes. -/
def Obligations.ActuatorBridgesAndAdaptations : Prop :=
  (
    ∀ (b : BridgeId) (v : F32) (s : State), s.live = true → brgAct b ≠ none →
      (∀ sw, s.swOn b sw = true → Completes (.vdsAct b sw) s (fun t => Isolates s t b 0xD0 ∧ t.acts = s.acts ∧
        (t.brg b).desats = satInc (s.brg b).desats ∧ Logs s t (s.brgEvent b 0xD0 0xFF 0 0))) ∧
      (∀ sw, s.swOn b sw = false → Does (.vdsAct b sw) s s []) ∧
      (s.isArmed b = true → Completes (.bstUv b v) s (fun t => Isolates s t b 0xCE ∧ t.acts = s.acts ∧ (t.brg b).bst = false ∧
        Logs s t (s.brgEvent b 0xCE 0xFF v (F.dec 75 (-1))))) ∧
      (s.isArmed b = false → Does (.bstUv b v) s (s.modBrg b (fun x => { x with bst := false })) []) ∧
      (s.cpFault = false → Does (.cpFault v) s { s with cpFault := true }
        [s.event (codeOf 2 6 0xCF) .limit 0xF 0xFF v (F.dec 85 (-1)) 0]) ∧
      (s.cpFault = true → Does (.cpFault v) s s []) ∧
      Completes .cpRecovery s (fun t => SameButHost { s with cpFault := false, bridges := t.bridges } t ∧ (t.brg b).bst = true ∧
        (t.brg b).arm = (s.brg b).arm ∧ ∀ c, brgReg c ≠ .act → t.brg c = s.brg c)) ∧
  (
    ∀ (b : BridgeId) (sw : Sw) (on : Bool) (s : State), s.live = true →
      let ev := fun (num : Nat) (unit : Byte) (d0 d1 : Word) => { s.brgEvent b num unit d0 d1 with cls := .note }
      let d := match sw with
        | .high => (s.brg b).dtHl
        | .low => (s.brg b).dtLh
      let told := s.modBrg b (fun x => match sw with
        | .high => { x with dtHl := { d with told := true } }
        | .low => { x with dtLh := { d with told := true } })
      let tells := s.isArmed b = true ∧ 16 ≤ d.atMax ∧ d.told = false
      (brgKind b = .hv → tells → Does (.dtAtLimit b sw) s told [ev 0xCC 0xFF (unitSec d.now) (s.brgP b 0x05)]) ∧
      (brgKind b = .hv → ¬ tells → Does (.dtAtLimit b sw) s s []) ∧
      (∀ g, gsOf b sw = some g →
        let k := slewIx sw on
        let x := (s.brg b).slew[k]
        let tells := s.isArmed b = true ∧ 16 ≤ x.above ∧ x.told = false
        (tells → Does (.dvdtAtLimit b sw on) s (s.modBrg b (fun y => { y with slew := y.slew.set k { x with told := true } }))
            [ev 0xCD (BitVec.ofNat 8 (g.val + 1)) x.dvdt (s.brgP b 0x15)]) ∧
        (¬ tells → Does (.dvdtAtLimit b sw on) s s [])))

/-! ### Torque-off and brake (R301 to R313) -/

/-- The `SAFE_EN` lands (R309, R311, R312): a land going low blocks every bridge of TRA, TRB and SPN but the chopper, both switches off, and
touches no CHG or ACT bridge; SAFE_EN_BLOCK is recorded. The block ends once both lands have been high and no latch holds; lands that differ
latch it; the latch clears only when both lands are high again after both were low. -/
def Obligations.SafeEnableLands : Prop :=
  ∀ (land : Fin 2) (s : State), s.live = true →
    let level := fun (v : Bool) => if land = 0 then { s.sto with a := v } else { s.sto with b := v }
    let marked := fun (v : Bool) => { level v with bothLow := (level v).latch && ((level v).bothLow || (!(level v).a && !(level v).b)) }
    (s.sto.block = false → Completes (.safeEnFall land) s (fun t => t.sto.block = true ∧
      t.sto.a = (level false).a ∧ t.sto.b = (level false).b ∧ t.sto.latch = s.sto.latch ∧
      (∀ b, blockable b = true → (t.brg b).hiOn = false ∧ (t.brg b).loOn = false) ∧
      (∀ b, brgReg b = .chg ∨ brgReg b = .act → t.brg b = s.brg b) ∧
      Logs s t (s.event (codeOf 2 0 0x260) .limit 0xF 0xFF 0 0 0) ∧ SameCore s t)) ∧
    (s.sto.block = true → Does (.safeEnFall land) s { s with sto := marked false } []) ∧
    Does (.safeEnRise land) s { s with sto := (if (marked true).latch && (marked true).bothLow && (marked true).a && (marked true).b then
      { marked true with latch := false, bothLow := false } else marked true) } [] ∧
    (s.sto.block = true → s.sto.a = true → s.sto.b = true → s.sto.latch = false →
      Completes .safeEnRelease s (fun t => t.sto = { s.sto with block := false, delay := false } ∧
        SameButHost { s with sto := t.sto, bridges := t.bridges } t ∧ (∀ b, (t.brg b).arm = (s.brg b).arm ∧ (t.brg b).sel = (s.brg b).sel) ∧
        Records s t [s.event (codeOf 2 0 0x261) .note 0xF 0xFF 0 0 0])) ∧
    ((s.sto.block && s.sto.a && s.sto.b && !s.sto.latch) = false → Does .safeEnRelease s s []) ∧
    (s.sto.a ≠ s.sto.b → s.sto.latch = false →
      Does .safeEnDiscrepancy s { s with sto := { s.sto with latch := true, bothLow := false } }
        [s.event (codeOf 2 0 0x262) .limit 0xF 0xFF 0 0 0]) ∧
    (s.sto.a = s.sto.b ∨ s.sto.latch = true → Does .safeEnDiscrepancy s s [])

/-- With `BRK_ON_STO` = 1 and `BRK_STO_DELAY` other than 0 the brake is applied when the delay has passed and the block still holds; with
`BRK_STO_DELAY` = 0 it is applied as the block begins; a block that ends before leaves it as it was (R313). -/
def Obligations.BrakeFollowsBlock : Prop :=
  ∀ (s : State), s.live = true →
    let off := fun (t : State) => t.brake.mode = .applied ∧ t.brake.pulling = false ∧ t.brake.hs = false ∧ t.brake.ls = false
    (s.sto.block = true → s.sto.delay = true → s.parOn (lawId 15 0x2C) = true →
      Completes .brkStoDelay s (fun t => off t ∧ t.sto = { s.sto with delay := false } ∧
        SameButHost { s with sto := t.sto, brake := t.brake } t)) ∧
    ((s.sto.block && s.sto.delay && s.parOn (lawId 15 0x2C)) = false → Does .brkStoDelay s s []) ∧
    (∀ land, s.sto.block = false → s.parOn (lawId 15 0x2C) = true → F.isZero (s.lawP 15 0x2D) = true → Completes (.safeEnFall land) s off) ∧
    (∀ land, s.sto.block = false → s.parOn (lawId 15 0x2C) = true → F.isZero (s.lawP 15 0x2D) = false →
      Completes (.safeEnFall land) s (fun t => t.sto.delay = true)) ∧
    Completes .safeEnRelease s (fun t => t.brake = s.brake ∧ (t.sto.block = false → s.sto.block = true → t.sto.delay = false))

/-- Conversions of the brake's readback (R301, R304, R305). Above `BRK_I_MAX` they are an overcurrent: both switches off and DEVICE-SAFE.
The first one at the end of pull-in passes or fails it; in a test pulse it is kept for the end of the pulse; outside pulses consecutive
mismatches are counted, and the third is a readback failure; in RELEASED the mean over a SUP period must lie from `BRK_I_MIN` to
`BRK_I_MAX`. Test pulses and the end of pull-in (R302, R304): in APPLIED the high side alone turns on, in RELEASED the high side and the low
side turn off in turn; none runs during pull-in or inside another. At its end the switches return to their mode, and a conversion of its
last 10 us that missed its row is a readback failure. The end of `BRK_PULL_TIME` has the next conversion judge. -/
def Obligations.BrakeCoil : Prop :=
  (
    ∀ (fb isns vsup : F32) (s : State), s.live = true →
      let v := F.mul fb (s.brkP 0x2A)
      let i := F.mul isns (s.brkP 0x2B)
      let u := (s.modPower (fun p => { p with vsupNow := vsup })).modBrake (fun b => { b with
        fbHigh := F.le (F.mul (F.dec 7 (-1)) vsup) v, iCoil := i })
      let cmd := Instr.brakeConversion fb isns vsup
      let fault := fun (num : Nat) (t : State) => t.brake.hs = false ∧ t.brake.ls = false ∧ t.brake.mode = .applied ∧
        InSafe s t .sup (codeOf 1 0 num) ∧ t.power.vsupNow = vsup ∧ SameCore s t
      let below := F.lt (s.brkP 0x24) i = false
      (F.lt (s.brkP 0x24) i = true → Completes cmd s (fault 0x257)) ∧
      (below → s.brake.pulling = true → s.brake.judge = false → Does cmd s u []) ∧
      (below → s.brake.pulling = true → s.brake.judge = true → F.lt i (s.brkP 0x21) = false →
        Does cmd s (u.modBrake (fun b => { b with judge := false, pulled := true })) []) ∧
      (below → s.brake.pulling = true → s.brake.judge = true → F.lt i (s.brkP 0x21) = true → Completes cmd s (fault 0x254)) ∧
      (below → s.brake.pulling = false → s.brake.pulse ≠ 0 →
        Does cmd s (u.modBrake (fun b => { b with bad := ((s.tim.devTime, u.rowMiss s.brake.pulse.toNat v i) :: b.bad).take 2 })) []) ∧
      (below → s.brake.pulling = false → s.brake.pulse = 0 → s.brake.mode ≠ .released →
        (u.rowMiss 1 v i = none → Does cmd s (u.modBrake (fun b => { b with miss := 0 })) []) ∧
        (u.rowMiss 1 v i ≠ none → s.brake.miss < 2 → Does cmd s (u.modBrake (fun b => { b with miss := b.miss + 1 })) []) ∧
        (u.rowMiss 1 v i ≠ none → 2 ≤ s.brake.miss → Completes cmd s (fault 0x255))) ∧
      (below → s.brake.pulling = false → s.brake.pulse = 0 → s.brake.mode = .released →
        let mean := F.div s.brake.sumI (F.ofNat s.brake.nI)
        let more := fun (miss : Nat) => u.modBrake (fun b => { b with miss := miss, sumI := F.add b.sumI i, nI := b.nI + 1 })
        (s.brake.meanDue = false → u.rowMiss 3 v i = none → Does cmd s (more 0) []) ∧
        (s.brake.meanDue = false → u.rowMiss 3 v i ≠ none → s.brake.miss < 2 → Does cmd s (more (s.brake.miss + 1)) []) ∧
        (s.brake.meanDue = false → u.rowMiss 3 v i ≠ none → 2 ≤ s.brake.miss → Completes cmd s (fault 0x255)) ∧
        (s.brake.meanDue = true → s.brake.nI ≠ 0 → F.lt mean (s.brkP 0x23) = true → Completes cmd s (fault 0x256)) ∧
        (s.brake.meanDue = true → s.brake.nI ≠ 0 → F.lt mean (s.brkP 0x23) = false → F.lt (s.brkP 0x24) mean = true →
          Completes cmd s (fault 0x255)) ∧
        (s.brake.meanDue = true → s.brake.nI ≠ 0 → F.lt mean (s.brkP 0x23) = false → F.lt (s.brkP 0x24) mean = false →
          u.rowMiss 3 v i = none →
          Does cmd s (u.modBrake (fun b => { b with meanDue := false, miss := 0, sumI := F.add 0 i, nI := 1 })) []))) ∧
  (
    ∀ (s : State), s.live = true →
      (s.brake.pulling = false → s.brake.pulse = 0 →
        Does .brkTestPulse s (s.modBrake (fun b =>
          if b.mode = .released then
            (if b.nextLow then { b with pulse := 5, nextLow := false, hs := true, ls := false, bad := [] }
             else { b with pulse := 4, nextLow := true, hs := false, ls := true, bad := [] })
          else { b with pulse := 2, hs := true, ls := false, bad := [] })) []) ∧
      (s.brake.pulling = true ∨ s.brake.pulse ≠ 0 → Does .brkTestPulse s s []) ∧
      (s.brake.pulse ≠ 0 → s.brake.pulseMiss s.tim.devTime = none →
        Does .brkTestPulseEnd s (s.modBrake (fun b => { b with
          pulse := 0, hs := decide (b.mode = .released), ls := decide (b.mode = .released), bad := [], lastTp := s.tim.tideIndex })) []) ∧
      (∀ m, s.brake.pulse ≠ 0 → s.brake.pulseMiss s.tim.devTime = some m →
        Completes .brkTestPulseEnd s (fun t => t.brake.hs = false ∧ t.brake.ls = false ∧ t.brake.mode = .applied ∧ t.brake.pulse = 0 ∧
          InSafe s t .sup (codeOf 1 0 0x255) ∧ SameCore s t)) ∧
      (s.brake.pulse = 0 → Does .brkTestPulseEnd s s []) ∧
      Does .pullInEnd s (if s.brake.pulling && !s.brake.pulled then s.modBrake (fun b => { b with judge := true }) else s) [])

/-! ### Sense clusters, window monitors, trips (R158 to R160, R177 to R197) -/

/-- The converter check (R181, R196): in its turn, after the scan entries, at the level that alternates, the corrected code must lie within
16 codes of -16,384 at VREF/4 and of +16,384 at 3 VREF/4; the second failure in a row is ADC_CHECK_FAIL, a fault that takes the cluster's
region to REGION-SAFE; a good one starts the count again. It ends the round of a cluster that reads back no DAC. Out of its turn, in a
stopped sequence or while a strobed set converts, none is taken. -/
def Obligations.ConverterCheck : Prop :=
  ∀ (n : SnsId) (low : Bool) (raw : Half) (s : State), s.live = true →
    let x := s.snsC n
    let dev := (correct 54 1 raw).toInt - (if low then -16384 else 16384)
    let cmd := Instr.scanEntryComplete n (.check low raw)
    let due := x.stopped = false ∧ x.busy = 0 ∧ x.scanPos = (s.entriesOf n 0).length ∧ low = !x.high
    let judged := fun (fails : Nat) (t : State) => (t.snsC n).fails = fails ∧ (t.snsC n).checkDev = BitVec.ofInt 16 dev ∧
      (t.snsC n).high = low ∧ (t.snsC n).scanPos = (if 7 ≤ n.val then x.scanPos + 1 else 0) ∧
      (t.snsC n).rounds = (if 7 ≤ n.val then x.rounds else x.rounds + 1) ∧
      (∀ m, m ≠ n → t.snsC m = s.snsC m) ∧ (∀ c, t.chan c = s.chan c)
    (¬ due → Does cmd s s []) ∧
    (due → dev.natAbs ≤ 16 → Completes cmd s (fun t => judged 0 t ∧ SameButHost { s with sns := t.sns } t ∧ Records s t [])) ∧
    (due → 16 < dev.natAbs → x.fails ≠ 1 →
      Completes cmd s (fun t => judged (x.fails + 1) t ∧ SameButHost { s with sns := t.sns } t ∧ Records s t [])) ∧
    (due → 16 < dev.natAbs → x.fails = 1 →
      Completes cmd s (fun t => judged 2 t ∧ (t.snsC n).fault = true ∧ InSafe s t (snsReg n) (codeOf 1 (regCode (snsReg n)) 0x147) ∧
        Logs s t (s.event (codeOf 1 (regCode (snsReg n)) 0x147) .regionSafe (BitVec.ofNat 8 (snsClu n)) 0xFF (F.ofInt dev) (F.ofNat 16) 0)))

/-- A sequence entry ends (R176 to R180, R184): its channel takes the corrected code, the physical value gain times pin voltage plus offset
and the over-range flag, and its accumulators take the code; no other channel changes. The next entry of the table follows, of the running
set while one converts, else of the scan; a set ends with its last entry. An entry whose turn it is not, and any of a stopped cluster, does
nothing. The threshold readback (R181, R197): a cluster that reads back its DACs moves on to the next one and ends its round, and the second
deviation in a row of more than 128 codes is WIN_DAC_FAIL, a fault of the cluster where the monitor is enabled; the other clusters read
nothing back. -/
def Obligations.SequencesAndReadback : Prop :=
  (
    ∀ (n : SnsId) (e : Fin 16) (c : ChanId) (raw : Half) (ovr : Bool) (s : State), s.live = true → s.seqChan n e.val = some c →
      let cmd := Instr.scanEntryComplete n (.seq e raw ovr)
      let g := s.seqGain n e.val
      let code := correct c.val g raw
      let x := s.snsC n
      let set := s.entriesOf n x.busy
      let due := x.stopped = false ∧ (if x.busy = 0 then set[x.scanPos]? else set[x.setPos]?) = some e.val
      let last := set.length ≤ x.setPos + 1
      (¬ due → Does cmd s s []) ∧
      (due →
        Completes cmd s (fun t => (t.chan c).code = code ∧ (t.chan c).ovr = ovr ∧
          (t.chan c).val = F.fma (s.par (chanParId c 0)) (pinVolts code g) (s.par (chanParId c 1)) ∧
          (s.accHeld n c = false → (t.chan c).acc = (s.chan c).acc.take code ovr) ∧
          (x.busy = 0 → (t.snsC n).scanPos = x.scanPos + 1 ∧ (t.snsC n).busy = 0) ∧
          (x.busy ≠ 0 → (t.snsC n).scanPos = x.scanPos ∧ (t.snsC n).busy = (if last then 0 else x.busy) ∧
            (t.snsC n).setPos = (if last then 0 else x.setPos + 1)) ∧
          (∀ d, d ≠ c → t.chan d = s.chan d) ∧ (∀ m, m ≠ n → t.snsC m = s.snsC m) ∧ (∀ b, t.brg b = s.brg b) ∧ SameCore s t))) ∧
  (
    ∀ (n : SnsId) (raw : Half) (w : WinId) (s : State), s.live = true →
      let cmd := Instr.scanEntryComplete n (.readback raw)
      let pos := (s.snsC n).dacPos
      let c : Comp := if pos % 2 = 0 then .hi else .lo
      let x := getComp (s.win w) c
      let got := (correct 54 1 raw).toInt + 32768
      let bad := 128 < (got - 64 * Int.ofNat x.code.toNat).natAbs
      let due := (s.snsC n).stopped = false ∧ (s.snsC n).busy = 0 ∧ (s.snsC n).scanPos = (s.entriesOf n 0).length + 1 ∧ 7 ≤ n.val
      (¬ due → Does cmd s s []) ∧
      (due → (winsOf n)[pos / 2]? = some w →
        Completes cmd s (fun t => (t.snsC n).dacPos = (pos + 1) % (2 * snsWins n) ∧ (t.snsC n).scanPos = 0 ∧
          (t.snsC n).rounds = (s.snsC n).rounds + 1 ∧
          (¬ bad → (getComp (t.win w) c).dacBad = 0 ∧ Records s t []) ∧
          (bad → (getComp (t.win w) c).dacBad = x.dacBad + 1) ∧
          (bad → x.dacBad = 1 → (t.win w).dacFail = true) ∧
          (bad → x.dacBad = 1 → s.winOn w = true → InSafe s t (snsReg n) (codeOf 0 (regCode (snsReg n)) 0x146)) ∧
          (∀ v, v ≠ w → t.win v = s.win v) ∧ (∀ d, t.chan d = s.chan d))))

/-- A comparator of an enabled monitor changes (R191, R192): its output follows at once, its filter takes the samples, and the filtered
output becoming active sets the latch bit, with WIN_HIT where it was clear. A monitor that is off or held does not move; the end of a hold
releases it (R193). The trip lands and the slots (R158 to R160, R192): the land's level is kept, an armed bridge with an action 2 slot that
the land turns active is isolated, and one of another region than SPN of which no slot becomes active keeps its switches. No bridge outside
SPN that is not armed changes. The end of a trip window returns the count to zero. -/
def Obligations.WindowsAndTrips : Prop :=
  (
    ∀ (w : WinId) (c : Comp) (level : Bool) (k : Byte) (s : State), s.live = true →
      let x := getComp (s.win w) c
      let h := shiftIn x.hist level (min k.toNat 15)
      let f := majority h (s.parN (winId w 5)) (s.parN (winId w 6))
      let free := s.winOn w = true ∧ (s.win w).hold = false
      (free → Completes (.windowCrossing w c level k) s (fun t =>
        (getComp (t.win w) c).out = level ∧ (getComp (t.win w) c).hist = h ∧ (getComp (t.win w) c).filt = f ∧
        (getComp (t.win w) c).latch = (x.latch || (f && !x.filt)) ∧ (∀ v, v ≠ w → t.win v = s.win v) ∧
        (∀ b, s.isArmed b = false → brgReg b ≠ .spn → t.brg b = s.brg b) ∧ SameCore s t)) ∧
      (free → f = true → x.filt = false → x.latch = false → s.anyArmed = false →
        Completes (.windowCrossing w c level k) s (fun t => Records s t
          [s.event (codeOf 0 (regCode (snsReg (chanPos (winChan w)).1)) 0x142) .note (BitVec.ofNat 8 (snsClu (chanPos (winChan w)).1))
            (BitVec.ofNat 8 w.val) (match c with | .hi => 0 | .lo => 1) 0 0])) ∧
      (¬ free → Does (.windowCrossing w c level k) s s []) ∧
      Completes (.windowHoldRelease w) s (fun t => t.win w = { s.win w with hold := false } ∧ (∀ v, v ≠ w → t.win v = s.win v) ∧
        (∀ b, s.isArmed b = false → brgReg b ≠ .spn → t.brg b = s.brg b) ∧ SameCore s t)) ∧
  (
    ∀ (i : Fin 2) (level : Bool) (b : BridgeId) (s : State), s.live = true →
      let u := { s with tripIn := BitVec.ofNat 2 (if i = 0 then bit level + 2 * bit (s.tripIn.getLsbD 1) else bit (s.tripIn.getLsbD 0) + 2 * bit level) }
      Completes (.tripInChange i level) s (fun t => t.tripIn = u.tripIn ∧ t.tripIn.getLsbD i.val = level ∧
        (s.isArmed b = true → (∃ k, k < 4 ∧ s.slotDoes b k = 2 ∧ s.slotSrc b k = 768 + i.val ∧ (s.brg b).slots.getLsbD k = false ∧ level = true) →
          (t.brg b).arm = .isolated) ∧
        (s.isArmed b = true → brgReg b ≠ .spn → (∀ k, k < 4 → u.slotOn b k = true → (s.brg b).slots.getLsbD k = true) →
          (t.brg b).arm = .armed ∧ (t.brg b).hiOn = (s.brg b).hiOn ∧ (t.brg b).loOn = (s.brg b).loOn) ∧
        (s.isArmed b = false → brgReg b ≠ .spn → t.brg b = s.brg b) ∧ SameCore s t) ∧
      Does (.tripWindowEnd b) s (if (s.brg b).winLeft = 0 then s.modBrg b (fun x => { x with trips := 0 }) else s) [])

/-- The checks of bank T (R194, R195). Step 1 proves the stand-in, and one that fails stops with STANDIN_FAIL; steps 2 to 5 prove the
member: a first miss of step 2 under a steady input has the check repeated, a miss in the repeat or in a later step fails the member, which
is masked and whose group's checks stop; an input that was not steady leaves step 2 unjudged. After step 5 the member's check is done. A
pair that does not check takes no step. -/
def Obligations.StandinChecks : Prop :=
  ∀ (k : Fin 3) (steady : Bool) (s : State), s.live = true →
    let x := s.wst k
    let step := fun (ok : Bool) => Instr.standinCheckStep k ok steady
    let fails := fun (t : State) => (t.wst k).state = 2 ∧ (∀ j, j ≠ k → t.wst j = s.wst j) ∧
      (∀ v, t.win v = if v = winNo x.mon.toNat then { s.win v with failed := true } else s.win v) ∧
      SameButHost { s with wsts := t.wsts, wins := t.wins } t
    (x.state ≠ 1 → ∀ ok, Does (step ok) s s []) ∧
    (x.state = 1 → x.step = 1 → Does (step true) s (s.modWst k (fun y => { y with step := 2 })) [] ∧
      Does (step false) s (s.modWst k (fun y => { y with state := 3, step := 6 })) [s.event (codeOf 1 0 0x144) .note 6 0xFF 0 0 0]) ∧
    (x.state = 1 → x.step = 2 → Does (step true) s (s.modWst k (fun y => { y with step := 3 })) []) ∧
    (x.state = 1 → x.step = 2 → steady = false → Does (step false) s (s.modWst k (fun y => { y with step := 3 })) []) ∧
    (x.state = 1 → x.step = 2 → steady = true → x.again = false →
      Does (step false) s (s.modWst k (fun y => { y with step := 3, bad2 := true })) []) ∧
    (x.state = 1 → x.step = 2 → steady = true → x.again = true → Completes (step false) s fails) ∧
    (x.state = 1 → 3 ≤ x.step → x.step < 5 → Does (step true) s (s.modWst k (fun y => { y with step := y.step + 1 })) []) ∧
    (x.state = 1 → 3 ≤ x.step → Completes (step false) s fails) ∧
    (x.state = 1 → x.step = 5 → x.bad2 = true →
      Does (step true) s (s.modWst k (fun y => { y with state := 0, step := 6, bad2 := false, again := true })) []) ∧
    (x.state = 1 → x.step = 5 → x.bad2 = false →
      Does (step true) s ((s.modWst k (fun y => { y with state := 0, step := 6, again := false })).modWin (winNo x.mon.toNat)
        (fun v => { v with done := true })) [])

/-! ### Regions: charger, traction, span, actuators, thermal (R221 to R226, R254 to R257, R272 to R284, R297, R325, R328) -/

/-- Pilot and proximity (R272 to R274, R276). A pilot period joins the last eight; eight of them between 970 Hz and 1,030 Hz give the duty
its row of R273, and CP_INVALID is recorded as validity is lost. A proximity conversion is taken by three equal rows in a row, and
PP_INVALID is recorded as its rating is lost. A source whose conditions no longer hold is lost at once. Neither touches anything but the
charger's own state. The charger's source and session (R276, R279, R281 to R284). A source valid for `SRC_SETTLE` counts and its limit
starts from 0; a terminated CV session is DONE; the safety timer ends a session with cause TIMER, one that terminates or loses its battery
in the same run apart; a battery that is absent ends it with cause BATTERY; a bus not raised within 1 s of PEER_OUT is a peer fault. Each is
recorded once with its values, changes nothing but the charger's own state, and does nothing where its condition does not hold. -/
def Obligations.ChargerInputs : Prop :=
  (
    ∀ (p h : Word) (v : F32) (s : State), s.live = true →
      let ps := ((p, h) :: s.chg.pilot).take 8
      let good := decide (ps.length = 8) && ps.all pilotOk
      let n := 100 * (dutySum ps).1
      let d := max 1 (8 * (dutySum ps).2)
      let source := fun (t : State) => t.chg.mode = s.chg.mode ∧ t.chg.session = s.chg.session ∧
        (t.acNow = true → t.chg.settling = true ∧ t.chg.srcOk = s.chg.srcOk) ∧
        (t.acNow = false → t.chg.settling = false ∧ t.chg.srcOk = false ∧ t.chg.iSrc = F.zero)
      Completes (.pilotPeriod p h) s (fun t => SameButHost { s with chg := t.chg } t ∧ t.chg.pilot = ps ∧ source t ∧
        (good = true → t.chg.duty = F.ofRat (Int.ofNat n) d ∧ t.chg.icp = (pilotLimit n d).1 ∧ t.chg.pilotOk = (pilotLimit n d).2) ∧
        (good = false → t.chg.pilotOk = false ∧ t.chg.icp = F.zero) ∧
        Records s t (if s.chg.pilotOk && !t.chg.pilotOk then [s.event (codeOf 2 5 0x203) .note 0xF 0xFF t.chg.duty 0 0] else [])) ∧
      Completes (.ppConversion v) s (fun t => SameButHost { s with chg := t.chg } t ∧ t.chg.mode = s.chg.mode ∧
        t.chg.session = s.chg.session ∧
        (∃ b, t.chg.ppBands = (b :: s.chg.ppBands).take 3 ∧ 1 ≤ b ∧ b ≤ 7 ∧
          (t.chg.ppBands = [b, b, b] → t.chg.cable = (ppRow b).2 ∧ t.chg.ipp = (ppRow b).1 ∧ source t ∧
            Records s t (if s.chg.cable ≠ .invalid ∧ (ppRow b).2 = .invalid then [s.event (codeOf 2 5 0x204) .note 0xF 0xFF t.chg.ppOhm 0 0]
              else [])) ∧
          (t.chg.ppBands ≠ [b, b, b] → t.chg.cable = s.chg.cable ∧ t.chg.ipp = s.chg.ipp ∧ t.chg.srcOk = s.chg.srcOk ∧ Records s t [])))) ∧
  (
    ∀ (s : State), s.live = true →
      let c := s.chg
      let ev := fun (num : Nat) (cls : RClass) (d0 d1 : Word) => s.event (codeOf 2 5 num) cls 0xF 0xFF d0 d1 0
      let gap := F.abs (F.sub c.vBatPrev c.absV)
      let settled := c.settling = true ∧ s.acNow = true ∧ c.srcOk = false ∧
        secTicks (s.comP .chg 0x04) ≤ (s.tim.devTime - c.settleAt).toNat
      let term := c.session = .cv ∧ s.termDone = true
      let ran := c.timerRun = false ∧ s.timerLeft = 0
      let beside := term ∨ (c.session = .done ∧ s.termDone = true) ∨ (c.session = .ended ∧ c.absRun = true)
      let runs := c.session = .cc ∨ c.session = .cv
      let absent := c.batAbsent = false ∧ s.parN (comId .chg 0x13) ≤ c.absRuns ∧ F.lt (s.comP .chg 0x11) gap = true
      let unraised := c.mode = .peerOut ∧ c.raised = false ∧ c.peerFault = false ∧ 400000000 ≤ (s.tim.devTime - c.enterAt).toNat
      (settled → Does .sourceValid s (s.modChg (fun c => { c with srcOk := true, iSrc := F.zero })) [ev 0x201 .note s.acMin 0]) ∧
      (¬ settled → Does .sourceValid s s []) ∧
      (term → Does .chargeDone s (s.modChg (fun c => { c with session := .done })) [ev 0x208 .note s.span.iBat (s.comP .chg 0x0F)]) ∧
      (¬ term → Does .chargeDone s s []) ∧
      (ran → runs → ¬ term →
        Does .chgTimerExpired s (s.modChg (fun c => { c with timerRun := true, session := .ended, endCause := .timer }))
          [ev 0x209 .note F.zero (s.comP .chg 0x0E)]) ∧
      (ran → beside → Does .chgTimerExpired s (s.modChg (fun c => { c with timerRun := true })) [ev 0x209 .note F.zero (s.comP .chg 0x0E)]) ∧
      (¬ ran ∨ (¬ runs ∧ ¬ beside) → Does .chgTimerExpired s s []) ∧
      (absent →
        Completes .batteryAbsent s (fun t => SameButHost { s with chg := t.chg } t ∧ t.chg.batAbsent = true ∧ t.chg.mode = c.mode ∧
          (runs → t.chg.session = .ended ∧ t.chg.endCause = .battery) ∧
          (¬ runs → t.chg.session = c.session) ∧
          Records s t [ev 0x20A .limit gap (s.comP .chg 0x11)])) ∧
      (¬ absent → Does .batteryAbsent s s []) ∧
      (unraised → Does .peerRaiseTimeout s (s.modChg (fun c => { c with peerFault := true, peerFaultAt := some s.tim.devTime }))
          [ev 0x20B .limit c.vBus (s.comP .chg 0x09)]) ∧
      (¬ unraised → Does .peerRaiseTimeout s s []))

/-- The rotor of a traction side (R221, R224). A lost rotor is recorded and the decision falls at the next period start, CATCH one later; a
rotor that has locked lets its target follow at the next one; CATCH without lock or standstill for `CATCH_TIMEOUT` takes the region to
REGION-SAFE. Where the condition does not hold nothing happens, and the other side never changes. Flux episodes (R226): told once for as
long as they last, with the reaction `FLUX_REACT` chooses: the record alone, or REGION-SAFE of the side's region; none with `FLUX_REACT` =
0. -/
def Obligations.RotorAndFlux : Prop :=
  (
    ∀ (x : Side) (s : State), s.live = true →
      let t0 := s.tr x
      let r := sideReg x
      let ev := fun (num : Nat) (cls : RClass) (d0 d1 : Word) => s.event (codeOf 2 (regCode r) num) cls 0xF 0xFF d0 d1 0
      let lost := driveMode t0.mode = true ∧ s.parN (comId r 0x05) ≤ t0.nLost ∧ s.isSafe r = false ∧ s.power.devSafe = false
      let seeks := t0.mode = .catch ∧ t0.locked = false ∧ t0.still = false
      let caught := seeks ∧ s.parN (comId r 0x06) ≤ t0.nLock
      let failed := seeks ∧ secTicks (s.comP r 0x07) ≤ t0.catchT
      (lost → Does (.rotorLost x) s (s.modTr x (fun y => { y with
          decide := true, toCatch := 1, target := y.mode, nLost := 0, start := false, blend := 0 })) [ev 0x180 .limit t0.conf (s.comP r 0x04)]) ∧
      (¬ lost → Does (.rotorLost x) s s []) ∧
      (caught → Does (.rotorCaught x) s (s.modTr x (fun y => { y with locked := true })) [ev 0x181 .note t0.conf (s.comP r 0x03)]) ∧
      (¬ caught → Does (.rotorCaught x) s s []) ∧
      (failed →
        Completes (.catchFailed x) s (fun t => InSafe s t r (codeOf 2 (regCode r) 0x183) ∧ OnlyRegion s t r ∧
          t.tr (otherSide x) = s.tr (otherSide x) ∧ Logs s t (ev 0x183 .regionSafe (ticksSec t0.catchT) (s.comP r 0x07)))) ∧
      (¬ failed → Does (.catchFailed x) s s [])) ∧
  (
    ∀ (x : Side) (s : State), s.live = true →
      let r := sideReg x
      let react := s.parN (comId r 0x0D)
      let ev := fun (num : Nat) (cls : RClass) (d1 : Word) => s.event (codeOf 2 (regCode r) num) cls 0xF 0xFF (s.tr x).psi d1 0
      let low := secTicks (s.comP r 0x0C) ≤ (s.tr x).fluxLoT ∧ (s.tr x).loTold = false ∧ react ≠ 0
      let high := secTicks (s.comP r 0x0C) ≤ (s.tr x).fluxHiT ∧ (s.tr x).hiTold = false ∧ react ≠ 0
      (low → react ≠ 2 → Does (.fluxLow x) s (s.modTr x (fun y => { y with loTold := true })) [ev 0x186 .note 0]) ∧
      (high → react ≠ 2 → Does (.fluxHigh x) s (s.modTr x (fun y => { y with hiTold := true })) [ev 0x187 .note 0]) ∧
      (low → react = 2 →
        Completes (.fluxLow x) s (fun t => (t.tr x).loTold = true ∧ InSafe s t r (codeOf 2 (regCode r) 0x186) ∧ OnlyRegion s t r ∧
          t.tr (otherSide x) = s.tr (otherSide x) ∧ Logs s t (ev 0x186 .regionSafe 3))) ∧
      (high → react = 2 →
        Completes (.fluxHigh x) s (fun t => (t.tr x).hiTold = true ∧ InSafe s t r (codeOf 2 (regCode r) 0x187) ∧ OnlyRegion s t r ∧
          t.tr (otherSide x) = s.tr (otherSide x) ∧ Logs s t (ev 0x187 .regionSafe 3))) ∧
      (¬ low → Does (.fluxLow x) s s []) ∧
      (¬ high → Does (.fluxHigh x) s s []))

/-- The chopper, a discharge that takes too long, and a parked actuator (R254, R256, R257, R297). `CH_N_FAIL` checked runs without the
expected current, or with current while the switch is off, isolate the chopper and start the count again; a discharge that has not ended in
`DIS_TIMEOUT` is told once; an actuator that has settled in PARK is told once and parks at the next period start. Thermal sensors and
throttling (R325, R328). A sensor that has disagreed with agreeing neighbours for `N_SENS` periods is declared broken once; a step of a
channel that is neither hot nor restoring, or before `THR_STEP_TIME`, changes nothing; a hot channel's factor falls by `THR_STEP` and not
below 0, a restoring one's rises by it and not above 1, and the time starts again. Where its condition does not hold none of these does
anything. -/
def Obligations.ChopperParkAndHeat : Prop :=
  (
    ∀ (a : ActId) (s : State), s.live = true →
      let p := s.span
      let y := s.actu a
      let timeout := p.mode = .discharge ∧ p.disEnd = false ∧ secTicks (s.comP .spn 0x0B) ≤ p.disT
      let settled := y.mode = .park ∧ y.parked = false ∧ y.parkDue = false ∧ y.settleT ≠ 0 ∧ secTicks (s.lawP (actLaw a) 0x27) ≤ y.settleT
      (s.parN (lawId 7 0x25) ≤ p.chOpen → Completes .chopperOpen s (fun t => Isolates s t .bch 0x1CB ∧ t.span = { p with chOpen := 0 } ∧
        Logs s t (s.brgEvent .bch 0x1CB 35 0 0))) ∧
      (p.chOpen < s.parN (lawId 7 0x25) → Does .chopperOpen s s []) ∧
      (s.parN (lawId 7 0x25) ≤ p.chCond → Completes .chopperConducts s (fun t => Isolates s t .bch 0x1CC ∧ t.span = { p with chCond := 0 } ∧
        Logs s t (s.brgEvent .bch 0x1CC 35 0 0))) ∧
      (p.chCond < s.parN (lawId 7 0x25) → Does .chopperConducts s s []) ∧
      (timeout → Does .disTimeout s (s.modSpan (fun p => { p with disEnd := true }))
          [s.event (codeOf 2 4 0x1D0) .note 0xF 0xFF (ticksSec p.disT) (s.comP .spn 0x0B) 0]) ∧
      (¬ timeout → Does .disTimeout s s []) ∧
      (settled → Does (.actParked a) s (s.modAct a (fun y => { y with parkDue := true }))
          [s.event (codeOf 2 6 0x242) .note 0xF (BitVec.ofNat 8 (a.val + 1)) 0 0 0]) ∧
      (¬ settled → Does (.actParked a) s s [])) ∧
  (
    ∀ (k : Fin 8) (ch : ThrCh) (s : State), s.live = true →
      let j := thIx ch
      let old := s.factor j
      let timed := s.thermOn = true ∧ ch ≠ .c ∧ secTicks (s.lawP 14 0xDB) ≤ s.rwN 14 (rwThrT j.val) * s.periodTicks .sup
      let hot := timed ∧ s.therm.hot.getLsbD j.val = true
      let restores := timed ∧ s.therm.hot.getLsbD j.val = false ∧ s.therm.cool.getLsbD j.val = true ∧ F.lt old F.one = true
      let broken := s.therm.broken.getLsbD k.val = false ∧ s.thermOn = true ∧ s.parN (lawId 14 0xD0) ≤ s.rwN 14 (rwSensDis k.val)
      let moved := fun (new : F32) (t : State) => SameButHost { s with laws := t.laws } t ∧ (∀ m, m ≠ 14 → t.law m = s.law m) ∧
        ((s.law 14).active ≠ [] → t.factor j = new ∧ t.rwN 14 (rwThrT j.val) = 0 ∧ ∀ i, i ≠ j → i ≠ 5 → t.factor i = s.factor i)
      (broken → Does (.sensBroken k) s ((s.setRw 14 (rwSensOk k.val) F.zero).modTherm (fun y => { y with
          broken := y.broken ||| BitVec.ofNat 8 (2 ^ k.val) }))
          [s.event (codeOf 2 0 0x284) .note 0xF (BitVec.ofNat 8 (32 + k.val)) 0 (s.lawP 14 0xCF) 0]) ∧
      (¬ broken → Does (.sensBroken k) s s []) ∧
      (hot → Completes (.throttleStep ch) s (moved (F.max (F.sub old (s.lawP 14 0xDA)) F.zero))) ∧
      (restores → Completes (.throttleStep ch) s (moved (F.min (F.add old (s.lawP 14 0xDA)) F.one))) ∧
      (¬ hot → ¬ restores → Does (.throttleStep ch) s s []))

/-! ### Host link (R334 to R354, R379) -/

/-- The CRC-32C of the manifests (R344): polynomial 0x1EDC6F41, reflected, initial value and final XOR all ones, bytes in address order;
over "123456789" it is 0xE3069283; the return manifest carries the same CRC of its bytes. -/
def Obligations.ManifestCrc : Prop :=
  crcAlg 4 = { width := 32, poly := 0x1EDC6F41, init := 0xFFFFFFFF, refl := true, xor := 0xFFFFFFFF } ∧
  (∀ xs, crc32c xs = BitVec.ofNat 32 (crcOf (crcAlg 4) xs)) ∧
  crc32c [0x31, 0x32, 0x33, 0x34, 0x35, 0x36, 0x37, 0x38, 0x39] = 0xE3069283 ∧
  (∀ m : BitVec 1024, manGood m = true → manWord m 124 = crc32c ((List.range 124).map (fun i => m.extractLsb' (8 * i) 8))) ∧
  (∀ r : RetMan, r.crc = crc32c r.bytes)

/-- Manifest reads (R343 to R346, R467). One is fetched in a tide while the device masters the bus and fewer reads are outstanding than R334
permits; otherwise none is. The oldest completes: late, or with a bad format or CRC, it is recorded and not used; a good one gives the
heartbeat, the commit gate, the host time and every index of an enabled ring that its size allows, and opens ring 3. None touches anything
but the host interface. Descriptor reads of ring 0 (R347, R351, R352, R354). The entries of the oldest read move the device index past them
and are due at a slack point; one that names a coming tide waits for it, one that names a tide that has passed is late; while the host is
lost they are discarded. Entries of another number than the read asked for, and a read that is not outstanding, change nothing. -/
def Obligations.HostReads : Prop :=
  (
    ∀ (m : BitVec 1024) (s : State), s.live = true →
      (s.mastering = true → s.host.manTide ≠ some s.tim.tideIndex → s.host.reads.length + s.host.manOut.length < s.tags →
        Does .manifestFetch s (s.modHost (fun h => { h with
          manTide := some s.tim.tideIndex, manOut := h.manOut ++ [s.tim.tideIndex] })) []) ∧
      (s.mastering = false ∨ s.host.manTide = some s.tim.tideIndex ∨ s.tags ≤ s.host.reads.length + s.host.manOut.length →
        Does .manifestFetch s s []) ∧
      (s.hears = false ∨ s.host.manOut = [] → Does (.manifestReadComplete m) s s []) ∧
      (∀ t0 rest, s.hears = true → s.host.manOut = t0 :: rest →
        let popped := s.modHost (fun h => { h with manOut := rest })
        (t0 ≠ s.tim.tideIndex → Does (.manifestReadComplete m) s popped [s.event (codeOf 1 1 0x2A3) .note 0 0xFF 0 0 0]) ∧
        (t0 = s.tim.tideIndex → manGood m = false →
          Does (.manifestReadComplete m) s popped [s.event (codeOf 1 1 0x2A2) .note 0 0xFF 0 0 0]) ∧
        (t0 = s.tim.tideIndex → manGood m = true →
          Completes (.manifestReadComplete m) s (fun t => t = { s with host := t.host, evq := [] } ∧ t.host.manOut = rest ∧
            t.host.hb = manWord m 4 ∧ t.host.hbSeen = true ∧ t.host.commit = manWord m 8 ∧ t.host.hostTime = m.extractLsb' 384 64 ∧
            t.host.open3 = true ∧ (s.host.hbSeen = true → manWord m 4 = s.host.hb → t.host.beat = s.host.beat ∧ t.host.lost = s.host.lost) ∧
            (manWord m 4 ≠ s.host.hb → t.host.beat = true ∧ t.host.lost = false) ∧
            ∀ n : RingId, (t.ring n).hostIdx =
              if ringEnabled s n = true ∧ s.filledBy n (manIdx m n) ≤ ringSize s n then manIdx m n else (s.ring n).hostIdx)))) ∧
  (
    ∀ (es : List Entry) (s : State), s.live = true →
      (∀ n, s.hears = false ∨ s.host.reads.find? (fun r => decide (r.1 = n)) = none → Does (.descriptorReadComplete n es) s s []) ∧
      (∀ n r, s.host.reads.find? (fun r => decide (r.1 = n)) = some r → es.length ≠ r.2 → Does (.descriptorReadComplete n es) s s []) ∧
      (s.hears = true → s.host.reads.find? (fun r => decide (r.1 = 0)) = some (0, es.length) →
        let moved := fun (t : State) => t = { s with host := t.host, evq := [] } ∧
          (t.ring 0).devIdx = (s.ring 0).devIdx + BitVec.ofNat 16 es.length ∧ (t.ring 0).hostIdx = (s.ring 0).hostIdx
        (s.host.lost = true → Completes (.descriptorReadComplete 0 es) s (fun t => moved t ∧ t.host.due = s.host.due ∧
          t.host.deferred = s.host.deferred)) ∧
        (s.host.lost = false → (∀ e ∈ es, hdrAt (hdrOf e) = false) →
          Completes (.descriptorReadComplete 0 es) s (fun t => moved t ∧ t.host.deferred = s.host.deferred ∧
            t.host.due = s.host.due ++ es.map (fun e => { entry := e, readAt := s.tim.devTime }))) ∧
        (∀ e, es = [e] → s.host.lost = false → hdrAt (hdrOf e) = true →
          let ahead := (wordAt e 4 - s.tim.tideIndex).toNat
          Completes (.descriptorReadComplete 0 es) s (fun t => moved t ∧ t.host.due = s.host.due ∧
            t.host.deferred = (if ahead = 0 ∨ 65536 ≤ ahead ∨ 16 ≤ s.host.deferred.length then s.host.deferred else s.host.deferred ++ [e]) ∧
            (ahead = 0 ∨ 65536 ≤ ahead → Records s t [s.event (codeOf 1 1 0x2A6) .note 0 0xFF 0 0 (halfAt e 2)])))))

/-- Reads that fail and the link (R334, R336, R337, R451). A timed-out completion abandons the oldest manifest read, or every read of its
ring, with HOST_READ_TIMEOUT, and nothing where no such read is outstanding; a discarded completion does the same, and every discarded TLP
is counted. A reset of the link clears the fetch state and returns the HST registers to their reset values, with PCIE_LINK_DOWN; parameters,
slots, bridges, law engines, the count of missed tides and every other setup register stay, and of the timing state only HST cluster 0x0
locks again. A configuration write, which ends D3hot, and the link's coming up take effect at once. The host-loss reaction (R346, R347):
fetched and deferred records are discarded, CHG goes to OFF, which disarms its bridges, the stored set-points of torque, power, bus voltage
and charge current are zero; the link floor and the traction and span modes stay. It comes with HOST_LOST at the tide boundary that ends the
last missed tide, and not before; and with a fault of the host endpoint, which stops the bus, with HST in REGION-SAFE. With HST or the
device in its safe state such a fault stops the bus and changes nothing else. -/
def Obligations.HostLink : Prop :=
  (
    ∀ (s : State), s.live = true →
      let timeout := [s.event (codeOf 1 1 0x2A9) .note 0 0xFF 0 0 0]
      let counted := fun (u : State) => u.modHost (fun h => { h with aer := h.aer + 1 })
      (∀ t0 rest, s.host.manOut = t0 :: rest →
        let u := s.modHost (fun h => { h with manOut := rest })
        Does (.hostReadTimeout .manifest) s u timeout ∧ Does (.tlpDiscard (.completion .manifest)) s (counted u) timeout) ∧
      (s.host.manOut = [] →
        Does (.hostReadTimeout .manifest) s s [] ∧ Does (.tlpDiscard (.completion .manifest)) s (counted s) []) ∧
      (∀ n, s.inFlight n ≠ 0 →
        let u := s.modHost (fun h => { h with
          reads := h.reads.filter (fun r => decide (r.1 ≠ n)), toRead := h.toRead.filter (fun r => decide (r.1 ≠ n)) })
        let v := match ringCan n with
          | some c => u.modCan c (fun x => { x with part := [] })
          | none => u
        Does (.hostReadTimeout (.ring n)) s v timeout ∧ Does (.tlpDiscard (.completion (.ring n))) s (counted v) timeout) ∧
      (∀ n, s.inFlight n = 0 →
        Does (.hostReadTimeout (.ring n)) s s [] ∧ Does (.tlpDiscard (.completion (.ring n))) s (counted s) []) ∧
      Does (.tlpDiscard .other) s (counted s) [] ∧
      (∀ k, Completes (.pcieReset k) s (fun t => t.host.running = false ∧ t.host.reads = [] ∧ t.host.manOut = [] ∧ t.host.due = [] ∧
        t.host.linkUp = (decide (k = .d3hot) && s.host.linkUp) ∧ t.host.d3hot = decide (k = .d3hot) ∧ t.txn = s.txn ∧ t.params = s.params ∧
        t.tim = (s.relock .hst 1).tim ∧ t.bridges = s.bridges ∧ t.laws = s.laws ∧ t.setup = s.setup.filter (fun v => !hstReg v.1) ∧
        t.setupPend = s.setupPend.filter (fun v => !hstReg v.1) ∧
        t.host.missed = s.host.missed ∧ Records s t [s.event (codeOf 1 1 0x2AE) .note 0 0xFF 0 0 0])) ∧
      Does .pcieLinkUp s (s.modHost (fun h => { h with linkUp := true })) [] ∧
      (∀ c, Does (.pcieConfigWrite c) s (s.modHost (fun h => { h with cfg := c, d3hot := false })) [])) ∧
  (
    ∀ (s : State), s.live = true →
      let at_ : State := { s with tim := { (s.reach s.boundaryTime).tim with tideIndex := s.tideNext } }
      let reacted := fun (t : State) => t.host.due = [] ∧ t.host.deferred = [] ∧ t.host.toRead = [] ∧ t.host.lost = true ∧
        t.chg.mode = .off ∧ (s.chg.mode ≠ .off → ∀ b ∈ regBridges .chg, s.isArmed b = true → (t.brg b).arm = .disarmed) ∧
        (∀ l ∈ ([1, 4, 8, 9, 10] : List LawId), (t.law l).ringSp = F.zero ∧ (t.law l).ringMz = F.zero) ∧
        (t.law 7).ringSp = (s.law 7).ringSp ∧ (∀ x, (t.tr x).mode = (s.tr x).mode) ∧ t.span.mode = s.span.mode ∧
        t.params = s.params ∧ t.setup = s.setup
      (s.lossDue = true → Completes .hostLost s (fun t => reacted t ∧
        Logs s t (at_.event (codeOf 2 1 0x2A0) .limit 0xF 0xFF (F.ofNat (s.host.missed.toNat + 1)) (F.ofNat (s.cfgF 0x2018 0 8)) 0))) ∧
      (s.lossDue = false → Does .hostLost s s []) ∧
      (s.power.devSafe = false → s.isSafe .hst = false →
        Completes .hostEndpointFault s (fun t => reacted t ∧ t.isSafe .hst = true ∧ t.host.stopped = true)) ∧
      (s.power.devSafe = true ∨ s.isSafe .hst = true →
        Does .hostEndpointFault s (s.modHost (fun h => { h with stopped := true })) []))

/-- On HOST_LOST every slot that is OPEN, DOOMED or PENDING is rolled back with reason HOST_LOST, and TXN_ROLLED_BACK is raised for each; a
PREPARED slot stays and proceeds under its own rules (R379). -/
def Obligations.HostLossRollsBack : Prop :=
  ∀ (k : SlotId) (s : State), s.live = true → s.lossDue = true →
    let x := s.slot k
    let at_ : State := { s with tim := { (s.reach s.boundaryTime).tim with tideIndex := s.tideNext } }
    Completes .hostLost s (fun t =>
      (x.state = .open ∨ x.state = .doomed ∨ x.state = .pending → (t.slot k).state = .closed ∧
        Logs s t (at_.event (codeOf 1 1 0x2B4) .note 0 (BitVec.ofNat 8 k.val) 12 0 x.tag)) ∧
      (x.state = .prepared → t.slot k = x) ∧ (x.state = .closed → (t.slot k).state = .closed))

/-! ### Registers and ports (R14 to R19, R61, R185, R188, R338 to R342, R364, R433, R478) -/

/-- A write of a setup register over a port that may write (R14, R17, R18, R69, R341, R342, R364). One that a rule bars is refused with
SETUP_WRITE_REFUSED and changes nothing. Otherwise its writable bits read back: at once in force, or pending while what is in force stays
until the period start or the tide boundary; no other register changes. `HST.CTRL` is written the same way, with `RUN` set or clear. An SPI
frame writes the register whose four bytes are complete, bits [7:0] first. Writes that are discarded (R14, R19, R341, R342, R478). Over SPI
with `STRAP_SPIW` low, and from 0xC000 on always, each register is refused with SPI_WRITE_REFUSED; an SPI frame at an offset that is no
multiple of 4, with another command byte, or without four bytes of data is ignored; a write of the serial number, which is trim, is refused
with TRIM_WRITE_REFUSED; a write of a read-only register does nothing. -/
def Obligations.SetupRegisterWrites : Prop :=
  (
    ∀ (p : Port) (s : State), s.answers = true → (p = .spi → s.power.straps.spiw = true) → mapWf setupReset s.setup = true →
      let takes := fun (c : Instr) (o : Nat) (v : Word) => ∀ r, setupRow o = some r →
        let x := v &&& BitVec.ofNat 32 r.mask
        (s.writeBarred o x = true → Completes c s (fun t => SameButHost s t ∧
          Records s t [s.event (codeOf 1 1 0x2AC) .note 0 0xFF 0 0 0])) ∧
        (s.writeBarred o x = false → Completes c s (fun t => SameButHost { s with setup := t.setup, setupPend := t.setupPend } t ∧
          Records s t [] ∧ (∀ q, q ≠ o → t.cfg q = s.cfg q ∧ t.cfgRead q = s.cfgRead q) ∧
          (r.app = .atOnce → t.cfg o = x ∧ t.setupPend = s.setupPend) ∧ (r.app ≠ .atOnce → t.cfgRead o = x ∧ t.setup = s.setup)))
      (∀ o v, takes (.registerWrite p (BitVec.ofNat 16 o) 15 v) o v ∧ takes (.timingSetupWrite p (BitVec.ofNat 16 o) v) o v ∧
        (p = .spi → ∀ b0 b1 b2 b3 : Byte, v = b3 ++ b2 ++ b1 ++ b0 → ∀ cut : List Byte, cut.length < 4 →
          takes (.spiWrite ⟨2, BitVec.ofNat 16 o⟩ ([b0, b1, b2, b3] ++ cut)) o v)) ∧
      (∀ v, takes (.hstRunSet p v) 0x2000 (v ||| 1) ∧ takes (.hstRunClear p v) 0x2000 (v &&& ~~~1))) ∧
  (
    ∀ (ofs : Half) (v : Word) (s : State), s.answers = true →
      let refused := s.event (codeOf 1 1 0x2AB) .note 0 0xFF 0 0 0
      (ofs.toNat % 4 = 0 → (s.power.straps.spiw = false ∨ 0xC000 ≤ ofs.toNat) →
        Does (.registerWrite .spi ofs 15 v) s s [refused] ∧ Does (.w1cWrite .spi ofs 15 v 0) s s [refused] ∧
        Does (.timingSetupWrite .spi ofs v) s s [refused] ∧
        ∀ bytes : List Byte, 4 ≤ bytes.length → bytes.length < 8 → Does (.spiWrite ⟨2, ofs⟩ bytes) s s [refused]) ∧
      (ofs.toNat % 4 = 0 → s.power.straps.spiw = false → ∀ bytes : List Byte, bytes.length < 60 →
        Does (.spiWrite ⟨2, ofs⟩ bytes) s s (List.replicate (bytes.length / 4) refused)) ∧
      (∀ (cmd : Byte) (bytes : List Byte), cmd ≠ 2 ∨ ofs.toNat % 4 ≠ 0 ∨ bytes.length < 4 → Does (.spiWrite ⟨cmd, ofs⟩ bytes) s s []) ∧
      (ofs = 0x10 ∨ ofs = 0x14 → Does (.registerWrite .pcie ofs 15 v) s s [s.event (codeOf 4 7 0x366) .note 0xFF 0xFF 0 0 0]) ∧
      (ofs = 0x00 ∨ ofs = 0x04 ∨ ofs = 0x08 ∨ ofs = 0x0C ∨ ofs = 0x1014 ∨ ofs = 0x1040 ∨ ofs = 0x1048 →
        Does (.registerWrite .pcie ofs 15 v) s s []))

/-- BAR0 accepts aligned 32-bit accesses only. A write whose byte enables are not all set, or which is not aligned to 4 bytes, is discarded
and raises HOST_ACCESS_BAD. A read of fewer bytes returns the bytes of the containing register. A read of an RC field clears it only when
all four byte enables are set (R338). What a read captures (R61, R185) it captures in every case. -/
def Obligations.HostAccesses : Prop :=
  ∀ (o : Half) (be : BitVec 4) (v n : Word) (s : State), s.answers = true →
    let reg := o.toNat - o.toNat % 4
    let u := s.captures .pcie reg
    let bad := [s.event (codeOf 1 1 0x2AA) .note 0 0xFF 0 0 0]
    (be ≠ 15 ∨ o.toNat % 4 ≠ 0 → Does (.registerWrite .pcie o be v) s s bad ∧ Does (.w1cWrite .pcie o be v n) s s bad) ∧
    (o.toNat % 4 ≠ 0 → Does (.timingSetupWrite .pcie o v) s s bad) ∧
    (be ≠ 15 → Completes (.rcRead .pcie o be n) s (fun t => SameButHost { u with readOut := t.readOut } t ∧ Records s t [] ∧
      ∃ w, t.readOut = [w] ∧ w &&& byteMask be = readReg u .pcie reg &&& byteMask be)) ∧
    Does (.rcRead .pcie o 15 n) s { u.clearRc reg n with readOut := [readReg u .pcie reg] } []

/-- Bits that clear (R14, R15, R342). Writing 1 to a W1C bit clears it and 0 leaves it; an RC field reads its value and clears, over PCIe
with all byte enables alone; what the device sets in the same cycle stays set in both. Shown for `TIM.STATUS.SETUP_REFUSED`, `SNS.LQ_OVF`,
`DBG.STATUS.REFUSED`, the count of lost events and the crossings lost. Reads that capture or remove (R61, R185, R188, R342). Each port keeps
its own captures: of device time, and of a channel's snapshot; a read of the latch queue over PCIe removes its oldest word, over SPI it does
not, and an empty queue reads zero. An SPI read frame with its dummy byte returns its registers in order, each after its captures, the
offset advancing by 4 and wrapping, and clears nothing; a frame with another command byte or at an offset that is no multiple of 4 is
ignored (R341). -/
def Obligations.ReadsThatClearOrCapture : Prop :=
  (
    ∀ (v n : Word) (s : State), s.answers = true →
      Does (.w1cWrite .pcie 0x1030 15 v n) s
        (s.modTim (fun t => { t with refused := (t.refused && !v.getLsbD 4) || n.getLsbD 4 })) [] ∧
      (∀ k : SnsId, Does (.w1cWrite .pcie (BitVec.ofNat 16 (0x8000 + 0x100 * k.val)) 15 v n) s
        (s.modSns k (fun y => { y with lqOvf := (y.lqOvf && !v.getLsbD 1) || n.getLsbD 1 })) []) ∧
      Does (.w1cWrite .pcie 0xC014 15 v n) s
        (s.modDbg (fun d => { d with refused := (d.refused && !v.getLsbD 1) || n.getLsbD 1 })) [] ∧
      Completes (.rcRead .pcie 0x2024 15 n) s (fun t => t.readOut = [BitVec.ofNat 32 s.host.evLost.toNat] ∧
        t.host.evLost = n.extractLsb' 0 16 ∧ SameButHost { s with readOut := t.readOut, host := { s.host with evLost := t.host.evLost } } t) ∧
      Completes (.rcRead .pcie 0x9014 15 n) s (fun t => t.readOut = [BitVec.ofNat 32 s.haws.lost.toNat] ∧
        SameButHost { s with readOut := t.readOut, haws := { s.haws with lost := n.extractLsb' 0 16 } } t) ∧
      Does (.rcRead .spi 0x9014 15 n) s { s with readOut := [BitVec.ofNat 32 s.haws.lost.toNat] } []) ∧
  (
    ∀ (s : State), s.answers = true →
      Does (.devtimeCapture .pcie) s { s with tim := { s.tim with capPcie := s.tim.devTime }, readOut := [s.tim.devTime.extractLsb' 0 32] } [] ∧
      Does (.devtimeCapture .spi) s { s with tim := { s.tim with capSpi := s.tim.devTime }, readOut := [s.tim.devTime.extractLsb' 0 32] } [] ∧
      (∀ c : ChanId,
        let u := s.modChan c (fun x => { x with capPcie := x.snap })
        let w := s.modChan c (fun x => { x with capSpi := x.snap })
        Does (.accCapture .pcie c) s { u with readOut := [readReg u .pcie (accOfs c)] } [] ∧
        Does (.accCapture .spi c) s { w with readOut := [readReg w .spi (accOfs c)] } []) ∧
      (∀ k : SnsId, ((s.snsC k).lq = [] → Completes (.lqDataRead .pcie k) s (fun t => t.readOut = [0] ∧ (t.snsC k).lq = [])) ∧
        (∀ x xs, (s.snsC k).lq = x :: xs →
          Does (.lqDataRead .pcie k) s { s.modSns k (fun y => { y with lq := xs }) with readOut := [x] } [] ∧
          Does (.lqDataRead .spi k) s { s with readOut := [x] } [])) ∧
      (∀ (o : Half) (bytes : List Byte),
        let reg := fun i => (o.toNat + 4 * i) % 0x10000
        let read := fun i => (List.range i).foldl (fun u j => u.captures .spi (reg j)) s
        (∀ k, o.toNat % 4 = 0 → bytes.length = 1 + 4 * k →
          Does (.spiRead ⟨3, o⟩ bytes) s
            { read k with readOut := (List.range k).map (fun i => readReg (read (i + 1)) .spi (reg i)) } []) ∧
        (∀ cmd, cmd ≠ 3 ∨ o.toNat % 4 ≠ 0 → Does (.spiRead ⟨cmd, o⟩ bytes) s s [])))

/-! ### Debug and the check-value units (R42 to R45, R129 to R132, R170, R171, R430, R433) -/

/-- Halting, stepping and resuming a law cluster (R43, R129, R131, R132, R381). A halt that R43, a triad not triplex or a PREPARED slot
forbids is refused with its reason, which the spec does not state for the last; an accepted one takes effect at once between runs, else when
the run ends. A step of a halted cluster advances its run, which from cycle 0 takes the pins of this moment, and whose outputs are not
passed on. A resume whose ACTIVE replicas form one signature runs again from the first S after the signature time; one that differs from an
agreeing pair is darned; without an agreeing pair the triad splits and the cluster stays halted. A write of the selected word goes to all
three replicas of a halted cluster, and is refused otherwise. Halting and resuming a bridge and a region (R43, R45, R171, R381). A halted
bridge has both switches off and keeps its arm state for the resume, which takes effect at the period start; an isolated one stays isolated,
with BRG_HALTED (the model's choice, log 27). A region's halt waits for its period start, and is refused with the first case of R45; its
resume returns its bridges DISARMED and restarts its sense sequences. A selector that names no bridge or no region, and a cluster, bridge or
region that stands so already, change nothing. -/
def Obligations.DebugHalts : Prop :=
  (
    ∀ (s : State), s.answers = true →
      let l := s.dbgLaw
      let x := s.law l
      let clu : Byte := BitVec.ofNat 8 (lawClu l)
      let ev := fun (num : Nat) (cls : RClass) (unit : Byte) (d0 : Word) => s.event (codeOf 1 (regCode (lawReg l)) num) cls clu unit d0 0 0
      let no := fun (u : State) => u.modDbg (fun d => { d with refused := true })
      let fresh := x.halted = false ∧ x.haltReq = false
      let may := fresh ∧ s.mayHalt (lawBridges l) = true ∧ x.triplex = true
      let prep := s.prepHolds (lawId l 0 / 256)
      (¬ fresh → Does .dbgHalt s s []) ∧
      (fresh → s.mayHalt (lawBridges l) = false → Does .dbgHalt s (no s) [ev 0x8D .note clu 1]) ∧
      (fresh → s.mayHalt (lawBridges l) = true → x.triplex = false →
        Does .dbgHalt s (no s) [ev 0x8D .note (BitVec.ofNat 8 x.firstOut) 2]) ∧
      (may → prep = true → ∃ why, Does .dbgHalt s (no { s with free := s.free + 1 }) [ev 0x8D .note clu why]) ∧
      (may → prep = false → x.flight = none →
        Does .dbgHalt s (s.modLaw l (fun y => { y with haltReq := false, halted := true, cycle := formCycles (lawForm l) })) [ev 0x8E .note 0xFF 0]) ∧
      (may → prep = false → x.flight ≠ none → Does .dbgHalt s (s.modLaw l (fun y => { y with haltReq := true })) []) ∧
      (∀ pins o, x.halted = false ∨ x.flight = none → Does (.dbgStep pins o) s s []) ∧
      (∀ pins o f, x.halted = true → x.flight = some f → x.cycle + s.dbg.stepCount.toNat < formCycles (lawForm l) →
        Does (.dbgStep pins o) s (s.modLaw l (fun y => { y with
          cycle := y.cycle + s.dbg.stepCount.toNat
          flight := some (if x.cycle = 0 then { f with pins := pins, agreed := agree (x.heard.map (triGet pins)) } else f) })) []) ∧
      (∀ pins o f, x.halted = true → x.flight = some f → formCycles (lawForm l) ≤ x.cycle + s.dbg.stepCount.toNat →
        Completes (.dbgStep pins o) s (fun t => (t.law l).flight = none ∧ (t.law l).cycle = formCycles (lawForm l) ∧
          ∀ b ∈ lawBridges l, (t.brg b).hold = (s.brg b).hold)) ∧
      (∀ a, x.halted = false → Does (.dbgResume a) s s []) ∧
      (∀ a, x.halted = true →
        let same := fun (i j : RepId) => x.resumeSame l a i j
        let back := s.modLaw l (fun y => { y with
          halted := false, haltReq := false, cycle := 0, flight := none
          resumeAt := s.tim.devTime + BitVec.ofNat 64 (if l = 14 then 808 else 424) })
        (2 ≤ x.active.length → (∀ i ∈ x.active, ∀ j ∈ x.active, same i j = true) → Does (.dbgResume a) s back []) ∧
        (∀ k ∈ x.active, x.active.length = 3 → (∀ i ∈ x.active, ∀ j ∈ x.active, i ≠ k → j ≠ k → same i j = true) →
          (∀ i ∈ x.active, i ≠ k → same i k = false ∧ same k i = false) →
          Does (.dbgResume a) s (back.modLaw l (fun y => {
            y.modRep k (fun r => { r.noSpread with st := .darning, joins := false }) with darnDue := some k })) []) ∧
        ((∀ i ∈ x.active, ∀ j ∈ x.active, i ≠ j → same i j = false) →
          Completes (.dbgResume a) s (fun t => SameButHost { s with regions := t.regions } t ∧ (t.reg (lawReg l)).safeDue ≠ none ∧
            (∀ q, q ≠ lawReg l → t.reg q = s.reg q) ∧ Records s t [ev 0x8A .regionSafe 0xFF 0]))) ∧
      (∀ v, x.halted = true → s.dbg.addr.toNat < runLen (lawForm l) →
        Does (.dbgDataWrite v) s (s.modLaw l (fun y => y.setAll s.dbg.addr.toNat v)) []) ∧
      (∀ v, x.halted = false ∨ runLen (lawForm l) ≤ s.dbg.addr.toNat → Does (.dbgDataWrite v) s (no s) [])) ∧
  (
    ∀ (s : State), s.answers = true →
      (dbgBrg s = none → Does .dbgBrgHalt s s [] ∧ Does .dbgBrgResume s s []) ∧
      (regOf s.dbg.regSel.toNat = none → Does .dbgRegHalt s s []) ∧
      (∀ a, (∀ q, (s.reg q).halted = false ∨ (s.reg q).resumeReq = true) → Does (.dbgRegResume a) s s []) ∧
      (∀ b, dbgBrg s = some b →
        let clu : Byte := BitVec.ofNat 8 (brgClu b)
        let ev := fun (num : Nat) (unit : Byte) (d0 : Word) => s.event (codeOf 1 (regCode (brgReg b)) num) .note clu unit d0 0 0
        let no := fun (u : State) => u.modDbg (fun d => { d with brgRefused := true })
        let may := (s.brg b).arm ≠ .halted ∧ s.mayHalt [b] = true
        let prep := s.prepHolds (brgId b 0 / 256)
        ((s.brg b).arm = .halted → Does .dbgBrgHalt s s []) ∧
        ((s.brg b).arm ≠ .halted → s.mayHalt [b] = false → Does .dbgBrgHalt s (no s) [ev 0xD3 clu 1]) ∧
        (may → prep = true → ∃ why, Does .dbgBrgHalt s (no { s with free := s.free + 1 }) [ev 0xD3 clu why]) ∧
        (may → prep = false → s.isIso b = true → Does .dbgBrgHalt s s [ev 0xD2 0xFF 0]) ∧
        (may → prep = false → s.isIso b = false →
          Does .dbgBrgHalt s (s.modBrg b (fun x => { x with
            arm := .halted, before := x.arm, resume := false, cmdHi := false, cmdLo := false, hiOn := false, loOn := false, gap := none }))
            [ev 0xD2 0xFF 0]) ∧
        ((s.brg b).arm = .halted → (s.reg (brgReg b)).halted = false →
          Does .dbgBrgResume s (s.modBrg b (fun x => { x with resume := true })) []) ∧
        ((s.brg b).arm ≠ .halted ∨ (s.reg (brgReg b)).halted = true → Does .dbgBrgResume s s [])) ∧
      (∀ r, regOf s.dbg.regSel.toNat = some r →
        (s.regHalt r = true → Does .dbgRegHalt s s []) ∧
        (s.regHalt r = false → s.regHaltCase r = 0 → Does .dbgRegHalt s (s.modReg r (fun x => { x with haltReq := true })) []) ∧
        (s.regHalt r = false → s.regHaltCase r ≠ 0 → Does .dbgRegHalt s (s.modDbg (fun d => { d with regRefused := true }))
          [s.event (codeOf 2 (regCode r) 0x90) .note 0xF 0xFF (BitVec.ofNat 32 (s.regHaltCase r)) 0 0])) ∧
      (∀ r a, (s.reg r).halted = true → (s.reg r).resumeReq = false → (∀ q, q ≠ r → (s.reg q).halted = false) →
        Completes (.dbgRegResume a) s (fun t => (t.reg r).resumeReq = true ∧ (t.reg r).halted = true ∧
          (∀ c ∈ regBridges r, (s.brg c).arm = .halted → (t.brg c).arm = .disarmed) ∧ (∀ c, c ∉ regBridges r → t.brg c = s.brg c) ∧
          (∀ n ∈ regSns r, (t.snsC n).stopped = false ∧ (t.snsC n).scanPos = 0) ∧ (∀ l, l ∉ regLaws r → t.law l = s.law l) ∧ SameCore s t)))

/-- The host's feeds and writes of a check-value unit (R430, R433). A unit in host use, or in a CAN use of a controller off the bus, takes
the bytes least significant first and counts them, restarts with its algorithm's initial value and no reference (log 54), and takes its
context as written; any other such write is refused with SETUP_WRITE_REFUSED and changes nothing. -/
def Obligations.CheckUnitWrites : Prop :=
  ∀ (p : Port) (n : ChkId) (s : State), s.answers = true → (p = .spi → s.power.straps.spiw = true) →
    let a := crcAlg (s.parN (chkParId n 1))
    let fed := fun (xs : List Byte) => s.modChk n (fun c => { c with
      value := BitVec.ofNat 32 (xs.foldl (crcFeed a) (c.value.toNat % 2 ^ a.width)), length := c.length + BitVec.ofNat 32 xs.length })
    let refused := fun (c : Instr) => Does c s s [s.event (codeOf 1 1 0x2AC) .note 0 0xFF 0 0 0]
    (s.chkOpen n = true →
      (∀ v, Does (.chkFeedB p n v) s (fed [v]) []) ∧
      (∀ v, Does (.chkFeedH p n v) s (fed [v.extractLsb' 0 8, v.extractLsb' 8 8]) []) ∧
      (∀ v, Does (.chkFeedW p n v) s (fed [v.extractLsb' 0 8, v.extractLsb' 8 8, v.extractLsb' 16 8, v.extractLsb' 24 8]) []) ∧
      Does (.chkRestart p n) s (s.modChk n (fun c => { c with value := BitVec.ofNat 32 a.init, length := 0, ref := false })) [] ∧
      (∀ v, Does (.chkContextWrite p n .value v) s (s.modChk n (fun c => { c with value := v })) []) ∧
      (∀ v, Does (.chkContextWrite p n .alive v) s (s.modChk n (fun c => { c with alive := v.extractLsb' 0 8 })) []) ∧
      (∀ v, Does (.chkContextWrite p n .length v) s (s.modChk n (fun c => { c with length := v })) [])) ∧
    (s.chkOpen n = false → ∀ v : Word,
      refused (.chkFeedB p n (v.extractLsb' 0 8)) ∧ refused (.chkFeedH p n (v.extractLsb' 0 16)) ∧ refused (.chkFeedW p n v) ∧
      refused (.chkRestart p n) ∧ refused (.chkContextWrite p n .value v) ∧ refused (.chkContextWrite p n .alive v) ∧
      refused (.chkContextWrite p n .length v))

/-! ### Triads and self-tests (R122 to R127, R469 to R476) -/

/-- Darning (R122 to R125). With two replicas ACTIVE and no run in flight the parameter copy of a replica waiting to be darned is made from
the lower-numbered one. A good check, of what the target reads back of its storage, lets the target join at the next S with the source's run
state, with DARN_DONE; the first bad one repeats the copy, and the second retires the replica with DARN_FAILED and REPLICA_RETIRED; a commit
meanwhile starts the copy again. The slot of a washed replica ends with its darning, and the rotation moves on. Wash rotation (R127, R474,
R475). A slot begins at the end of a clean run of the position's engine when that runs triplex and unhalted, `WASH.SPACING` after the last
slot: its replica is washed, and with the shadow test on the next free bank holder is tested. With rotation off, in brownout hold, in
DEVICE-SAFE, inside a slot, within the spacing or at another engine's run none begins. A replica that gives the signatures of R473 and no
failing address has passed and is darned; any other is retired with WASH_FAIL, with the signature of the test that failed, the logic test
first (log 101), and the rotation moves on; the shadow test ends with it, and its holder is passed (log 101). The end of a commanded self-test
of a bridge cluster (R470, R472). With every unit passed SELFTEST_PASS is recorded; else SELFTEST_FAIL names the first failing unit with its
signatures and the bridge is isolated. The test no longer runs; with none running nothing happens. -/
def Obligations.TriadsAndSelftests : Prop :=
  (
    ∀ (l : LawId) (s : State), s.live = true →
      let x := s.law l
      let ev := fun (num : Nat) (k : RepId) => s.event (codeOf 0 (regCode (lawReg l)) num) .note (BitVec.ofNat 8 (lawClu l)) (BitVec.ofNat 8 k.val) 0 0 0
      (∀ k src j rest, x.flight = none → x.darnDue = some k → x.darn = none → x.active = src :: j :: rest →
        ((x.rep k).st = .darning → Does (.darningStart l) s
          (s.modLaw l (fun y => { y.copyBanks k src with darnDue := none, darn := some { target := k, source := src } })) []) ∧
        ((x.rep k).st ≠ .darning → Does (.darningStart l) s (s.modLaw l (fun y => { y with darnDue := none })) [])) ∧
      (x.flight ≠ none ∨ x.darnDue = none ∨ x.darn ≠ none ∨ x.active.length < 2 → Does (.darningStart l) s s []) ∧
      (∀ back, x.flight ≠ none ∨ x.darn = none → Does (.darnDone l back) s s []) ∧
      (∀ d back, x.flight = none → x.darn = some d →
        let y := x.copyRun d.target d.source
        let slot := s.wash.inSlot = true ∧ washLaw s.wash.pos = l ∧ washRep s.wash.pos = d.target
        (d.restart = true → Does (.darnDone l back) s
          (s.modLaw l (fun x => { x.copyBanks d.target d.source with darn := some { d with restart := false, fails := 0 } })) []) ∧
        ((x.rep d.target).bank = (x.rep d.source).bank → (x.rep d.target).shadow = (x.rep d.source).shadow → y.darnMatch l d none = true) ∧
        (d.restart = false → y.darnMatch l d back = true → ¬ slot →
          Does (.darnDone l back) s (s.modLaw l (fun _ => {
            y.modRep d.target (fun r => { r with joins := true }) with darn := none, darnCount := satInc x.darnCount })) [ev 0x87 d.target]) ∧
        (d.restart = false → y.darnMatch l d back = false → d.fails = 0 →
          Does (.darnDone l back) s (s.modLaw l (fun _ => { y.copyBanks d.target d.source with darn := some { d with fails := 1 } })) []) ∧
        (d.restart = false → y.darnMatch l d back = false → d.fails ≠ 0 → ¬ slot →
          Does (.darnDone l back) s (s.modLaw l (fun _ => {
            y.modRep d.target (fun r => { r with st := .retired, joins := false }) with darn := none, darnDue := none }))
            [ev 0x88 d.target, ev 0x89 d.target]) ∧
        (d.restart = false → y.darnMatch l d back = true ∨ d.fails ≠ 0 → slot → Completes (.darnDone l back) s (fun t =>
          (t.law l).darn = none ∧ t.wash.inSlot = false ∧ t.wash.slotEnd = s.tim.devTime ∧
          t.wash.pos = if s.wash.pos.toNat + 1 < 48 then s.wash.pos + 1 else 0)))) ∧
  (
    ∀ (s : State), s.live = true →
      let l := washLaw s.wash.pos
      let k := washRep s.wash.pos
      let waits := s.tim.devTime - s.wash.slotEnd
      let due := s.cfgBit 0xB000 0 = true ∧ s.wash.inSlot = false ∧ s.power.brownout = false ∧ s.power.devSafe = false ∧
        s.cfgN 0xB004 ≤ waits.toNat
      let begins := due ∧ s.washable s.wash.pos = true ∧ (s.law l).clean = true ∧ (s.law l).flight = none
      let begun := (s.modWash (fun w => { w with wait := false, inSlot := true })).modLaw l (fun x =>
        x.modRep k (fun r => { r.noSpread with st := .washed }))
      let rep := fun (b : Bool) => if b then 0x7C3A19E5 else (0x2F90D14B : Word)
      (∀ m ok, ¬ due → Does (.washSlot m ok) s s []) ∧
      (∀ m ok, due → s.washable s.wash.pos = true → m ≠ l ∨ (s.law l).clean = false ∨ (s.law l).flight ≠ none →
        Does (.washSlot m ok) s (s.modWash (fun w => { w with wait := false })) []) ∧
      (∀ ok, begins → s.cfgBit 0xB000 1 = false → Does (.washSlot l ok) s begun []) ∧
      (∀ ok h, begins → s.cfgBit 0xB000 1 = true → s.shadowHolder = some h → Completes (.washSlot l ok) s (fun t =>
        t.wash.inSlot = true ∧ ((t.law l).rep k).st = .washed ∧ t.wash.shadow = some (BitVec.ofNat 8 h, ok) ∧ t.params = s.params)) ∧
      (∀ logic mem fa us, s.wash.inSlot = true → ((s.law l).rep k).st = .washed →
        let passed := logic = rep true ∧ mem = rep false ∧ fa = 0xFFFF
        (s.wash.shadow = none → passed → Completes (.washTestEnd logic mem fa us) s (fun t =>
          t.law l = { (s.law l).modRep k (fun r => { r with st := .darning }) with darnDue := some k } ∧ (∀ m, m ≠ l → t.law m = s.law m) ∧
          t.wash = s.wash ∧ t.st.lastSig = logic ∧ t.st.lastResult = 0 ∧ t = { s with laws := t.laws, st := t.st, host := t.host, evq := [] })) ∧
        (¬ passed → Completes (.washTestEnd logic mem fa us) s (fun t => ((t.law l).rep k).st = .retired ∧ (∀ m, m ≠ l → t.law m = s.law m) ∧
          t.wash.inSlot = false ∧ t.wash.pos = (if s.wash.pos.toNat + 1 < 48 then s.wash.pos + 1 else 0) ∧ t.st.lastResult = 1 ∧
          Logs s t (s.event (codeOf 0 (regCode (lawReg l)) 0x365) .note (BitVec.ofNat 8 (lawClu l)) (BitVec.ofNat 8 k.val)
            (if logic = rep true then mem else logic) (rep (decide (logic ≠ rep true))) 0) ∧
          Logs s t (s.event (codeOf 0 (regCode (lawReg l)) 0x89) .note (BitVec.ofNat 8 (lawClu l)) (BitVec.ofNat 8 k.val) 0 0 0))) ∧
        (∀ h ok, s.wash.shadow = some (h, ok) → Completes (.washTestEnd logic mem fa us) s (fun t =>
          t.wash.shadow = none ∧ t.wash.holder = BitVec.ofNat 8 ((h.toNat + 1) % 112)))) ∧
      (∀ logic mem fa us, s.wash.inSlot = false ∨ ((s.law l).rep k).st ≠ .washed → Does (.washTestEnd logic mem fa us) s s [])) ∧
  (
    ∀ (units : List UnitTest) (b : BridgeId) (s : State), s.live = true →
      (s.st.busy = false → Does (.selftestEnd units) s s []) ∧
      (s.testGuard = s → s.st.busy = true → s.st.kind = 2 → s.st.region = BitVec.ofNat 8 (regCode (brgReg b)) →
        s.st.cluster = BitVec.ofNat 8 (brgClu b) → s.st.rep = 0xFF →
        let ev := fun (num : Nat) (cls : RClass) (unit : Byte) (d0 d1 : Word) =>
          s.event (codeOf 1 (regCode (brgReg b)) num) cls s.st.cluster unit d0 d1 s.st.tag
        (units.find? (fun u => !unitOk u) = none → Completes (.selftestEnd units) s (fun t => t.st.busy = false ∧
          t = { s with st := t.st, host := t.host, evq := [] } ∧ Logs s t (ev 0x360 .note 0xFF 0 0))) ∧
        (∀ u, units.find? (fun u => !unitOk u) = some u → Completes (.selftestEnd units) s (fun t => t.st.busy = false ∧
          (t.brg b).arm = .isolated ∧ (b ∉ spanBridges → ∀ c, c ≠ b → t.brg c = s.brg c) ∧ SameCore s t ∧
          Logs s t (ev 0x361 .isolate u.unit (unitSig u).1 (unitSig u).2)))))

/-! ### The pair and the hawser link (R388 to R411, R415) -/

/-- Receiving crossings (R391, R393, R395). A device that is SOLO, has not aligned both lanes, or whose hawser or check cluster is out
receives nothing. A crossing that does not end with the CRC-32C of its bytes is discarded and counted, with CROSSING_BAD once per tide. An
IDLE in sequence, with no mark, changes what the mate last showed and the check unit alone, which has passed over its bytes and expects the
next alive value; one out of sequence is accepted too and the gap counted as crossings lost. What each crossing does once accepted, in a
device that is PAIRED with a crossing in sequence that carries no mark or warning (R397, R398, R401, R405, R407). A mirror is kept for its
region and a HEALTH as the mate's last; a TIMING gives the follower its error, ((t2 - t1) - (t4 - t3)) / 2 of the departures and arrivals at
both devices, and the lead none, which takes the opposite one where it adopts the follower's boundary; three errors above 50 ns in a row
split the pair; without a formed link a TIMING gives only its arrival and the round trip; a FAREWELL moves the device to CARRYING with
MATE_LOST, cause 1, and a follower runs free. -/
def Obligations.Crossings : Prop :=
  (
    ∀ (h : CrossHdr) (s : State), s.live = true →
      let told := if s.haws.badTold then [] else [s.event (codeOf 5 7 0x2E5) .note 0xFF 0xFF 0 0 0]
      let gap := if (s.chk 7).ref then (h.alive - (s.chk 7).alive).toNat else 0
      let receives := fun (c : Instr) (k : CrossKind) (payload : List Word) =>
        (s.canReceive = false → Does c s s []) ∧
        (s.canReceive = true → h.crc ≠ crc32c (crossBytes k h payload) →
          Does c s (s.modHaws (fun x => { x with crcErr := satInc x.crcErr, crcTide := satInc x.crcTide, badTold := true })) told)
      receives (.idle h) .idle [] ∧ receives (.farewell h) .farewell [] ∧ (∀ b, receives (.hello h b) .hello (helloPayload b)) ∧
      (∀ b, receives (.timing h b) .timing (timingPayload b)) ∧ (∀ b, receives (.health h b) .health (healthPayload b)) ∧
      (∀ b, b.region ≠ .hst → b.words.length = mirrorLen b.region → receives (.mirror h b) .mirror (mirrorPayload b)) ∧
      (s.canReceive = true → h.crc = crc32c (crossBytes .idle h []) → s.haws.pair = .paired → h.flags &&& ~~~s.haws.mateFlags &&& 6 = 0 →
        h.flags.getLsbD 0 = false → h.mark = 0 →
        Completes (.idle h) s (fun t =>
          SameButHost { s with haws := t.haws, chks := t.chks } t ∧ t.haws.pair = .paired ∧
          t.haws.mateTide = h.tide ∧ t.haws.mateEpoch = h.epoch ∧ t.haws.mateFlags = h.flags ∧ t.haws.lost = satAdd s.haws.lost gap ∧
          t.chk 7 = { (s.chk 7).passed (crossBytes .idle h []) (h.alive + 1) with ref := true } ∧ (∀ n : ChkId, n ≠ 7 → t.chk n = s.chk n) ∧
          t.haws.mirrors = s.haws.mirrors ∧ Records s t (if gap = 0 then [] else told)))) ∧
  (
    ∀ (h : CrossHdr) (s : State), s.live = true → s.canReceive = true → h.mark = 0 → h.flags = 0 → s.haws.pair = .paired →
      (s.chk 7).ref = true → (s.chk 7).alive = h.alive →
      let ends := fun (k : CrossKind) (payload : List Word) => h.crc = crc32c (crossBytes k h payload)
      let outer := fun (t : State) => t = { s with haws := t.haws, chks := t.chks, host := t.host, evq := [] }
      (∀ b : MirrorBody, ends .mirror (mirrorPayload b) → b.region ≠ .hst → b.words.length = mirrorLen b.region →
        Completes (.mirror h b) s (fun t => outer t ∧ t.haws.pair = .paired ∧
          t.haws.mirrors[rIx b.region] = { valid := true, sample := b.sample, words := b.words } ∧
          (∀ r, r ≠ b.region → t.haws.mirrors[rIx r] = s.haws.mirrors[rIx r]) ∧ Records s t [])) ∧
      (∀ b : HealthBody, ends .health (healthPayload b) →
        Completes (.health h b) s (fun t => outer t ∧ t.haws.mateHealth = some b ∧ t.haws.pair = .paired ∧ Records s t [])) ∧
      (∀ b : TimingBody, ends .timing (timingPayload b) →
        let timing := fun (P : State → Prop) => Completes (.timing h b) s (fun t => t.haws.arrived = b.here ∧ P t)
        (s.haws.linkUp = false → timing (fun t => outer t ∧ t.haws.pair = .paired ∧ t.haws.err = s.haws.err ∧ Records s t [])) ∧
        (s.haws.linkUp = true → s.power.straps.pair = true →
          let e := ((b.here - b.departed).toInt - (b.arrived - s.haws.departed).toInt) / 2
          timing (fun t => outer { t with tim := s.tim } ∧ t.tim = { s.tim with steer := e, steering := decide (e ≠ 0) } ∧
            t.haws.err = e ∧ t.haws.timed = true ∧ t.haws.locked = decide (e.natAbs ≤ 16) ∧
            (160 < e.natAbs → 2 ≤ s.haws.bigErr → t.haws.pair = .split ∧ t.haws.splitReq = true ∧
              Records s t [s.event (codeOf 5 7 0x2E3) .handover 0xFF 0xFF 0 0 0]) ∧
            (160 < e.natAbs → s.haws.bigErr < 2 → t.haws.pair = .paired ∧ t.haws.bigErr = s.haws.bigErr + 1 ∧ Records s t []) ∧
            (e.natAbs ≤ 160 → t.haws.pair = .paired ∧ t.haws.bigErr = 0 ∧ Records s t []))) ∧
        (s.haws.linkUp = true → s.power.straps.pair = false →
          let e := -(((b.arrived - s.haws.departed).toInt - (b.here - b.departed).toInt) / 2)
          timing (fun t => outer { t with tim := s.tim } ∧ t.haws.err = 0 ∧ t.haws.timed = true ∧ t.haws.locked = true ∧
            t.haws.pair = .paired ∧ Records s t [] ∧
            t.tim = (if s.haws.adopt then { s.tim with steer := e, steering := decide (e ≠ 0) } else s.tim)))) ∧
      (ends .farewell [] → Completes (.farewell h) s (fun t => outer { t with tim := s.tim } ∧ t.haws.pair = .carrying ∧ t.haws.mateHealth = none ∧
        (∀ r, (t.haws.mirrors[rIx r]).valid = false) ∧
        t.tim = (if s.power.straps.pair then { s.tim with steer := 0, steering := false } else s.tim) ∧
        Records s t [s.event (codeOf 5 7 0x2E2) .handover 0xFF 0xFF 1 0 0])))

/-- Formation (R397, R399, R405). A HELLO whose strap differs and whose tide, ratios and multiple equal this device's forms the link, is
answered by one, and has the device that must adopt the mate's boundary record TIDE_ADOPTED; any other raises CONFIG_CONFLICT once and does
not form it. A formed link takes no HELLO. A SPLIT follower on a formed link becomes PAIRED with the TIMING that shows it within 50 ns of a
mate of the same tide. The link lost (R391, R395, R405, R406, R409). `LINK_LOSS_TIME` without a crossing, a lane out of alignment and a
fault of the hawser cluster all lose it: a PAIRED device whose `MATE_PRES` is low and not judged faulty moves to CARRYING with MATE_LOST,
any other PAIRED one to SPLIT with LINK_LOST, and no mirror is usable; a follower runs free; a SPLIT one carries where `MATE_PRES` is low, a
CARRYING one carries on, and a SOLO device is left as it is. A SPLIT device without link whose `MATE_PRES` goes low carries. `MATE_PRES` low
beside a mate that is well is judged faulty. -/
def Obligations.LinkFormedAndLost : Prop :=
  (
    ∀ (h : CrossHdr) (s : State), s.live = true → s.canReceive = true → h.mark = 0 → h.flags = 0 →
      s.haws.pair = .split → (s.chk 7).ref = true → (s.chk 7).alive = h.alive →
      (∀ b : HelloBody, h.crc = crc32c (crossBytes .hello h (helloPayload b)) →
        (s.haws.linkUp = false → s.helloFits b = true →
          Completes (.hello h b) s (fun t => t.haws.linkUp = true ∧ t.haws.adopt = (s.haws.adopt || s.adopts b) ∧ t.haws.pair = .split ∧ SameCore s t ∧
            (s.adopts b = true → Logs s t (s.event (codeOf 5 7 0x2E7) .note 0xFF 0xFF s.tim.tideIndex h.tide 0)) ∧
            (s.adopts b = false → Records s t []) ∧ (s.canCross = true → s.haws.sending = none → t.haws.sending = some .hello))) ∧
        (s.haws.linkUp = false → s.helloFits b = false →
          Completes (.hello h b) s (fun t => t.haws.linkUp = false ∧ t.haws.conflict = true ∧ t.haws.pair = .split ∧ SameCore s t ∧
            t.haws.sending = s.haws.sending ∧ Records s t (if s.haws.conflict then [] else [s.event (codeOf 5 7 0x2E6) .note 0xFF 0xFF 0 0 0]))) ∧
        (s.haws.linkUp = true → s.haws.timed = false →
          Completes (.hello h b) s (fun t => t.haws.linkUp = true ∧ t.haws.adopt = s.haws.adopt ∧ t.haws.conflict = s.haws.conflict ∧
            t.haws.sending = s.haws.sending ∧ t.haws.pair = .split ∧ SameCore s t ∧ Records s t []))) ∧
      (∀ b : TimingBody, h.crc = crc32c (crossBytes .timing h (timingPayload b)) → s.haws.linkUp = true → s.haws.adopt = false →
        s.power.straps.pair = true →
        let e := ((b.here - b.departed).toInt - (b.arrived - s.haws.departed).toInt) / 2
        Completes (.timing h b) s (fun t =>
          t.haws.pair = (if e.natAbs ≤ 160 ∧ h.tide = s.tim.tideIndex then .paired else .split) ∧
          Records s t (if e.natAbs ≤ 160 ∧ h.tide = s.tim.tideIndex then [s.event (codeOf 5 7 0x2E0) .note 0xFF 0xFF 0 0 0] else [])))) ∧
  (
    ∀ (s : State), s.live = true →
      let pairEv := fun (num : Nat) (cls : RClass) (d0 : Word) => s.event (codeOf 5 7 num) cls 0xFF 0xFF d0 0 0
      let free := if s.power.straps.pair then { s.tim with steer := 0, steering := false } else s.tim
      let lost := fun (c : Instr) (es : List Event) =>
        let loses := fun (P : State → Prop) => Completes c s (fun t => t.haws.linkUp = false ∧ (∀ r, (t.haws.mirrors[rIx r]).valid = false) ∧
          t = { s with haws := t.haws, tim := free, host := t.host, evq := [] } ∧ P t)
        (s.pairOn = true → s.haws.pair = .paired → s.mateGone = true →
          loses (fun t => t.haws.pair = .carrying ∧ Records s t (es ++ [pairEv 0x2E2 .handover 2]))) ∧
        (s.pairOn = true → s.haws.pair = .paired → s.mateGone = false →
          loses (fun t => t.haws.pair = .split ∧ ∀ e ∈ es ++ [pairEv 0x2E1 .handover 0], Logs s t e)) ∧
        (s.pairOn = true → s.haws.pair = .split → loses (fun t => t.haws.pair = if s.mateGone then .carrying else .split)) ∧
        (s.pairOn = true → s.haws.pair = .carrying → loses (fun t => t.haws.pair = .carrying ∧ t.haws.rejoin = false ∧ Records s t es))
      lost .linkLost [] ∧ (∀ k, lost (.laneAlignmentLost k) []) ∧
      lost .hawserFault [s.event (codeOf 1 1 0x2EC) .note 5 0xFF 0 0 0] ∧
      (s.pairOn = false → Does .linkLost s s [] ∧
        Does .hawserFault s (s.modHaws (fun x => { x with fault := true })) [s.event (codeOf 1 1 0x2EC) .note 5 0xFF 0 0 0] ∧
        ∀ k : Fin 2, Does (.laneAlignmentLost k) s (s.modHaws (fun x => { x with aligned := x.aligned &&& ~~~(BitVec.ofNat 2 (2 ^ k.val)) })) []) ∧
      (∀ k : Fin 2, Completes (.laneAlignmentLost k) s (fun t => t.haws.aligned.getLsbD k.val = false)) ∧
      Completes .hawserFault s (fun t => t.haws.fault = true) ∧
      Does .laneAligned s (s.modHaws (fun x => { x with aligned := 3 })) [] ∧
      (∀ v, ¬ (s.haws.pair = .split ∧ s.haws.linkUp = false ∧ v = false ∧ s.haws.mpFault = false) →
        Does (.matePresChange v) s (s.modHaws (fun x => { x with pres := v, presTides := 0 })) []) ∧
      (s.haws.pair = .split → s.haws.linkUp = false → s.haws.mpFault = false →
        Completes (.matePresChange false) s (fun t => t.haws.pair = .carrying ∧ t.haws.pres = false ∧ Records s t [pairEv 0x2E2 .handover 3])) ∧
      (s.pairOn = true → s.haws.pres = false → s.mateWell = true → s.haws.mpFault = false →
        Does .matePresFault s (s.modHaws (fun x => { x with mpFault := true })) [pairEv 0x2E4 .note 0]) ∧
      (s.pairOn = false ∨ s.haws.pres = true ∨ s.mateWell = false ∨ s.haws.mpFault = true → Does .matePresFault s s []))

/-- Sending crossings (R392 to R394, R398, R407). A TIMING is sent once in each tide, with the instant 1 us after its boundary as its
departure (log 100) and the arrival of the mate's last one. A free transmitter starts a crossing at once and a busy one queues it; what is
being sent is never cut; `CHK6` counts each and appends the CRC-32C of its bytes; an IDLE is sent where nothing is being sent; when a
crossing ends the queued one of highest priority follows; after the last FAREWELL nothing more is sent. A device that cannot send starts and
queues nothing, and what ends there is the last. The end of a crossing that is not in transmission changes nothing. -/
def Obligations.CrossingsSent : Prop :=
  ∀ (s : State), s.live = true →
    let due := s.canCross = true ∧ s.haws.timingTide ≠ some s.tim.tideIndex
    let at_ : Time := (s.tim.tideStart + 400) * 8
    let payload := timingPayload ⟨at_, s.haws.arrived, at_⟩
    let starts := fun (c : Instr) (k : CrossKind) (ws : List Word) (f : Hawser → Hawser) =>
      let body := crossBytes k s.crossHdr ws
      Completes c s (fun t => t.haws = { f s.haws with sending := some k, wire := body ++ bytesOf 4 (crc32c body) } ∧
        t.chk 6 = (s.chk 6).passed body ((s.chk 6).alive + 1) ∧ (∀ n : ChkId, n ≠ 6 → t.chk n = s.chk n) ∧
        SameButHost { s with haws := t.haws, chks := t.chks } t ∧ Records s t [])
    let noted := fun (x : Hawser) => { x with departed := at_, timingTide := some s.tim.tideIndex }
    (¬ due → Does .timingSend s s []) ∧
    (due → s.haws.sending = none → starts .timingSend .timing payload noted) ∧
    (∀ k, due → s.haws.sending = some k →
      Does .timingSend s (s.modHaws (fun x => { noted x with queue := x.queue ++ [⟨.timing, payload⟩] })) []) ∧
    (s.canCross = false ∨ s.haws.sending ≠ none → Does .idleSend s s []) ∧
    (s.canCross = true → s.haws.sending = none → starts .idleSend .idle [] id) ∧
    (∀ k, s.haws.sending ≠ some k → Does (.crossingSent k) s s []) ∧
    (∀ k, k ≠ .farewell → s.canCross = true → s.haws.sending = some k → s.haws.queue = [] →
      Does (.crossingSent k) s (s.modHaws (fun x => { x with sending := none, wire := [] })) []) ∧
    (∀ k, k ≠ .farewell → s.canCross = false → s.haws.sending = some k →
      Does (.crossingSent k) s (s.modHaws (fun x => { x with sending := none, wire := [], queue := [] })) []) ∧
    (∀ k x y, k ≠ .farewell → s.canCross = true → s.haws.sending = some k → s.haws.queue = [x, y] → crossRank y.kind < crossRank x.kind →
      starts (.crossingSent k) y.kind y.payload (fun z => { z with queue := [x] })) ∧
    (s.haws.sending = some .farewell → s.haws.farewells = 1 → Completes (.crossingSent .farewell) s (fun t =>
      t.haws.silent = true ∧ t.haws.sending = none ∧ t.haws.queue = [] ∧ t.canCross = false))

/-! ### CAN controllers (R416 to R432, R437) -/

/-- Sending frames (R421 to R424, R431). The frame at the queue head goes to a free buffer with what its check unit appends, and is dropped
with CAN_TX_FAILED, cause 4, where it needs an isolated check cluster; without a frame or a free buffer nothing happens. A frame that
completes has gone out with its DLC, frees its buffer and lowers the error counter, with CAN_TX_DONE where asked; lost arbitration ends a
frame only with `RETRY_LIMIT` = 0, and an error after `RETRY_LIMIT` retransmissions or into bus-off, each with CAN_TX_FAILED and its cause.
A controller off the bus does none of it. With `TX_ORDER` = 0 the free buffer is the lowest. -/
def Obligations.CanTransmission : Prop :=
  ∀ (c : CanId) (s : State), s.live = true →
    let x := s.can c
    let ev := fun (num : Nat) (d0 : Word) (tag : Half) =>
      s.event (codeOf 0 1 num) .note (BitVec.ofNat 8 (c.val + 1)) (BitVec.ofNat 8 c.val) d0 0 tag
    (s.canOn c = false → Does (.canTxLoad c) s s [] ∧ (∀ b v, Does (.frameSent c b v) s s []) ∧ ∀ b w, Does (.txAttemptFailed c b w) s s []) ∧
    (x.queue = [] ∨ s.freeBuf c = none → Does (.canTxLoad c) s s []) ∧
    (s.canPar c 0x0C = 0 → s.freeBuf c = ([0, 1, 2] : List (Fin 3)).find? (fun b => x.bufs[b].isNone)) ∧
    (∀ f rest b, s.canOn c = true → x.queue = f :: rest → s.freeBuf c = some b → f.chk ≠ 0xFF → s.chkIso = false →
      let r := s.append (Fin.ofNat 8 f.chk.toNat) f.data
      Does (.canTxLoad c) s (r.2.modCan c (fun y => { y with
        queue := rest, bufs := y.bufs.set b (some { f with data := r.1, order := y.order }), order := y.order + 1, next := (b.val + 1) % 3 })) []) ∧
    (∀ f rest b, s.canOn c = true → x.queue = f :: rest → s.freeBuf c = some b → f.chk = 0xFF →
      Does (.canTxLoad c) s (s.modCan c (fun y => { y with
        queue := rest, bufs := y.bufs.set b (some { f with order := y.order }), order := y.order + 1, next := (b.val + 1) % 3 })) []) ∧
    (∀ f rest b, s.canOn c = true → x.queue = f :: rest → s.freeBuf c = some b → f.chk ≠ 0xFF → s.chkIso = true →
      Does (.canTxLoad c) s (s.modCan c (fun y => { y with queue := rest })) [ev 0x321 4 f.tag]) ∧
    (∀ (b : Fin 3), x.bufs[b] = none → (∀ stamp, Does (.frameSent c b stamp) s s []) ∧ ∀ w, Does (.txAttemptFailed c b w) s s []) ∧
    (∀ (b : Fin 3) (f : TxFrame) (stamp : Word), s.canOn c = true → x.bufs[b] = some f →
      Completes (.frameSent c b stamp) s (fun t => (t.can c).bufs[b] = none ∧ (∀ d : Fin 3, d ≠ b → (t.can c).bufs[d] = x.bufs[d]) ∧
        (t.can c).txErr = (if x.txErr = 0 then 0 else x.txErr - 1) ∧
        (t.can c).sent = some (f.onBus (decide (x.st = .passive))) ∧ (∀ d, d ≠ c → t.can d = s.can d) ∧
        SameButHost { s with cans := t.cans } t ∧ Records s t (if f.note then [ev 0x320 stamp f.tag] else []))) ∧
    (∀ (b : Fin 3) (f : TxFrame), s.canOn c = true → x.bufs[b] = some f →
      (s.canPar c 0x0D ≠ 0 → Does (.txAttemptFailed c b .arbitration) s (s.modCan c (fun y => { y with arbLost := satInc y.arbLost })) []) ∧
      (s.canPar c 0x0D = 0 → Does (.txAttemptFailed c b .arbitration) s
        (s.modCan c (fun y => { y with arbLost := satInc y.arbLost, bufs := y.bufs.set b none })) [ev 0x321 2 f.tag]) ∧
      (∀ lec, x.txErr.toNat + 8 < 256 →
        let failed := fun (v : Option TxFrame) => s.modCan c (fun y => { y with
          lec := lec, errFrames := satInc y.errFrames, txErr := y.txErr + 8, bufs := y.bufs.set b v })
        (f.tries < s.canPar c 0x0D → Does (.txAttemptFailed c b (.error lec)) s (failed (some { f with tries := f.tries + 1 })) []) ∧
        (s.canPar c 0x0D ≤ f.tries → Does (.txAttemptFailed c b (.error lec)) s (failed none) [ev 0x321 1 f.tag])) ∧
      (∀ lec, 256 ≤ x.txErr.toNat + 8 → Completes (.txAttemptFailed c b (.error lec)) s (fun t => (t.can c).bufs[b] = none ∧
        Records s t [ev 0x321 3 f.tag])))

/-- Receiving frames (R418, R426 to R428, R432). A frame that no filter matches is counted; one that a filter without a check unit matches
is written whole to its queue's ring where that has room, with the filter, the time stamp and its bytes, or lost with CAN_RX_LOST once per
tide; one that a check unit must judge is written with the unit's verdict, payload and counter, or unchecked with CHECK code 4 while the
check cluster is isolated. With `FD_EN` = 0 a frame with FDF set is not received: a protocol exception, told once per tide. Error states of
a controller (R29, R416, R425, R437). Bus-off empties its buffers and queue and counts what it discards; a recovery that was commanded ends
error active with counters at zero; an active one can become error passive; an error while receiving is counted; a fault isolates the
controller, which is then off the bus. No other controller changes. -/
def Obligations.CanReceptionAndErrors : Prop :=
  (
    ∀ (c : CanId) (f : CanFrame) (stamp : Word) (s : State), s.live = true →
      let x := s.can c
      let ev := fun (num : Nat) => s.event (codeOf 0 1 num) .note (BitVec.ofNat 8 (c.val + 1)) 0xFF 0 0 0
      let good := s.canOn c = true ∧ (f.fdf = true → s.canPar c 1 ≠ 0)
      (s.canOn c = false ∨ (f.fdf = true ∧ s.canPar c 1 = 0) → Does (.canFrameReceived c f stamp) s s []) ∧
      (good → s.fltFind c f.ident = none →
        Completes (.canFrameReceived c f stamp) s (fun t => (t.can c).unmatched = satInc x.unmatched ∧ (∀ d, d ≠ c → t.can d = s.can d) ∧
          SameButHost { s with cans := t.cans, free := t.free } t ∧ Records s t [])) ∧
      (∀ k, good → s.fltFind c f.ident = some k → s.canPar c (0x23 + 4 * k) / 4 = 0 →
        let q := s.canPar c (0x23 + 4 * k) / 2 % 2
        let n : RingId := Fin.ofNat 16 (5 + 3 * c.val + q)
        let data := if f.ident.getLsbD 30 then [] else f.data.take (dlcLen f.fdf f.dlc.toNat)
        let es := rxEntries (bit (x.lostQ q)) k 0 stamp f data 0
        (s.ringOpen n = true → es.length ≤ ringFree s n →
          Completes (.canFrameReceived c f stamp) s (fun t => (t.ring n).recs = (s.ring n).recs ++ es ∧
            (t.ring n).devIdx = (s.ring n).devIdx + BitVec.ofNat 16 es.length ∧ (t.can c).lostQ q = false ∧
            t = { s with cans := t.cans, host := t.host, free := t.free, evq := [] } ∧ Records s t [])) ∧
        ((s.ringOpen n && decide (es.length ≤ ringFree s n)) = false →
          Completes (.canFrameReceived c f stamp) s (fun t => (t.can c).rxLost = satInc x.rxLost ∧ (t.can c).lostQ q = true ∧
            SameButHost { s with cans := t.cans, free := t.free } t ∧ Records s t (if x.toldQ q then [] else [ev 0x323])))) ∧
      (∀ k, good → s.fltFind c f.ident = some k → s.canPar c (0x23 + 4 * k) / 4 ≠ 0 →
        let q := s.canPar c (0x23 + 4 * k) / 2 % 2
        let n : RingId := Fin.ofNat 16 (5 + 3 * c.val + q)
        let data := if f.ident.getLsbD 30 then [] else f.data.take (dlcLen f.fdf f.dlc.toNat)
        let o := s.checkFrame (Fin.ofNat 8 (s.canPar c (0x23 + 4 * k) / 4 - 1)) data
        let es := if s.chkIso then rxEntries (bit (x.lostQ q)) k 0 stamp f data 4
          else rxEntries (bit (x.lostQ q)) k o.alive.toNat stamp f o.data o.code
        s.ringOpen n = true → es.length ≤ ringFree s n →
          Completes (.canFrameReceived c f stamp) s (fun t => (t.ring n).recs = (s.ring n).recs ++ es ∧ (t.can c).lostQ q = false ∧
            t = { s with cans := t.cans, chks := t.chks, host := t.host, free := t.free, evq := [] } ∧
            t.chks = if s.chkIso then s.chks else o.state.chks)) ∧
      (s.canOn c = true → s.canPar c 1 = 0 → x.excTold = false →
        Does (.fdfReceived c) s (s.modCan c (fun y => { y with excTold := true })) [ev 0x327]) ∧
      (s.canOn c = false ∨ s.canPar c 1 ≠ 0 ∨ x.excTold = true → Does (.fdfReceived c) s s [])) ∧
  (
    ∀ (c : CanId) (lec : BitVec 3) (s : State), s.live = true →
      let x := s.can c
      let clu : Byte := BitVec.ofNat 8 (c.val + 1)
      let n := (x.bufs.toList.filter Option.isSome).length + x.queue.length
      (s.canOn c = true → Completes (.canBusOff c) s (fun t => (t.can c).st = .busOff ∧ (t.can c).queue = [] ∧ (∀ b : Fin 3, (t.can c).bufs[b] = none) ∧
        (∀ d, d ≠ c → t.can d = s.can d) ∧ t = { s with cans := t.cans, host := t.host, evq := [] } ∧
        Records s t [s.event (codeOf 0 1 0x325) .note clu (BitVec.ofNat 8 c.val) 0 (BitVec.ofNat 32 n) 0])) ∧
      (s.canOn c = false → Does (.canBusOff c) s s [] ∧ Does (.canErrPassive c) s s [] ∧ Does (.errorFrame c lec) s s []) ∧
      (x.st = .busOff → x.recovering = true → Does (.canRecovered c) s
        (s.modCan c (fun y => { y with st := .active, recovering := false, txErr := 0, rxErr := 0 })) [s.event (codeOf 0 1 0x326) .note clu 0xFF 0 0 0]) ∧
      (x.st ≠ .busOff ∨ x.recovering = false → Does (.canRecovered c) s s []) ∧
      (s.canOn c = true → x.st = .active → Does (.canErrPassive c) s (s.modCan c (fun y => { y with st := .passive }))
        [s.event (codeOf 0 1 0x324) .note clu 0xFF 0 0 0]) ∧
      (s.canOn c = true → Does (.errorFrame c lec) s (s.modCan c (fun y => { y with
        lec := lec, errFrames := satInc y.errFrames, rxErr := if y.rxErr = 255 then 255 else y.rxErr + 1 })) []) ∧
      Does (.canFault c) s (s.modCan c (fun y => { y with isolated := true, st := .off, recovering := false }))
        [s.event (codeOf 1 1 0x328) .isolate clu 0xFF 0 0 0])
end

