-- ==== Sys2Proof/Laws/Dispatch.lean ====
section
/-! SUPPORT. The meaning that each command of the table runs, one lemma per arm of `exec`. -/

namespace Sys2Proof.Machine

variable (s : State)

@[simp] theorem exec_nop (h : RecHdr) : exec (.nop h) s = execNop h s := rfl
@[simp] theorem exec_setMode (h : RecHdr) (region actuator mode : Byte) : exec (.setMode h region actuator mode) s = execSetMode h region actuator mode s := rfl
@[simp] theorem exec_setpoint (h : RecHdr) (s0 s1 s2 : SpSlot) : exec (.setpoint h s0 s1 s2) s = execSetpoint h s0 s1 s2 s := rfl
@[simp] theorem exec_arm (h : RecHdr) (region : Byte) (mask : Word) : exec (.arm h region mask) s = execArm h region mask s := rfl
@[simp] theorem exec_disarm (h : RecHdr) (region : Byte) (mask : Word) : exec (.disarm h region mask) s = execDisarm h region mask s := rfl
@[simp] theorem exec_resetCluster (h : RecHdr) (region cluster : Byte) : exec (.resetCluster h region cluster) s = execResetCluster h region cluster s := rfl
@[simp] theorem exec_resetRegion (h : RecHdr) (region : Byte) : exec (.resetRegion h region) s = execResetRegion h region s := rfl
@[simp] theorem exec_brakeApply (h : RecHdr) : exec (.brakeApply h) s = execBrakeApply h s := rfl
@[simp] theorem exec_brakeRelease (h : RecHdr) : exec (.brakeRelease h) s = execBrakeRelease h s := rfl
@[simp] theorem exec_brakeTest (h : RecHdr) : exec (.brakeTest h) s = execBrakeTest h s := rfl
@[simp] theorem exec_setPosition (h : RecHdr) (actuator : Byte) (value : F32) : exec (.setPosition h actuator value) s = execSetPosition h actuator value s := rfl
@[simp] theorem exec_canRecover (h : RecHdr) (ctrl : Byte) : exec (.canRecover h ctrl) s = execCanRecover h ctrl s := rfl
@[simp] theorem exec_selftest (h : RecHdr) (kind region cluster replica : Byte) : exec (.selftest h kind region cluster replica) s = execSelftest h kind region cluster replica s := rfl
@[simp] theorem exec_begin (h : RecHdr) (slot flags : Byte) (txid target : Word) : exec (.begin h slot flags txid target) s = execBegin h slot flags txid target s := rfl
@[simp] theorem exec_stage (h : RecHdr) (slot count : Byte) (i0 : Half) (v0 : Word) (i1 : Half) (v1 : Word) (i2 : Half) (v2 : Word) : exec (.stage h slot count i0 v0 i1 v1 i2 v2) s = execStage h slot count i0 v0 i1 v1 i2 v2 s := rfl
@[simp] theorem exec_commit (h : RecHdr) (slot : Byte) (seq expect : Word) : exec (.commit h slot seq expect) s = execCommit h slot seq expect s := rfl
@[simp] theorem exec_rollback (h : RecHdr) (slot : Byte) : exec (.rollback h slot) s = execRollback h slot s := rfl
@[simp] theorem exec_voteInstant : exec (.voteInstant) s = execVoteInstant s := rfl
@[simp] theorem exec_tideBoundary (netA netB : Bool) : exec (.tideBoundary netA netB) s = execTideBoundary netA netB s := rfl
@[simp] theorem exec_timingMark : exec (.timingMark) s = execTimingMark s := rfl
@[simp] theorem exec_regionPeriodStart (r : RegionId) : exec (.regionPeriodStart r) s = execRegionPeriodStart r s := rfl
@[simp] theorem exec_sampleInstant (law : LawId) (pins : Tri PinSample) (acks : Tri Ack) : exec (.sampleInstant law pins acks) s = execSampleInstant law pins acks s := rfl
@[simp] theorem exec_law14Pass (k : Fin 4) : exec (.law14Pass k) s = execLaw14Pass k s := rfl
@[simp] theorem exec_vote (law : LawId) (obs : VoteObs) : exec (.vote law obs) s = execVote law obs s := rfl
@[simp] theorem exec_applyInstant (law : LawId) (late : Bool) : exec (.applyInstant law late) s = execApplyInstant law late s := rfl
@[simp] theorem exec_loadPoint (b : BridgeId) (peak : Bool) (copiesAgree : Bool) : exec (.loadPoint b peak copiesAgree) s = execLoadPoint b peak copiesAgree s := rfl
@[simp] theorem exec_manifestFetch : exec (.manifestFetch) s = execManifestFetch s := rfl
@[simp] theorem exec_manifestReadComplete (bytes : BitVec 1024) : exec (.manifestReadComplete bytes) s = execManifestReadComplete bytes s := rfl
@[simp] theorem exec_descriptorReadComplete (ring : RingId) (entries : List Entry) : exec (.descriptorReadComplete ring entries) s = execDescriptorReadComplete ring entries s := rfl
@[simp] theorem exec_hostReadTimeout (read : HostRead) : exec (.hostReadTimeout read) s = execHostReadTimeout read s := rfl
@[simp] theorem exec_tlpDiscard (tlp : BadTlp) : exec (.tlpDiscard tlp) s = execTlpDiscard tlp s := rfl
@[simp] theorem exec_pcieReset (kind : PcieResetKind) : exec (.pcieReset kind) s = execPcieReset kind s := rfl
@[simp] theorem exec_registerWrite (port : Port) (offset : Half) (be : BitVec 4) (value : Word) : exec (.registerWrite port offset be value) s = execRegisterWrite port offset be value s := rfl
@[simp] theorem exec_rcRead (port : Port) (offset : Half) (be : BitVec 4) (setNow : Word) : exec (.rcRead port offset be setNow) s = execRcRead port offset be setNow s := rfl
@[simp] theorem exec_w1cWrite (port : Port) (offset : Half) (be : BitVec 4) (value : Word) (setNow : Word) : exec (.w1cWrite port offset be value setNow) s = execW1cWrite port offset be value setNow s := rfl
@[simp] theorem exec_devtimeCapture (port : Port) : exec (.devtimeCapture port) s = execDevtimeCapture port s := rfl
@[simp] theorem exec_accCapture (port : Port) (chan : ChanId) : exec (.accCapture port chan) s = execAccCapture port chan s := rfl
@[simp] theorem exec_lqDataRead (port : Port) (sns : SnsId) : exec (.lqDataRead port sns) s = execLqDataRead port sns s := rfl
@[simp] theorem exec_timingSetupWrite (port : Port) (offset : Half) (value : Word) : exec (.timingSetupWrite port offset value) s = execTimingSetupWrite port offset value s := rfl
@[simp] theorem exec_hstRunSet (port : Port) (value : Word) : exec (.hstRunSet port value) s = execHstRunSet port value s := rfl
@[simp] theorem exec_hstRunClear (port : Port) (value : Word) : exec (.hstRunClear port value) s = execHstRunClear port value s := rfl
@[simp] theorem exec_spiRead (head : SpiHead) (bytes : List Byte) : exec (.spiRead head bytes) s = execSpiRead head bytes s := rfl
@[simp] theorem exec_spiWrite (head : SpiHead) (bytes : List Byte) : exec (.spiWrite head bytes) s = execSpiWrite head bytes s := rfl
@[simp] theorem exec_dbgHalt : exec (.dbgHalt) s = execDbgHalt s := rfl
@[simp] theorem exec_dbgStep (pins : Tri PinSample) (obs : VoteObs) : exec (.dbgStep pins obs) s = execDbgStep pins obs s := rfl
@[simp] theorem exec_dbgResume (back : Tri Readback) : exec (.dbgResume back) s = execDbgResume back s := rfl
@[simp] theorem exec_dbgDataWrite (value : Word) : exec (.dbgDataWrite value) s = execDbgDataWrite value s := rfl
@[simp] theorem exec_dbgRegHalt : exec (.dbgRegHalt) s = execDbgRegHalt s := rfl
@[simp] theorem exec_dbgRegResume (back : Tri (Tri Readback)) : exec (.dbgRegResume back) s = execDbgRegResume back s := rfl
@[simp] theorem exec_dbgBrgHalt : exec (.dbgBrgHalt) s = execDbgBrgHalt s := rfl
@[simp] theorem exec_dbgBrgResume : exec (.dbgBrgResume) s = execDbgBrgResume s := rfl
@[simp] theorem exec_chkFeedB (port : Port) (n : ChkId) (value : Byte) : exec (.chkFeedB port n value) s = execChkFeedB port n value s := rfl
@[simp] theorem exec_chkFeedH (port : Port) (n : ChkId) (value : Half) : exec (.chkFeedH port n value) s = execChkFeedH port n value s := rfl
@[simp] theorem exec_chkFeedW (port : Port) (n : ChkId) (value : Word) : exec (.chkFeedW port n value) s = execChkFeedW port n value s := rfl
@[simp] theorem exec_chkRestart (port : Port) (n : ChkId) : exec (.chkRestart port n) s = execChkRestart port n s := rfl
@[simp] theorem exec_chkContextWrite (port : Port) (n : ChkId) (reg : ChkReg) (value : Word) : exec (.chkContextWrite port n reg value) s = execChkContextWrite port n reg value s := rfl
@[simp] theorem exec_scanEntryComplete (sns : SnsId) (entry : ScanEntry) : exec (.scanEntryComplete sns entry) s = execScanEntryComplete sns entry s := rfl
@[simp] theorem exec_windowCrossing (win : WinId) (comp : Comp) (level : Bool) (samples : Byte) : exec (.windowCrossing win comp level samples) s = execWindowCrossing win comp level samples s := rfl
@[simp] theorem exec_tripInChange (input : Fin 2) (level : Bool) : exec (.tripInChange input level) s = execTripInChange input level s := rfl
@[simp] theorem exec_tripWindowEnd (b : BridgeId) : exec (.tripWindowEnd b) s = execTripWindowEnd b s := rfl
@[simp] theorem exec_standinCheckStep (wst : Fin 3) (ok steady : Bool) : exec (.standinCheckStep wst ok steady) s = execStandinCheckStep wst ok steady s := rfl
@[simp] theorem exec_desaturation (gs : GsId) : exec (.desaturation gs) s = execDesaturation gs s := rfl
@[simp] theorem exec_desat (gs : GsId) (fell : Bool) : exec (.desat gs fell) s = execDesat gs fell s := rfl
@[simp] theorem exec_gsLost (gs : GsId) : exec (.gsLost gs) s = execGsLost gs s := rfl
@[simp] theorem exec_pairlinkLost (gs : GsId) : exec (.pairlinkLost gs) s = execPairlinkLost gs s := rfl
@[simp] theorem exec_shootGs (b : BridgeId) (sw : Sw) (withdrawn : Bool) : exec (.shootGs b sw withdrawn) s = execShootGs b sw withdrawn s := rfl
@[simp] theorem exec_gsVpUv (gs : GsId) (vp : F32) : exec (.gsVpUv gs vp) s = execGsVpUv gs vp s := rfl
@[simp] theorem exec_gsVnUv (gs : GsId) (vn : F32) : exec (.gsVnUv gs vn) s = execGsVnUv gs vn s := rfl
@[simp] theorem exec_gsReady (gs : GsId) : exec (.gsReady gs) s = execGsReady gs s := rfl
@[simp] theorem exec_gsDriveFault (gs : GsId) : exec (.gsDriveFault gs) s = execGsDriveFault gs s := rfl
@[simp] theorem exec_vdsAct (b : BridgeId) (sw : Sw) : exec (.vdsAct b sw) s = execVdsAct b sw s := rfl
@[simp] theorem exec_bstUv (b : BridgeId) (volts : F32) : exec (.bstUv b volts) s = execBstUv b volts s := rfl
@[simp] theorem exec_cpFault (volts : F32) : exec (.cpFault volts) s = execCpFault volts s := rfl
@[simp] theorem exec_cpRecovery : exec (.cpRecovery) s = execCpRecovery s := rfl
@[simp] theorem exec_dtAtLimit (b : BridgeId) (sw : Sw) : exec (.dtAtLimit b sw) s = execDtAtLimit b sw s := rfl
@[simp] theorem exec_dvdtAtLimit (b : BridgeId) (sw : Sw) (turnOn : Bool) : exec (.dvdtAtLimit b sw turnOn) s = execDvdtAtLimit b sw turnOn s := rfl
@[simp] theorem exec_safeEnFall (land : Fin 2) : exec (.safeEnFall land) s = execSafeEnFall land s := rfl
@[simp] theorem exec_safeEnRelease : exec (.safeEnRelease) s = execSafeEnRelease s := rfl
@[simp] theorem exec_safeEnDiscrepancy : exec (.safeEnDiscrepancy) s = execSafeEnDiscrepancy s := rfl
@[simp] theorem exec_brkStoDelay : exec (.brkStoDelay) s = execBrkStoDelay s := rfl
@[simp] theorem exec_brakeConversion (fb isns vsup : F32) : exec (.brakeConversion fb isns vsup) s = execBrakeConversion fb isns vsup s := rfl
@[simp] theorem exec_brkTestPulse : exec (.brkTestPulse) s = execBrkTestPulse s := rfl
@[simp] theorem exec_pullInEnd : exec (.pullInEnd) s = execPullInEnd s := rfl
@[simp] theorem exec_vsupWarn (volts : F32) : exec (.vsupWarn volts) s = execVsupWarn volts s := rfl
@[simp] theorem exec_vsupResumed (volts : F32) : exec (.vsupResumed volts) s = execVsupResumed volts s := rfl
@[simp] theorem exec_vsupReset : exec (.vsupReset) s = execVsupReset s := rfl
@[simp] theorem exec_vioFault (volts : F32) : exec (.vioFault volts) s = execVioFault volts s := rfl
@[simp] theorem exec_vrefFault (volts : F32) : exec (.vrefFault volts) s = execVrefFault volts s := rfl
@[simp] theorem exec_vmUv (volts : F32) : exec (.vmUv volts) s = execVmUv volts s := rfl
@[simp] theorem exec_vmOv (volts : F32) : exec (.vmOv volts) s = execVmOv volts s := rfl
@[simp] theorem exec_gpRailFault (kind : GpFault) (volts : F32) : exec (.gpRailFault kind volts) s = execGpRailFault kind volts s := rfl
@[simp] theorem exec_powerOn (straps : Straps) : exec (.powerOn straps) s = execPowerOn straps s := rfl
@[simp] theorem exec_resetNRelease (straps : Straps) : exec (.resetNRelease straps) s = execResetNRelease straps s := rfl
@[simp] theorem exec_startCheck (region : RegionId) (cluster : BitVec 4) (gs : Option GsId) (ok : Bool) : exec (.startCheck region cluster gs ok) s = execStartCheck region cluster gs ok s := rfl
@[simp] theorem exec_dieALost (celsius : F32) : exec (.dieALost celsius) s = execDieALost celsius s := rfl
@[simp] theorem exec_dieCFault (celsius : F32) : exec (.dieCFault celsius) s = execDieCFault celsius s := rfl
@[simp] theorem exec_refLost : exec (.refLost) s = execRefLost s := rfl
@[simp] theorem exec_islandUnlock (region : RegionId) (cluster : BitVec 4) (ppm : F32) : exec (.islandUnlock region cluster ppm) s = execIslandUnlock region cluster ppm s := rfl
@[simp] theorem exec_markLost : exec (.markLost) s = execMarkLost s := rfl
@[simp] theorem exec_syncInEdge (edge : Time) : exec (.syncInEdge edge) s = execSyncInEdge edge s := rfl
@[simp] theorem exec_syncInLost : exec (.syncInLost) s = execSyncInLost s := rfl
@[simp] theorem exec_syncOutPulse : exec (.syncOutPulse) s = execSyncOutPulse s := rfl
@[simp] theorem exec_extclkEdge (edge : Time) : exec (.extclkEdge edge) s = execExtclkEdge edge s := rfl
@[simp] theorem exec_extSyncLost : exec (.extSyncLost) s = execExtSyncLost s := rfl
@[simp] theorem exec_hello (h : CrossHdr) (body : HelloBody) : exec (.hello h body) s = execHello h body s := rfl
@[simp] theorem exec_timing (h : CrossHdr) (body : TimingBody) : exec (.timing h body) s = execTiming h body s := rfl
@[simp] theorem exec_mirror (h : CrossHdr) (body : MirrorBody) : exec (.mirror h body) s = execMirror h body s := rfl
@[simp] theorem exec_health (h : CrossHdr) (body : HealthBody) : exec (.health h body) s = execHealth h body s := rfl
@[simp] theorem exec_farewell (h : CrossHdr) : exec (.farewell h) s = execFarewell h s := rfl
@[simp] theorem exec_idle (h : CrossHdr) : exec (.idle h) s = execIdle h s := rfl
@[simp] theorem exec_timingSend : exec (.timingSend) s = execTimingSend s := rfl
@[simp] theorem exec_idleSend : exec (.idleSend) s = execIdleSend s := rfl
@[simp] theorem exec_linkLost : exec (.linkLost) s = execLinkLost s := rfl
@[simp] theorem exec_laneAlignmentLost (lane : Fin 2) : exec (.laneAlignmentLost lane) s = execLaneAlignmentLost lane s := rfl
@[simp] theorem exec_matePresChange (level : Bool) : exec (.matePresChange level) s = execMatePresChange level s := rfl
@[simp] theorem exec_matePresFault : exec (.matePresFault) s = execMatePresFault s := rfl
@[simp] theorem exec_canTxLoad (c : CanId) : exec (.canTxLoad c) s = execCanTxLoad c s := rfl
@[simp] theorem exec_frameSent (c : CanId) (buf : Fin 3) (stamp : Word) : exec (.frameSent c buf stamp) s = execFrameSent c buf stamp s := rfl
@[simp] theorem exec_txAttemptFailed (c : CanId) (buf : Fin 3) (how : TxFail) : exec (.txAttemptFailed c buf how) s = execTxAttemptFailed c buf how s := rfl
@[simp] theorem exec_canFrameReceived (c : CanId) (frame : CanFrame) (stamp : Word) : exec (.canFrameReceived c frame stamp) s = execCanFrameReceived c frame stamp s := rfl
@[simp] theorem exec_fdfReceived (c : CanId) : exec (.fdfReceived c) s = execFdfReceived c s := rfl
@[simp] theorem exec_canBusOff (c : CanId) : exec (.canBusOff c) s = execCanBusOff c s := rfl
@[simp] theorem exec_canRecovered (c : CanId) : exec (.canRecovered c) s = execCanRecovered c s := rfl
@[simp] theorem exec_canErrPassive (c : CanId) : exec (.canErrPassive c) s = execCanErrPassive c s := rfl
@[simp] theorem exec_pilotPeriod (periodTicks highTicks : Word) : exec (.pilotPeriod periodTicks highTicks) s = execPilotPeriod periodTicks highTicks s := rfl
@[simp] theorem exec_ppConversion (volts : F32) : exec (.ppConversion volts) s = execPpConversion volts s := rfl
@[simp] theorem exec_sourceValid : exec (.sourceValid) s = execSourceValid s := rfl
@[simp] theorem exec_chgTimerExpired : exec (.chgTimerExpired) s = execChgTimerExpired s := rfl
@[simp] theorem exec_peerRaiseTimeout : exec (.peerRaiseTimeout) s = execPeerRaiseTimeout s := rfl
@[simp] theorem exec_chargeDone : exec (.chargeDone) s = execChargeDone s := rfl
@[simp] theorem exec_batteryAbsent : exec (.batteryAbsent) s = execBatteryAbsent s := rfl
@[simp] theorem exec_spSourceLost (law : LawId) : exec (.spSourceLost law) s = execSpSourceLost law s := rfl
@[simp] theorem exec_spSourceBack (law : LawId) : exec (.spSourceBack law) s = execSpSourceBack law s := rfl
@[simp] theorem exec_followErr (law : LawId) : exec (.followErr law) s = execFollowErr law s := rfl
@[simp] theorem exec_rotorLost (side : Side) : exec (.rotorLost side) s = execRotorLost side s := rfl
@[simp] theorem exec_rotorCaught (side : Side) : exec (.rotorCaught side) s = execRotorCaught side s := rfl
@[simp] theorem exec_catchFailed (side : Side) : exec (.catchFailed side) s = execCatchFailed side s := rfl
@[simp] theorem exec_fluxLow (side : Side) : exec (.fluxLow side) s = execFluxLow side s := rfl
@[simp] theorem exec_fluxHigh (side : Side) : exec (.fluxHigh side) s = execFluxHigh side s := rfl
@[simp] theorem exec_actParked (a : ActId) : exec (.actParked a) s = execActParked a s := rfl
@[simp] theorem exec_chopperOpen : exec (.chopperOpen) s = execChopperOpen s := rfl
@[simp] theorem exec_chopperConducts : exec (.chopperConducts) s = execChopperConducts s := rfl
@[simp] theorem exec_disTimeout : exec (.disTimeout) s = execDisTimeout s := rfl
@[simp] theorem exec_sensBroken (k : Fin 8) : exec (.sensBroken k) s = execSensBroken k s := rfl
@[simp] theorem exec_throttleStep (ch : ThrCh) : exec (.throttleStep ch) s = execThrottleStep ch s := rfl
@[simp] theorem exec_hostLost : exec (.hostLost) s = execHostLost s := rfl
@[simp] theorem exec_darningStart (law : LawId) : exec (.darningStart law) s = execDarningStart law s := rfl
@[simp] theorem exec_darnDone (law : LawId) (back : Readback) : exec (.darnDone law back) s = execDarnDone law back s := rfl
@[simp] theorem exec_washSlot (law : LawId) (shadowOk : Bool) : exec (.washSlot law shadowOk) s = execWashSlot law shadowOk s := rfl
@[simp] theorem exec_washTestEnd (logic mem : Word) (failAddr : Half) (micros : Word) : exec (.washTestEnd logic mem failAddr micros) s = execWashTestEnd logic mem failAddr micros s := rfl
@[simp] theorem exec_selftestEnd (units : List UnitTest) : exec (.selftestEnd units) s = execSelftestEnd units s := rfl
@[simp] theorem exec_carrierEdge (b : BridgeId) (sw : Sw) (on : Bool) (copiesAgree : Bool) (node : NodeObs) : exec (.carrierEdge b sw on copiesAgree node) s = execCarrierEdge b sw on copiesAgree node s := rfl
@[simp] theorem exec_gpRailReady (volts : F32) : exec (.gpRailReady volts) s = execGpRailReady volts s := rfl
@[simp] theorem exec_gpHalfCycle (edgeSeen : Bool) : exec (.gpHalfCycle edgeSeen) s = execGpHalfCycle edgeSeen s := rfl
@[simp] theorem exec_gpCurrentLimit : exec (.gpCurrentLimit) s = execGpCurrentLimit s := rfl
@[simp] theorem exec_resetNAssert (lowTicks : Word) : exec (.resetNAssert lowTicks) s = execResetNAssert lowTicks s := rfl
@[simp] theorem exec_jtagInstruction (op : JtagOp) (pins : List Bool) : exec (.jtagInstruction op pins) s = execJtagInstruction op pins s := rfl
@[simp] theorem exec_pcieLinkUp : exec (.pcieLinkUp) s = execPcieLinkUp s := rfl
@[simp] theorem exec_pcieConfigWrite (cfg : PcieConfig) : exec (.pcieConfigWrite cfg) s = execPcieConfigWrite cfg s := rfl
@[simp] theorem exec_hostEndpointFault : exec (.hostEndpointFault) s = execHostEndpointFault s := rfl
@[simp] theorem exec_hawserFault : exec (.hawserFault) s = execHawserFault s := rfl
@[simp] theorem exec_canFault (c : CanId) : exec (.canFault c) s = execCanFault c s := rfl
@[simp] theorem exec_safeEnRise (land : Fin 2) : exec (.safeEnRise land) s = execSafeEnRise land s := rfl
@[simp] theorem exec_laneAligned : exec (.laneAligned) s = execLaneAligned s := rfl
@[simp] theorem exec_crossingSent (kind : CrossKind) : exec (.crossingSent kind) s = execCrossingSent kind s := rfl
@[simp] theorem exec_brkTestPulseEnd : exec (.brkTestPulseEnd) s = execBrkTestPulseEnd s := rfl
@[simp] theorem exec_windowHoldRelease (win : WinId) : exec (.windowHoldRelease win) s = execWindowHoldRelease win s := rfl
@[simp] theorem exec_errorFrame (c : CanId) (lec : BitVec 3) : exec (.errorFrame c lec) s = execErrorFrame c lec s := rfl

end Sys2Proof.Machine
end

