-- ==== Sys2Proof/Laws/State.lean ====
section
/-! SUPPORT. What each update of a unit leaves alone, one lemma per field, and what it writes: a proof about a command cites these and does not
unfold an update. -/

namespace Sys2Proof.Machine

/-- Units of different names have different places. -/
theorem rIx_inj {i j : RegionId} (h : rIx i = rIx j) : i = j := by cases i <;> cases j <;> simp_all [rIx]
theorem sIx_inj {i j : Side} (h : sIx i = sIx j) : i = j := by cases i <;> cases j <;> simp_all [sIx]
theorem bIx_inj {i j : BridgeId} (h : bIx i = bIx j) : i = j := by
  revert h; cases i <;> (cases j <;> first | (intro _; rfl) | (intro h; exact absurd h (by decide)))

variable (s : State)

/-! ### `modReg` -/

@[simp] theorem modReg_pending (i : RegionId) (f : Region → Region) : (s.modReg i f).pending = s.pending := rfl
@[simp] theorem modReg_power (i : RegionId) (f : Region → Region) : (s.modReg i f).power = s.power := rfl
@[simp] theorem modReg_tim (i : RegionId) (f : Region → Region) : (s.modReg i f).tim = s.tim := rfl
@[simp] theorem modReg_setup (i : RegionId) (f : Region → Region) : (s.modReg i f).setup = s.setup := rfl
@[simp] theorem modReg_setupPend (i : RegionId) (f : Region → Region) : (s.modReg i f).setupPend = s.setupPend := rfl
@[simp] theorem modReg_params (i : RegionId) (f : Region → Region) : (s.modReg i f).params = s.params := rfl
@[simp] theorem modReg_laws (i : RegionId) (f : Region → Region) : (s.modReg i f).laws = s.laws := rfl
@[simp] theorem modReg_bridges (i : RegionId) (f : Region → Region) : (s.modReg i f).bridges = s.bridges := rfl
@[simp] theorem modReg_gates (i : RegionId) (f : Region → Region) : (s.modReg i f).gates = s.gates := rfl
@[simp] theorem modReg_cpFault (i : RegionId) (f : Region → Region) : (s.modReg i f).cpFault = s.cpFault := rfl
@[simp] theorem modReg_chans (i : RegionId) (f : Region → Region) : (s.modReg i f).chans = s.chans := rfl
@[simp] theorem modReg_sns (i : RegionId) (f : Region → Region) : (s.modReg i f).sns = s.sns := rfl
@[simp] theorem modReg_wins (i : RegionId) (f : Region → Region) : (s.modReg i f).wins = s.wins := rfl
@[simp] theorem modReg_wsts (i : RegionId) (f : Region → Region) : (s.modReg i f).wsts = s.wsts := rfl
@[simp] theorem modReg_tripIn (i : RegionId) (f : Region → Region) : (s.modReg i f).tripIn = s.tripIn := rfl
@[simp] theorem modReg_tracts (i : RegionId) (f : Region → Region) : (s.modReg i f).tracts = s.tracts := rfl
@[simp] theorem modReg_span (i : RegionId) (f : Region → Region) : (s.modReg i f).span = s.span := rfl
@[simp] theorem modReg_chg (i : RegionId) (f : Region → Region) : (s.modReg i f).chg = s.chg := rfl
@[simp] theorem modReg_acts (i : RegionId) (f : Region → Region) : (s.modReg i f).acts = s.acts := rfl
@[simp] theorem modReg_brake (i : RegionId) (f : Region → Region) : (s.modReg i f).brake = s.brake := rfl
@[simp] theorem modReg_sto (i : RegionId) (f : Region → Region) : (s.modReg i f).sto = s.sto := rfl
@[simp] theorem modReg_therm (i : RegionId) (f : Region → Region) : (s.modReg i f).therm = s.therm := rfl
@[simp] theorem modReg_host (i : RegionId) (f : Region → Region) : (s.modReg i f).host = s.host := rfl
@[simp] theorem modReg_txn (i : RegionId) (f : Region → Region) : (s.modReg i f).txn = s.txn := rfl
@[simp] theorem modReg_haws (i : RegionId) (f : Region → Region) : (s.modReg i f).haws = s.haws := rfl
@[simp] theorem modReg_cans (i : RegionId) (f : Region → Region) : (s.modReg i f).cans = s.cans := rfl
@[simp] theorem modReg_chkIso (i : RegionId) (f : Region → Region) : (s.modReg i f).chkIso = s.chkIso := rfl
@[simp] theorem modReg_chks (i : RegionId) (f : Region → Region) : (s.modReg i f).chks = s.chks := rfl
@[simp] theorem modReg_wash (i : RegionId) (f : Region → Region) : (s.modReg i f).wash = s.wash := rfl
@[simp] theorem modReg_st (i : RegionId) (f : Region → Region) : (s.modReg i f).st = s.st := rfl
@[simp] theorem modReg_dbg (i : RegionId) (f : Region → Region) : (s.modReg i f).dbg = s.dbg := rfl
@[simp] theorem modReg_evq (i : RegionId) (f : Region → Region) : (s.modReg i f).evq = s.evq := rfl
@[simp] theorem modReg_readOut (i : RegionId) (f : Region → Region) : (s.modReg i f).readOut = s.readOut := rfl
@[simp] theorem modReg_free (i : RegionId) (f : Region → Region) : (s.modReg i f).free = s.free := rfl

/-! ### `modLaw` -/

@[simp] theorem modLaw_pending (i : LawId) (f : Law → Law) : (s.modLaw i f).pending = s.pending := rfl
@[simp] theorem modLaw_power (i : LawId) (f : Law → Law) : (s.modLaw i f).power = s.power := rfl
@[simp] theorem modLaw_tim (i : LawId) (f : Law → Law) : (s.modLaw i f).tim = s.tim := rfl
@[simp] theorem modLaw_setup (i : LawId) (f : Law → Law) : (s.modLaw i f).setup = s.setup := rfl
@[simp] theorem modLaw_setupPend (i : LawId) (f : Law → Law) : (s.modLaw i f).setupPend = s.setupPend := rfl
@[simp] theorem modLaw_params (i : LawId) (f : Law → Law) : (s.modLaw i f).params = s.params := rfl
@[simp] theorem modLaw_regions (i : LawId) (f : Law → Law) : (s.modLaw i f).regions = s.regions := rfl
@[simp] theorem modLaw_bridges (i : LawId) (f : Law → Law) : (s.modLaw i f).bridges = s.bridges := rfl
@[simp] theorem modLaw_gates (i : LawId) (f : Law → Law) : (s.modLaw i f).gates = s.gates := rfl
@[simp] theorem modLaw_cpFault (i : LawId) (f : Law → Law) : (s.modLaw i f).cpFault = s.cpFault := rfl
@[simp] theorem modLaw_chans (i : LawId) (f : Law → Law) : (s.modLaw i f).chans = s.chans := rfl
@[simp] theorem modLaw_sns (i : LawId) (f : Law → Law) : (s.modLaw i f).sns = s.sns := rfl
@[simp] theorem modLaw_wins (i : LawId) (f : Law → Law) : (s.modLaw i f).wins = s.wins := rfl
@[simp] theorem modLaw_wsts (i : LawId) (f : Law → Law) : (s.modLaw i f).wsts = s.wsts := rfl
@[simp] theorem modLaw_tripIn (i : LawId) (f : Law → Law) : (s.modLaw i f).tripIn = s.tripIn := rfl
@[simp] theorem modLaw_tracts (i : LawId) (f : Law → Law) : (s.modLaw i f).tracts = s.tracts := rfl
@[simp] theorem modLaw_span (i : LawId) (f : Law → Law) : (s.modLaw i f).span = s.span := rfl
@[simp] theorem modLaw_chg (i : LawId) (f : Law → Law) : (s.modLaw i f).chg = s.chg := rfl
@[simp] theorem modLaw_acts (i : LawId) (f : Law → Law) : (s.modLaw i f).acts = s.acts := rfl
@[simp] theorem modLaw_brake (i : LawId) (f : Law → Law) : (s.modLaw i f).brake = s.brake := rfl
@[simp] theorem modLaw_sto (i : LawId) (f : Law → Law) : (s.modLaw i f).sto = s.sto := rfl
@[simp] theorem modLaw_therm (i : LawId) (f : Law → Law) : (s.modLaw i f).therm = s.therm := rfl
@[simp] theorem modLaw_host (i : LawId) (f : Law → Law) : (s.modLaw i f).host = s.host := rfl
@[simp] theorem modLaw_txn (i : LawId) (f : Law → Law) : (s.modLaw i f).txn = s.txn := rfl
@[simp] theorem modLaw_haws (i : LawId) (f : Law → Law) : (s.modLaw i f).haws = s.haws := rfl
@[simp] theorem modLaw_cans (i : LawId) (f : Law → Law) : (s.modLaw i f).cans = s.cans := rfl
@[simp] theorem modLaw_chkIso (i : LawId) (f : Law → Law) : (s.modLaw i f).chkIso = s.chkIso := rfl
@[simp] theorem modLaw_chks (i : LawId) (f : Law → Law) : (s.modLaw i f).chks = s.chks := rfl
@[simp] theorem modLaw_wash (i : LawId) (f : Law → Law) : (s.modLaw i f).wash = s.wash := rfl
@[simp] theorem modLaw_st (i : LawId) (f : Law → Law) : (s.modLaw i f).st = s.st := rfl
@[simp] theorem modLaw_dbg (i : LawId) (f : Law → Law) : (s.modLaw i f).dbg = s.dbg := rfl
@[simp] theorem modLaw_evq (i : LawId) (f : Law → Law) : (s.modLaw i f).evq = s.evq := rfl
@[simp] theorem modLaw_readOut (i : LawId) (f : Law → Law) : (s.modLaw i f).readOut = s.readOut := rfl
@[simp] theorem modLaw_free (i : LawId) (f : Law → Law) : (s.modLaw i f).free = s.free := rfl

/-! ### `modBrg` -/

@[simp] theorem modBrg_pending (i : BridgeId) (f : Bridge → Bridge) : (s.modBrg i f).pending = s.pending := rfl
@[simp] theorem modBrg_power (i : BridgeId) (f : Bridge → Bridge) : (s.modBrg i f).power = s.power := rfl
@[simp] theorem modBrg_tim (i : BridgeId) (f : Bridge → Bridge) : (s.modBrg i f).tim = s.tim := rfl
@[simp] theorem modBrg_setup (i : BridgeId) (f : Bridge → Bridge) : (s.modBrg i f).setup = s.setup := rfl
@[simp] theorem modBrg_setupPend (i : BridgeId) (f : Bridge → Bridge) : (s.modBrg i f).setupPend = s.setupPend := rfl
@[simp] theorem modBrg_params (i : BridgeId) (f : Bridge → Bridge) : (s.modBrg i f).params = s.params := rfl
@[simp] theorem modBrg_regions (i : BridgeId) (f : Bridge → Bridge) : (s.modBrg i f).regions = s.regions := rfl
@[simp] theorem modBrg_laws (i : BridgeId) (f : Bridge → Bridge) : (s.modBrg i f).laws = s.laws := rfl
@[simp] theorem modBrg_gates (i : BridgeId) (f : Bridge → Bridge) : (s.modBrg i f).gates = s.gates := rfl
@[simp] theorem modBrg_cpFault (i : BridgeId) (f : Bridge → Bridge) : (s.modBrg i f).cpFault = s.cpFault := rfl
@[simp] theorem modBrg_chans (i : BridgeId) (f : Bridge → Bridge) : (s.modBrg i f).chans = s.chans := rfl
@[simp] theorem modBrg_sns (i : BridgeId) (f : Bridge → Bridge) : (s.modBrg i f).sns = s.sns := rfl
@[simp] theorem modBrg_wins (i : BridgeId) (f : Bridge → Bridge) : (s.modBrg i f).wins = s.wins := rfl
@[simp] theorem modBrg_wsts (i : BridgeId) (f : Bridge → Bridge) : (s.modBrg i f).wsts = s.wsts := rfl
@[simp] theorem modBrg_tripIn (i : BridgeId) (f : Bridge → Bridge) : (s.modBrg i f).tripIn = s.tripIn := rfl
@[simp] theorem modBrg_tracts (i : BridgeId) (f : Bridge → Bridge) : (s.modBrg i f).tracts = s.tracts := rfl
@[simp] theorem modBrg_span (i : BridgeId) (f : Bridge → Bridge) : (s.modBrg i f).span = s.span := rfl
@[simp] theorem modBrg_chg (i : BridgeId) (f : Bridge → Bridge) : (s.modBrg i f).chg = s.chg := rfl
@[simp] theorem modBrg_acts (i : BridgeId) (f : Bridge → Bridge) : (s.modBrg i f).acts = s.acts := rfl
@[simp] theorem modBrg_brake (i : BridgeId) (f : Bridge → Bridge) : (s.modBrg i f).brake = s.brake := rfl
@[simp] theorem modBrg_sto (i : BridgeId) (f : Bridge → Bridge) : (s.modBrg i f).sto = s.sto := rfl
@[simp] theorem modBrg_therm (i : BridgeId) (f : Bridge → Bridge) : (s.modBrg i f).therm = s.therm := rfl
@[simp] theorem modBrg_host (i : BridgeId) (f : Bridge → Bridge) : (s.modBrg i f).host = s.host := rfl
@[simp] theorem modBrg_txn (i : BridgeId) (f : Bridge → Bridge) : (s.modBrg i f).txn = s.txn := rfl
@[simp] theorem modBrg_haws (i : BridgeId) (f : Bridge → Bridge) : (s.modBrg i f).haws = s.haws := rfl
@[simp] theorem modBrg_cans (i : BridgeId) (f : Bridge → Bridge) : (s.modBrg i f).cans = s.cans := rfl
@[simp] theorem modBrg_chkIso (i : BridgeId) (f : Bridge → Bridge) : (s.modBrg i f).chkIso = s.chkIso := rfl
@[simp] theorem modBrg_chks (i : BridgeId) (f : Bridge → Bridge) : (s.modBrg i f).chks = s.chks := rfl
@[simp] theorem modBrg_wash (i : BridgeId) (f : Bridge → Bridge) : (s.modBrg i f).wash = s.wash := rfl
@[simp] theorem modBrg_st (i : BridgeId) (f : Bridge → Bridge) : (s.modBrg i f).st = s.st := rfl
@[simp] theorem modBrg_dbg (i : BridgeId) (f : Bridge → Bridge) : (s.modBrg i f).dbg = s.dbg := rfl
@[simp] theorem modBrg_evq (i : BridgeId) (f : Bridge → Bridge) : (s.modBrg i f).evq = s.evq := rfl
@[simp] theorem modBrg_readOut (i : BridgeId) (f : Bridge → Bridge) : (s.modBrg i f).readOut = s.readOut := rfl
@[simp] theorem modBrg_free (i : BridgeId) (f : Bridge → Bridge) : (s.modBrg i f).free = s.free := rfl

/-! ### `modGate` -/

@[simp] theorem modGate_pending (i : GsId) (f : Gate → Gate) : (s.modGate i f).pending = s.pending := rfl
@[simp] theorem modGate_power (i : GsId) (f : Gate → Gate) : (s.modGate i f).power = s.power := rfl
@[simp] theorem modGate_tim (i : GsId) (f : Gate → Gate) : (s.modGate i f).tim = s.tim := rfl
@[simp] theorem modGate_setup (i : GsId) (f : Gate → Gate) : (s.modGate i f).setup = s.setup := rfl
@[simp] theorem modGate_setupPend (i : GsId) (f : Gate → Gate) : (s.modGate i f).setupPend = s.setupPend := rfl
@[simp] theorem modGate_params (i : GsId) (f : Gate → Gate) : (s.modGate i f).params = s.params := rfl
@[simp] theorem modGate_regions (i : GsId) (f : Gate → Gate) : (s.modGate i f).regions = s.regions := rfl
@[simp] theorem modGate_laws (i : GsId) (f : Gate → Gate) : (s.modGate i f).laws = s.laws := rfl
@[simp] theorem modGate_bridges (i : GsId) (f : Gate → Gate) : (s.modGate i f).bridges = s.bridges := rfl
@[simp] theorem modGate_cpFault (i : GsId) (f : Gate → Gate) : (s.modGate i f).cpFault = s.cpFault := rfl
@[simp] theorem modGate_chans (i : GsId) (f : Gate → Gate) : (s.modGate i f).chans = s.chans := rfl
@[simp] theorem modGate_sns (i : GsId) (f : Gate → Gate) : (s.modGate i f).sns = s.sns := rfl
@[simp] theorem modGate_wins (i : GsId) (f : Gate → Gate) : (s.modGate i f).wins = s.wins := rfl
@[simp] theorem modGate_wsts (i : GsId) (f : Gate → Gate) : (s.modGate i f).wsts = s.wsts := rfl
@[simp] theorem modGate_tripIn (i : GsId) (f : Gate → Gate) : (s.modGate i f).tripIn = s.tripIn := rfl
@[simp] theorem modGate_tracts (i : GsId) (f : Gate → Gate) : (s.modGate i f).tracts = s.tracts := rfl
@[simp] theorem modGate_span (i : GsId) (f : Gate → Gate) : (s.modGate i f).span = s.span := rfl
@[simp] theorem modGate_chg (i : GsId) (f : Gate → Gate) : (s.modGate i f).chg = s.chg := rfl
@[simp] theorem modGate_acts (i : GsId) (f : Gate → Gate) : (s.modGate i f).acts = s.acts := rfl
@[simp] theorem modGate_brake (i : GsId) (f : Gate → Gate) : (s.modGate i f).brake = s.brake := rfl
@[simp] theorem modGate_sto (i : GsId) (f : Gate → Gate) : (s.modGate i f).sto = s.sto := rfl
@[simp] theorem modGate_therm (i : GsId) (f : Gate → Gate) : (s.modGate i f).therm = s.therm := rfl
@[simp] theorem modGate_host (i : GsId) (f : Gate → Gate) : (s.modGate i f).host = s.host := rfl
@[simp] theorem modGate_txn (i : GsId) (f : Gate → Gate) : (s.modGate i f).txn = s.txn := rfl
@[simp] theorem modGate_haws (i : GsId) (f : Gate → Gate) : (s.modGate i f).haws = s.haws := rfl
@[simp] theorem modGate_cans (i : GsId) (f : Gate → Gate) : (s.modGate i f).cans = s.cans := rfl
@[simp] theorem modGate_chkIso (i : GsId) (f : Gate → Gate) : (s.modGate i f).chkIso = s.chkIso := rfl
@[simp] theorem modGate_chks (i : GsId) (f : Gate → Gate) : (s.modGate i f).chks = s.chks := rfl
@[simp] theorem modGate_wash (i : GsId) (f : Gate → Gate) : (s.modGate i f).wash = s.wash := rfl
@[simp] theorem modGate_st (i : GsId) (f : Gate → Gate) : (s.modGate i f).st = s.st := rfl
@[simp] theorem modGate_dbg (i : GsId) (f : Gate → Gate) : (s.modGate i f).dbg = s.dbg := rfl
@[simp] theorem modGate_evq (i : GsId) (f : Gate → Gate) : (s.modGate i f).evq = s.evq := rfl
@[simp] theorem modGate_readOut (i : GsId) (f : Gate → Gate) : (s.modGate i f).readOut = s.readOut := rfl
@[simp] theorem modGate_free (i : GsId) (f : Gate → Gate) : (s.modGate i f).free = s.free := rfl

/-! ### `modChan` -/

@[simp] theorem modChan_pending (i : ChanId) (f : Chan → Chan) : (s.modChan i f).pending = s.pending := rfl
@[simp] theorem modChan_power (i : ChanId) (f : Chan → Chan) : (s.modChan i f).power = s.power := rfl
@[simp] theorem modChan_tim (i : ChanId) (f : Chan → Chan) : (s.modChan i f).tim = s.tim := rfl
@[simp] theorem modChan_setup (i : ChanId) (f : Chan → Chan) : (s.modChan i f).setup = s.setup := rfl
@[simp] theorem modChan_setupPend (i : ChanId) (f : Chan → Chan) : (s.modChan i f).setupPend = s.setupPend := rfl
@[simp] theorem modChan_params (i : ChanId) (f : Chan → Chan) : (s.modChan i f).params = s.params := rfl
@[simp] theorem modChan_regions (i : ChanId) (f : Chan → Chan) : (s.modChan i f).regions = s.regions := rfl
@[simp] theorem modChan_laws (i : ChanId) (f : Chan → Chan) : (s.modChan i f).laws = s.laws := rfl
@[simp] theorem modChan_bridges (i : ChanId) (f : Chan → Chan) : (s.modChan i f).bridges = s.bridges := rfl
@[simp] theorem modChan_gates (i : ChanId) (f : Chan → Chan) : (s.modChan i f).gates = s.gates := rfl
@[simp] theorem modChan_cpFault (i : ChanId) (f : Chan → Chan) : (s.modChan i f).cpFault = s.cpFault := rfl
@[simp] theorem modChan_sns (i : ChanId) (f : Chan → Chan) : (s.modChan i f).sns = s.sns := rfl
@[simp] theorem modChan_wins (i : ChanId) (f : Chan → Chan) : (s.modChan i f).wins = s.wins := rfl
@[simp] theorem modChan_wsts (i : ChanId) (f : Chan → Chan) : (s.modChan i f).wsts = s.wsts := rfl
@[simp] theorem modChan_tripIn (i : ChanId) (f : Chan → Chan) : (s.modChan i f).tripIn = s.tripIn := rfl
@[simp] theorem modChan_tracts (i : ChanId) (f : Chan → Chan) : (s.modChan i f).tracts = s.tracts := rfl
@[simp] theorem modChan_span (i : ChanId) (f : Chan → Chan) : (s.modChan i f).span = s.span := rfl
@[simp] theorem modChan_chg (i : ChanId) (f : Chan → Chan) : (s.modChan i f).chg = s.chg := rfl
@[simp] theorem modChan_acts (i : ChanId) (f : Chan → Chan) : (s.modChan i f).acts = s.acts := rfl
@[simp] theorem modChan_brake (i : ChanId) (f : Chan → Chan) : (s.modChan i f).brake = s.brake := rfl
@[simp] theorem modChan_sto (i : ChanId) (f : Chan → Chan) : (s.modChan i f).sto = s.sto := rfl
@[simp] theorem modChan_therm (i : ChanId) (f : Chan → Chan) : (s.modChan i f).therm = s.therm := rfl
@[simp] theorem modChan_host (i : ChanId) (f : Chan → Chan) : (s.modChan i f).host = s.host := rfl
@[simp] theorem modChan_txn (i : ChanId) (f : Chan → Chan) : (s.modChan i f).txn = s.txn := rfl
@[simp] theorem modChan_haws (i : ChanId) (f : Chan → Chan) : (s.modChan i f).haws = s.haws := rfl
@[simp] theorem modChan_cans (i : ChanId) (f : Chan → Chan) : (s.modChan i f).cans = s.cans := rfl
@[simp] theorem modChan_chkIso (i : ChanId) (f : Chan → Chan) : (s.modChan i f).chkIso = s.chkIso := rfl
@[simp] theorem modChan_chks (i : ChanId) (f : Chan → Chan) : (s.modChan i f).chks = s.chks := rfl
@[simp] theorem modChan_wash (i : ChanId) (f : Chan → Chan) : (s.modChan i f).wash = s.wash := rfl
@[simp] theorem modChan_st (i : ChanId) (f : Chan → Chan) : (s.modChan i f).st = s.st := rfl
@[simp] theorem modChan_dbg (i : ChanId) (f : Chan → Chan) : (s.modChan i f).dbg = s.dbg := rfl
@[simp] theorem modChan_evq (i : ChanId) (f : Chan → Chan) : (s.modChan i f).evq = s.evq := rfl
@[simp] theorem modChan_readOut (i : ChanId) (f : Chan → Chan) : (s.modChan i f).readOut = s.readOut := rfl
@[simp] theorem modChan_free (i : ChanId) (f : Chan → Chan) : (s.modChan i f).free = s.free := rfl

/-! ### `modSns` -/

@[simp] theorem modSns_pending (i : SnsId) (f : Sns → Sns) : (s.modSns i f).pending = s.pending := rfl
@[simp] theorem modSns_power (i : SnsId) (f : Sns → Sns) : (s.modSns i f).power = s.power := rfl
@[simp] theorem modSns_tim (i : SnsId) (f : Sns → Sns) : (s.modSns i f).tim = s.tim := rfl
@[simp] theorem modSns_setup (i : SnsId) (f : Sns → Sns) : (s.modSns i f).setup = s.setup := rfl
@[simp] theorem modSns_setupPend (i : SnsId) (f : Sns → Sns) : (s.modSns i f).setupPend = s.setupPend := rfl
@[simp] theorem modSns_params (i : SnsId) (f : Sns → Sns) : (s.modSns i f).params = s.params := rfl
@[simp] theorem modSns_regions (i : SnsId) (f : Sns → Sns) : (s.modSns i f).regions = s.regions := rfl
@[simp] theorem modSns_laws (i : SnsId) (f : Sns → Sns) : (s.modSns i f).laws = s.laws := rfl
@[simp] theorem modSns_bridges (i : SnsId) (f : Sns → Sns) : (s.modSns i f).bridges = s.bridges := rfl
@[simp] theorem modSns_gates (i : SnsId) (f : Sns → Sns) : (s.modSns i f).gates = s.gates := rfl
@[simp] theorem modSns_cpFault (i : SnsId) (f : Sns → Sns) : (s.modSns i f).cpFault = s.cpFault := rfl
@[simp] theorem modSns_chans (i : SnsId) (f : Sns → Sns) : (s.modSns i f).chans = s.chans := rfl
@[simp] theorem modSns_wins (i : SnsId) (f : Sns → Sns) : (s.modSns i f).wins = s.wins := rfl
@[simp] theorem modSns_wsts (i : SnsId) (f : Sns → Sns) : (s.modSns i f).wsts = s.wsts := rfl
@[simp] theorem modSns_tripIn (i : SnsId) (f : Sns → Sns) : (s.modSns i f).tripIn = s.tripIn := rfl
@[simp] theorem modSns_tracts (i : SnsId) (f : Sns → Sns) : (s.modSns i f).tracts = s.tracts := rfl
@[simp] theorem modSns_span (i : SnsId) (f : Sns → Sns) : (s.modSns i f).span = s.span := rfl
@[simp] theorem modSns_chg (i : SnsId) (f : Sns → Sns) : (s.modSns i f).chg = s.chg := rfl
@[simp] theorem modSns_acts (i : SnsId) (f : Sns → Sns) : (s.modSns i f).acts = s.acts := rfl
@[simp] theorem modSns_brake (i : SnsId) (f : Sns → Sns) : (s.modSns i f).brake = s.brake := rfl
@[simp] theorem modSns_sto (i : SnsId) (f : Sns → Sns) : (s.modSns i f).sto = s.sto := rfl
@[simp] theorem modSns_therm (i : SnsId) (f : Sns → Sns) : (s.modSns i f).therm = s.therm := rfl
@[simp] theorem modSns_host (i : SnsId) (f : Sns → Sns) : (s.modSns i f).host = s.host := rfl
@[simp] theorem modSns_txn (i : SnsId) (f : Sns → Sns) : (s.modSns i f).txn = s.txn := rfl
@[simp] theorem modSns_haws (i : SnsId) (f : Sns → Sns) : (s.modSns i f).haws = s.haws := rfl
@[simp] theorem modSns_cans (i : SnsId) (f : Sns → Sns) : (s.modSns i f).cans = s.cans := rfl
@[simp] theorem modSns_chkIso (i : SnsId) (f : Sns → Sns) : (s.modSns i f).chkIso = s.chkIso := rfl
@[simp] theorem modSns_chks (i : SnsId) (f : Sns → Sns) : (s.modSns i f).chks = s.chks := rfl
@[simp] theorem modSns_wash (i : SnsId) (f : Sns → Sns) : (s.modSns i f).wash = s.wash := rfl
@[simp] theorem modSns_st (i : SnsId) (f : Sns → Sns) : (s.modSns i f).st = s.st := rfl
@[simp] theorem modSns_dbg (i : SnsId) (f : Sns → Sns) : (s.modSns i f).dbg = s.dbg := rfl
@[simp] theorem modSns_evq (i : SnsId) (f : Sns → Sns) : (s.modSns i f).evq = s.evq := rfl
@[simp] theorem modSns_readOut (i : SnsId) (f : Sns → Sns) : (s.modSns i f).readOut = s.readOut := rfl
@[simp] theorem modSns_free (i : SnsId) (f : Sns → Sns) : (s.modSns i f).free = s.free := rfl

/-! ### `modWin` -/

@[simp] theorem modWin_pending (i : WinId) (f : Win → Win) : (s.modWin i f).pending = s.pending := rfl
@[simp] theorem modWin_power (i : WinId) (f : Win → Win) : (s.modWin i f).power = s.power := rfl
@[simp] theorem modWin_tim (i : WinId) (f : Win → Win) : (s.modWin i f).tim = s.tim := rfl
@[simp] theorem modWin_setup (i : WinId) (f : Win → Win) : (s.modWin i f).setup = s.setup := rfl
@[simp] theorem modWin_setupPend (i : WinId) (f : Win → Win) : (s.modWin i f).setupPend = s.setupPend := rfl
@[simp] theorem modWin_params (i : WinId) (f : Win → Win) : (s.modWin i f).params = s.params := rfl
@[simp] theorem modWin_regions (i : WinId) (f : Win → Win) : (s.modWin i f).regions = s.regions := rfl
@[simp] theorem modWin_laws (i : WinId) (f : Win → Win) : (s.modWin i f).laws = s.laws := rfl
@[simp] theorem modWin_bridges (i : WinId) (f : Win → Win) : (s.modWin i f).bridges = s.bridges := rfl
@[simp] theorem modWin_gates (i : WinId) (f : Win → Win) : (s.modWin i f).gates = s.gates := rfl
@[simp] theorem modWin_cpFault (i : WinId) (f : Win → Win) : (s.modWin i f).cpFault = s.cpFault := rfl
@[simp] theorem modWin_chans (i : WinId) (f : Win → Win) : (s.modWin i f).chans = s.chans := rfl
@[simp] theorem modWin_sns (i : WinId) (f : Win → Win) : (s.modWin i f).sns = s.sns := rfl
@[simp] theorem modWin_wsts (i : WinId) (f : Win → Win) : (s.modWin i f).wsts = s.wsts := rfl
@[simp] theorem modWin_tripIn (i : WinId) (f : Win → Win) : (s.modWin i f).tripIn = s.tripIn := rfl
@[simp] theorem modWin_tracts (i : WinId) (f : Win → Win) : (s.modWin i f).tracts = s.tracts := rfl
@[simp] theorem modWin_span (i : WinId) (f : Win → Win) : (s.modWin i f).span = s.span := rfl
@[simp] theorem modWin_chg (i : WinId) (f : Win → Win) : (s.modWin i f).chg = s.chg := rfl
@[simp] theorem modWin_acts (i : WinId) (f : Win → Win) : (s.modWin i f).acts = s.acts := rfl
@[simp] theorem modWin_brake (i : WinId) (f : Win → Win) : (s.modWin i f).brake = s.brake := rfl
@[simp] theorem modWin_sto (i : WinId) (f : Win → Win) : (s.modWin i f).sto = s.sto := rfl
@[simp] theorem modWin_therm (i : WinId) (f : Win → Win) : (s.modWin i f).therm = s.therm := rfl
@[simp] theorem modWin_host (i : WinId) (f : Win → Win) : (s.modWin i f).host = s.host := rfl
@[simp] theorem modWin_txn (i : WinId) (f : Win → Win) : (s.modWin i f).txn = s.txn := rfl
@[simp] theorem modWin_haws (i : WinId) (f : Win → Win) : (s.modWin i f).haws = s.haws := rfl
@[simp] theorem modWin_cans (i : WinId) (f : Win → Win) : (s.modWin i f).cans = s.cans := rfl
@[simp] theorem modWin_chkIso (i : WinId) (f : Win → Win) : (s.modWin i f).chkIso = s.chkIso := rfl
@[simp] theorem modWin_chks (i : WinId) (f : Win → Win) : (s.modWin i f).chks = s.chks := rfl
@[simp] theorem modWin_wash (i : WinId) (f : Win → Win) : (s.modWin i f).wash = s.wash := rfl
@[simp] theorem modWin_st (i : WinId) (f : Win → Win) : (s.modWin i f).st = s.st := rfl
@[simp] theorem modWin_dbg (i : WinId) (f : Win → Win) : (s.modWin i f).dbg = s.dbg := rfl
@[simp] theorem modWin_evq (i : WinId) (f : Win → Win) : (s.modWin i f).evq = s.evq := rfl
@[simp] theorem modWin_readOut (i : WinId) (f : Win → Win) : (s.modWin i f).readOut = s.readOut := rfl
@[simp] theorem modWin_free (i : WinId) (f : Win → Win) : (s.modWin i f).free = s.free := rfl

/-! ### `modWst` -/

@[simp] theorem modWst_pending (i : Fin 3) (f : Wst → Wst) : (s.modWst i f).pending = s.pending := rfl
@[simp] theorem modWst_power (i : Fin 3) (f : Wst → Wst) : (s.modWst i f).power = s.power := rfl
@[simp] theorem modWst_tim (i : Fin 3) (f : Wst → Wst) : (s.modWst i f).tim = s.tim := rfl
@[simp] theorem modWst_setup (i : Fin 3) (f : Wst → Wst) : (s.modWst i f).setup = s.setup := rfl
@[simp] theorem modWst_setupPend (i : Fin 3) (f : Wst → Wst) : (s.modWst i f).setupPend = s.setupPend := rfl
@[simp] theorem modWst_params (i : Fin 3) (f : Wst → Wst) : (s.modWst i f).params = s.params := rfl
@[simp] theorem modWst_regions (i : Fin 3) (f : Wst → Wst) : (s.modWst i f).regions = s.regions := rfl
@[simp] theorem modWst_laws (i : Fin 3) (f : Wst → Wst) : (s.modWst i f).laws = s.laws := rfl
@[simp] theorem modWst_bridges (i : Fin 3) (f : Wst → Wst) : (s.modWst i f).bridges = s.bridges := rfl
@[simp] theorem modWst_gates (i : Fin 3) (f : Wst → Wst) : (s.modWst i f).gates = s.gates := rfl
@[simp] theorem modWst_cpFault (i : Fin 3) (f : Wst → Wst) : (s.modWst i f).cpFault = s.cpFault := rfl
@[simp] theorem modWst_chans (i : Fin 3) (f : Wst → Wst) : (s.modWst i f).chans = s.chans := rfl
@[simp] theorem modWst_sns (i : Fin 3) (f : Wst → Wst) : (s.modWst i f).sns = s.sns := rfl
@[simp] theorem modWst_wins (i : Fin 3) (f : Wst → Wst) : (s.modWst i f).wins = s.wins := rfl
@[simp] theorem modWst_tripIn (i : Fin 3) (f : Wst → Wst) : (s.modWst i f).tripIn = s.tripIn := rfl
@[simp] theorem modWst_tracts (i : Fin 3) (f : Wst → Wst) : (s.modWst i f).tracts = s.tracts := rfl
@[simp] theorem modWst_span (i : Fin 3) (f : Wst → Wst) : (s.modWst i f).span = s.span := rfl
@[simp] theorem modWst_chg (i : Fin 3) (f : Wst → Wst) : (s.modWst i f).chg = s.chg := rfl
@[simp] theorem modWst_acts (i : Fin 3) (f : Wst → Wst) : (s.modWst i f).acts = s.acts := rfl
@[simp] theorem modWst_brake (i : Fin 3) (f : Wst → Wst) : (s.modWst i f).brake = s.brake := rfl
@[simp] theorem modWst_sto (i : Fin 3) (f : Wst → Wst) : (s.modWst i f).sto = s.sto := rfl
@[simp] theorem modWst_therm (i : Fin 3) (f : Wst → Wst) : (s.modWst i f).therm = s.therm := rfl
@[simp] theorem modWst_host (i : Fin 3) (f : Wst → Wst) : (s.modWst i f).host = s.host := rfl
@[simp] theorem modWst_txn (i : Fin 3) (f : Wst → Wst) : (s.modWst i f).txn = s.txn := rfl
@[simp] theorem modWst_haws (i : Fin 3) (f : Wst → Wst) : (s.modWst i f).haws = s.haws := rfl
@[simp] theorem modWst_cans (i : Fin 3) (f : Wst → Wst) : (s.modWst i f).cans = s.cans := rfl
@[simp] theorem modWst_chkIso (i : Fin 3) (f : Wst → Wst) : (s.modWst i f).chkIso = s.chkIso := rfl
@[simp] theorem modWst_chks (i : Fin 3) (f : Wst → Wst) : (s.modWst i f).chks = s.chks := rfl
@[simp] theorem modWst_wash (i : Fin 3) (f : Wst → Wst) : (s.modWst i f).wash = s.wash := rfl
@[simp] theorem modWst_st (i : Fin 3) (f : Wst → Wst) : (s.modWst i f).st = s.st := rfl
@[simp] theorem modWst_dbg (i : Fin 3) (f : Wst → Wst) : (s.modWst i f).dbg = s.dbg := rfl
@[simp] theorem modWst_evq (i : Fin 3) (f : Wst → Wst) : (s.modWst i f).evq = s.evq := rfl
@[simp] theorem modWst_readOut (i : Fin 3) (f : Wst → Wst) : (s.modWst i f).readOut = s.readOut := rfl
@[simp] theorem modWst_free (i : Fin 3) (f : Wst → Wst) : (s.modWst i f).free = s.free := rfl

/-! ### `modTr` -/

@[simp] theorem modTr_pending (i : Side) (f : Traction → Traction) : (s.modTr i f).pending = s.pending := rfl
@[simp] theorem modTr_power (i : Side) (f : Traction → Traction) : (s.modTr i f).power = s.power := rfl
@[simp] theorem modTr_tim (i : Side) (f : Traction → Traction) : (s.modTr i f).tim = s.tim := rfl
@[simp] theorem modTr_setup (i : Side) (f : Traction → Traction) : (s.modTr i f).setup = s.setup := rfl
@[simp] theorem modTr_setupPend (i : Side) (f : Traction → Traction) : (s.modTr i f).setupPend = s.setupPend := rfl
@[simp] theorem modTr_params (i : Side) (f : Traction → Traction) : (s.modTr i f).params = s.params := rfl
@[simp] theorem modTr_regions (i : Side) (f : Traction → Traction) : (s.modTr i f).regions = s.regions := rfl
@[simp] theorem modTr_laws (i : Side) (f : Traction → Traction) : (s.modTr i f).laws = s.laws := rfl
@[simp] theorem modTr_bridges (i : Side) (f : Traction → Traction) : (s.modTr i f).bridges = s.bridges := rfl
@[simp] theorem modTr_gates (i : Side) (f : Traction → Traction) : (s.modTr i f).gates = s.gates := rfl
@[simp] theorem modTr_cpFault (i : Side) (f : Traction → Traction) : (s.modTr i f).cpFault = s.cpFault := rfl
@[simp] theorem modTr_chans (i : Side) (f : Traction → Traction) : (s.modTr i f).chans = s.chans := rfl
@[simp] theorem modTr_sns (i : Side) (f : Traction → Traction) : (s.modTr i f).sns = s.sns := rfl
@[simp] theorem modTr_wins (i : Side) (f : Traction → Traction) : (s.modTr i f).wins = s.wins := rfl
@[simp] theorem modTr_wsts (i : Side) (f : Traction → Traction) : (s.modTr i f).wsts = s.wsts := rfl
@[simp] theorem modTr_tripIn (i : Side) (f : Traction → Traction) : (s.modTr i f).tripIn = s.tripIn := rfl
@[simp] theorem modTr_span (i : Side) (f : Traction → Traction) : (s.modTr i f).span = s.span := rfl
@[simp] theorem modTr_chg (i : Side) (f : Traction → Traction) : (s.modTr i f).chg = s.chg := rfl
@[simp] theorem modTr_acts (i : Side) (f : Traction → Traction) : (s.modTr i f).acts = s.acts := rfl
@[simp] theorem modTr_brake (i : Side) (f : Traction → Traction) : (s.modTr i f).brake = s.brake := rfl
@[simp] theorem modTr_sto (i : Side) (f : Traction → Traction) : (s.modTr i f).sto = s.sto := rfl
@[simp] theorem modTr_therm (i : Side) (f : Traction → Traction) : (s.modTr i f).therm = s.therm := rfl
@[simp] theorem modTr_host (i : Side) (f : Traction → Traction) : (s.modTr i f).host = s.host := rfl
@[simp] theorem modTr_txn (i : Side) (f : Traction → Traction) : (s.modTr i f).txn = s.txn := rfl
@[simp] theorem modTr_haws (i : Side) (f : Traction → Traction) : (s.modTr i f).haws = s.haws := rfl
@[simp] theorem modTr_cans (i : Side) (f : Traction → Traction) : (s.modTr i f).cans = s.cans := rfl
@[simp] theorem modTr_chkIso (i : Side) (f : Traction → Traction) : (s.modTr i f).chkIso = s.chkIso := rfl
@[simp] theorem modTr_chks (i : Side) (f : Traction → Traction) : (s.modTr i f).chks = s.chks := rfl
@[simp] theorem modTr_wash (i : Side) (f : Traction → Traction) : (s.modTr i f).wash = s.wash := rfl
@[simp] theorem modTr_st (i : Side) (f : Traction → Traction) : (s.modTr i f).st = s.st := rfl
@[simp] theorem modTr_dbg (i : Side) (f : Traction → Traction) : (s.modTr i f).dbg = s.dbg := rfl
@[simp] theorem modTr_evq (i : Side) (f : Traction → Traction) : (s.modTr i f).evq = s.evq := rfl
@[simp] theorem modTr_readOut (i : Side) (f : Traction → Traction) : (s.modTr i f).readOut = s.readOut := rfl
@[simp] theorem modTr_free (i : Side) (f : Traction → Traction) : (s.modTr i f).free = s.free := rfl

/-! ### `modAct` -/

@[simp] theorem modAct_pending (i : ActId) (f : Actuator → Actuator) : (s.modAct i f).pending = s.pending := rfl
@[simp] theorem modAct_power (i : ActId) (f : Actuator → Actuator) : (s.modAct i f).power = s.power := rfl
@[simp] theorem modAct_tim (i : ActId) (f : Actuator → Actuator) : (s.modAct i f).tim = s.tim := rfl
@[simp] theorem modAct_setup (i : ActId) (f : Actuator → Actuator) : (s.modAct i f).setup = s.setup := rfl
@[simp] theorem modAct_setupPend (i : ActId) (f : Actuator → Actuator) : (s.modAct i f).setupPend = s.setupPend := rfl
@[simp] theorem modAct_params (i : ActId) (f : Actuator → Actuator) : (s.modAct i f).params = s.params := rfl
@[simp] theorem modAct_regions (i : ActId) (f : Actuator → Actuator) : (s.modAct i f).regions = s.regions := rfl
@[simp] theorem modAct_laws (i : ActId) (f : Actuator → Actuator) : (s.modAct i f).laws = s.laws := rfl
@[simp] theorem modAct_bridges (i : ActId) (f : Actuator → Actuator) : (s.modAct i f).bridges = s.bridges := rfl
@[simp] theorem modAct_gates (i : ActId) (f : Actuator → Actuator) : (s.modAct i f).gates = s.gates := rfl
@[simp] theorem modAct_cpFault (i : ActId) (f : Actuator → Actuator) : (s.modAct i f).cpFault = s.cpFault := rfl
@[simp] theorem modAct_chans (i : ActId) (f : Actuator → Actuator) : (s.modAct i f).chans = s.chans := rfl
@[simp] theorem modAct_sns (i : ActId) (f : Actuator → Actuator) : (s.modAct i f).sns = s.sns := rfl
@[simp] theorem modAct_wins (i : ActId) (f : Actuator → Actuator) : (s.modAct i f).wins = s.wins := rfl
@[simp] theorem modAct_wsts (i : ActId) (f : Actuator → Actuator) : (s.modAct i f).wsts = s.wsts := rfl
@[simp] theorem modAct_tripIn (i : ActId) (f : Actuator → Actuator) : (s.modAct i f).tripIn = s.tripIn := rfl
@[simp] theorem modAct_tracts (i : ActId) (f : Actuator → Actuator) : (s.modAct i f).tracts = s.tracts := rfl
@[simp] theorem modAct_span (i : ActId) (f : Actuator → Actuator) : (s.modAct i f).span = s.span := rfl
@[simp] theorem modAct_chg (i : ActId) (f : Actuator → Actuator) : (s.modAct i f).chg = s.chg := rfl
@[simp] theorem modAct_brake (i : ActId) (f : Actuator → Actuator) : (s.modAct i f).brake = s.brake := rfl
@[simp] theorem modAct_sto (i : ActId) (f : Actuator → Actuator) : (s.modAct i f).sto = s.sto := rfl
@[simp] theorem modAct_therm (i : ActId) (f : Actuator → Actuator) : (s.modAct i f).therm = s.therm := rfl
@[simp] theorem modAct_host (i : ActId) (f : Actuator → Actuator) : (s.modAct i f).host = s.host := rfl
@[simp] theorem modAct_txn (i : ActId) (f : Actuator → Actuator) : (s.modAct i f).txn = s.txn := rfl
@[simp] theorem modAct_haws (i : ActId) (f : Actuator → Actuator) : (s.modAct i f).haws = s.haws := rfl
@[simp] theorem modAct_cans (i : ActId) (f : Actuator → Actuator) : (s.modAct i f).cans = s.cans := rfl
@[simp] theorem modAct_chkIso (i : ActId) (f : Actuator → Actuator) : (s.modAct i f).chkIso = s.chkIso := rfl
@[simp] theorem modAct_chks (i : ActId) (f : Actuator → Actuator) : (s.modAct i f).chks = s.chks := rfl
@[simp] theorem modAct_wash (i : ActId) (f : Actuator → Actuator) : (s.modAct i f).wash = s.wash := rfl
@[simp] theorem modAct_st (i : ActId) (f : Actuator → Actuator) : (s.modAct i f).st = s.st := rfl
@[simp] theorem modAct_dbg (i : ActId) (f : Actuator → Actuator) : (s.modAct i f).dbg = s.dbg := rfl
@[simp] theorem modAct_evq (i : ActId) (f : Actuator → Actuator) : (s.modAct i f).evq = s.evq := rfl
@[simp] theorem modAct_readOut (i : ActId) (f : Actuator → Actuator) : (s.modAct i f).readOut = s.readOut := rfl
@[simp] theorem modAct_free (i : ActId) (f : Actuator → Actuator) : (s.modAct i f).free = s.free := rfl

/-! ### `modCan` -/

@[simp] theorem modCan_pending (i : CanId) (f : Can → Can) : (s.modCan i f).pending = s.pending := rfl
@[simp] theorem modCan_power (i : CanId) (f : Can → Can) : (s.modCan i f).power = s.power := rfl
@[simp] theorem modCan_tim (i : CanId) (f : Can → Can) : (s.modCan i f).tim = s.tim := rfl
@[simp] theorem modCan_setup (i : CanId) (f : Can → Can) : (s.modCan i f).setup = s.setup := rfl
@[simp] theorem modCan_setupPend (i : CanId) (f : Can → Can) : (s.modCan i f).setupPend = s.setupPend := rfl
@[simp] theorem modCan_params (i : CanId) (f : Can → Can) : (s.modCan i f).params = s.params := rfl
@[simp] theorem modCan_regions (i : CanId) (f : Can → Can) : (s.modCan i f).regions = s.regions := rfl
@[simp] theorem modCan_laws (i : CanId) (f : Can → Can) : (s.modCan i f).laws = s.laws := rfl
@[simp] theorem modCan_bridges (i : CanId) (f : Can → Can) : (s.modCan i f).bridges = s.bridges := rfl
@[simp] theorem modCan_gates (i : CanId) (f : Can → Can) : (s.modCan i f).gates = s.gates := rfl
@[simp] theorem modCan_cpFault (i : CanId) (f : Can → Can) : (s.modCan i f).cpFault = s.cpFault := rfl
@[simp] theorem modCan_chans (i : CanId) (f : Can → Can) : (s.modCan i f).chans = s.chans := rfl
@[simp] theorem modCan_sns (i : CanId) (f : Can → Can) : (s.modCan i f).sns = s.sns := rfl
@[simp] theorem modCan_wins (i : CanId) (f : Can → Can) : (s.modCan i f).wins = s.wins := rfl
@[simp] theorem modCan_wsts (i : CanId) (f : Can → Can) : (s.modCan i f).wsts = s.wsts := rfl
@[simp] theorem modCan_tripIn (i : CanId) (f : Can → Can) : (s.modCan i f).tripIn = s.tripIn := rfl
@[simp] theorem modCan_tracts (i : CanId) (f : Can → Can) : (s.modCan i f).tracts = s.tracts := rfl
@[simp] theorem modCan_span (i : CanId) (f : Can → Can) : (s.modCan i f).span = s.span := rfl
@[simp] theorem modCan_chg (i : CanId) (f : Can → Can) : (s.modCan i f).chg = s.chg := rfl
@[simp] theorem modCan_acts (i : CanId) (f : Can → Can) : (s.modCan i f).acts = s.acts := rfl
@[simp] theorem modCan_brake (i : CanId) (f : Can → Can) : (s.modCan i f).brake = s.brake := rfl
@[simp] theorem modCan_sto (i : CanId) (f : Can → Can) : (s.modCan i f).sto = s.sto := rfl
@[simp] theorem modCan_therm (i : CanId) (f : Can → Can) : (s.modCan i f).therm = s.therm := rfl
@[simp] theorem modCan_host (i : CanId) (f : Can → Can) : (s.modCan i f).host = s.host := rfl
@[simp] theorem modCan_txn (i : CanId) (f : Can → Can) : (s.modCan i f).txn = s.txn := rfl
@[simp] theorem modCan_haws (i : CanId) (f : Can → Can) : (s.modCan i f).haws = s.haws := rfl
@[simp] theorem modCan_chkIso (i : CanId) (f : Can → Can) : (s.modCan i f).chkIso = s.chkIso := rfl
@[simp] theorem modCan_chks (i : CanId) (f : Can → Can) : (s.modCan i f).chks = s.chks := rfl
@[simp] theorem modCan_wash (i : CanId) (f : Can → Can) : (s.modCan i f).wash = s.wash := rfl
@[simp] theorem modCan_st (i : CanId) (f : Can → Can) : (s.modCan i f).st = s.st := rfl
@[simp] theorem modCan_dbg (i : CanId) (f : Can → Can) : (s.modCan i f).dbg = s.dbg := rfl
@[simp] theorem modCan_evq (i : CanId) (f : Can → Can) : (s.modCan i f).evq = s.evq := rfl
@[simp] theorem modCan_readOut (i : CanId) (f : Can → Can) : (s.modCan i f).readOut = s.readOut := rfl
@[simp] theorem modCan_free (i : CanId) (f : Can → Can) : (s.modCan i f).free = s.free := rfl

/-! ### `modChk` -/

@[simp] theorem modChk_pending (i : ChkId) (f : Chk → Chk) : (s.modChk i f).pending = s.pending := rfl
@[simp] theorem modChk_power (i : ChkId) (f : Chk → Chk) : (s.modChk i f).power = s.power := rfl
@[simp] theorem modChk_tim (i : ChkId) (f : Chk → Chk) : (s.modChk i f).tim = s.tim := rfl
@[simp] theorem modChk_setup (i : ChkId) (f : Chk → Chk) : (s.modChk i f).setup = s.setup := rfl
@[simp] theorem modChk_setupPend (i : ChkId) (f : Chk → Chk) : (s.modChk i f).setupPend = s.setupPend := rfl
@[simp] theorem modChk_params (i : ChkId) (f : Chk → Chk) : (s.modChk i f).params = s.params := rfl
@[simp] theorem modChk_regions (i : ChkId) (f : Chk → Chk) : (s.modChk i f).regions = s.regions := rfl
@[simp] theorem modChk_laws (i : ChkId) (f : Chk → Chk) : (s.modChk i f).laws = s.laws := rfl
@[simp] theorem modChk_bridges (i : ChkId) (f : Chk → Chk) : (s.modChk i f).bridges = s.bridges := rfl
@[simp] theorem modChk_gates (i : ChkId) (f : Chk → Chk) : (s.modChk i f).gates = s.gates := rfl
@[simp] theorem modChk_cpFault (i : ChkId) (f : Chk → Chk) : (s.modChk i f).cpFault = s.cpFault := rfl
@[simp] theorem modChk_chans (i : ChkId) (f : Chk → Chk) : (s.modChk i f).chans = s.chans := rfl
@[simp] theorem modChk_sns (i : ChkId) (f : Chk → Chk) : (s.modChk i f).sns = s.sns := rfl
@[simp] theorem modChk_wins (i : ChkId) (f : Chk → Chk) : (s.modChk i f).wins = s.wins := rfl
@[simp] theorem modChk_wsts (i : ChkId) (f : Chk → Chk) : (s.modChk i f).wsts = s.wsts := rfl
@[simp] theorem modChk_tripIn (i : ChkId) (f : Chk → Chk) : (s.modChk i f).tripIn = s.tripIn := rfl
@[simp] theorem modChk_tracts (i : ChkId) (f : Chk → Chk) : (s.modChk i f).tracts = s.tracts := rfl
@[simp] theorem modChk_span (i : ChkId) (f : Chk → Chk) : (s.modChk i f).span = s.span := rfl
@[simp] theorem modChk_chg (i : ChkId) (f : Chk → Chk) : (s.modChk i f).chg = s.chg := rfl
@[simp] theorem modChk_acts (i : ChkId) (f : Chk → Chk) : (s.modChk i f).acts = s.acts := rfl
@[simp] theorem modChk_brake (i : ChkId) (f : Chk → Chk) : (s.modChk i f).brake = s.brake := rfl
@[simp] theorem modChk_sto (i : ChkId) (f : Chk → Chk) : (s.modChk i f).sto = s.sto := rfl
@[simp] theorem modChk_therm (i : ChkId) (f : Chk → Chk) : (s.modChk i f).therm = s.therm := rfl
@[simp] theorem modChk_host (i : ChkId) (f : Chk → Chk) : (s.modChk i f).host = s.host := rfl
@[simp] theorem modChk_txn (i : ChkId) (f : Chk → Chk) : (s.modChk i f).txn = s.txn := rfl
@[simp] theorem modChk_haws (i : ChkId) (f : Chk → Chk) : (s.modChk i f).haws = s.haws := rfl
@[simp] theorem modChk_cans (i : ChkId) (f : Chk → Chk) : (s.modChk i f).cans = s.cans := rfl
@[simp] theorem modChk_chkIso (i : ChkId) (f : Chk → Chk) : (s.modChk i f).chkIso = s.chkIso := rfl
@[simp] theorem modChk_wash (i : ChkId) (f : Chk → Chk) : (s.modChk i f).wash = s.wash := rfl
@[simp] theorem modChk_st (i : ChkId) (f : Chk → Chk) : (s.modChk i f).st = s.st := rfl
@[simp] theorem modChk_dbg (i : ChkId) (f : Chk → Chk) : (s.modChk i f).dbg = s.dbg := rfl
@[simp] theorem modChk_evq (i : ChkId) (f : Chk → Chk) : (s.modChk i f).evq = s.evq := rfl
@[simp] theorem modChk_readOut (i : ChkId) (f : Chk → Chk) : (s.modChk i f).readOut = s.readOut := rfl
@[simp] theorem modChk_free (i : ChkId) (f : Chk → Chk) : (s.modChk i f).free = s.free := rfl

/-! ### `modSlot` -/

@[simp] theorem modSlot_pending (i : SlotId) (f : Slot → Slot) : (s.modSlot i f).pending = s.pending := rfl
@[simp] theorem modSlot_power (i : SlotId) (f : Slot → Slot) : (s.modSlot i f).power = s.power := rfl
@[simp] theorem modSlot_tim (i : SlotId) (f : Slot → Slot) : (s.modSlot i f).tim = s.tim := rfl
@[simp] theorem modSlot_setup (i : SlotId) (f : Slot → Slot) : (s.modSlot i f).setup = s.setup := rfl
@[simp] theorem modSlot_setupPend (i : SlotId) (f : Slot → Slot) : (s.modSlot i f).setupPend = s.setupPend := rfl
@[simp] theorem modSlot_params (i : SlotId) (f : Slot → Slot) : (s.modSlot i f).params = s.params := rfl
@[simp] theorem modSlot_regions (i : SlotId) (f : Slot → Slot) : (s.modSlot i f).regions = s.regions := rfl
@[simp] theorem modSlot_laws (i : SlotId) (f : Slot → Slot) : (s.modSlot i f).laws = s.laws := rfl
@[simp] theorem modSlot_bridges (i : SlotId) (f : Slot → Slot) : (s.modSlot i f).bridges = s.bridges := rfl
@[simp] theorem modSlot_gates (i : SlotId) (f : Slot → Slot) : (s.modSlot i f).gates = s.gates := rfl
@[simp] theorem modSlot_cpFault (i : SlotId) (f : Slot → Slot) : (s.modSlot i f).cpFault = s.cpFault := rfl
@[simp] theorem modSlot_chans (i : SlotId) (f : Slot → Slot) : (s.modSlot i f).chans = s.chans := rfl
@[simp] theorem modSlot_sns (i : SlotId) (f : Slot → Slot) : (s.modSlot i f).sns = s.sns := rfl
@[simp] theorem modSlot_wins (i : SlotId) (f : Slot → Slot) : (s.modSlot i f).wins = s.wins := rfl
@[simp] theorem modSlot_wsts (i : SlotId) (f : Slot → Slot) : (s.modSlot i f).wsts = s.wsts := rfl
@[simp] theorem modSlot_tripIn (i : SlotId) (f : Slot → Slot) : (s.modSlot i f).tripIn = s.tripIn := rfl
@[simp] theorem modSlot_tracts (i : SlotId) (f : Slot → Slot) : (s.modSlot i f).tracts = s.tracts := rfl
@[simp] theorem modSlot_span (i : SlotId) (f : Slot → Slot) : (s.modSlot i f).span = s.span := rfl
@[simp] theorem modSlot_chg (i : SlotId) (f : Slot → Slot) : (s.modSlot i f).chg = s.chg := rfl
@[simp] theorem modSlot_acts (i : SlotId) (f : Slot → Slot) : (s.modSlot i f).acts = s.acts := rfl
@[simp] theorem modSlot_brake (i : SlotId) (f : Slot → Slot) : (s.modSlot i f).brake = s.brake := rfl
@[simp] theorem modSlot_sto (i : SlotId) (f : Slot → Slot) : (s.modSlot i f).sto = s.sto := rfl
@[simp] theorem modSlot_therm (i : SlotId) (f : Slot → Slot) : (s.modSlot i f).therm = s.therm := rfl
@[simp] theorem modSlot_host (i : SlotId) (f : Slot → Slot) : (s.modSlot i f).host = s.host := rfl
@[simp] theorem modSlot_haws (i : SlotId) (f : Slot → Slot) : (s.modSlot i f).haws = s.haws := rfl
@[simp] theorem modSlot_cans (i : SlotId) (f : Slot → Slot) : (s.modSlot i f).cans = s.cans := rfl
@[simp] theorem modSlot_chkIso (i : SlotId) (f : Slot → Slot) : (s.modSlot i f).chkIso = s.chkIso := rfl
@[simp] theorem modSlot_chks (i : SlotId) (f : Slot → Slot) : (s.modSlot i f).chks = s.chks := rfl
@[simp] theorem modSlot_wash (i : SlotId) (f : Slot → Slot) : (s.modSlot i f).wash = s.wash := rfl
@[simp] theorem modSlot_st (i : SlotId) (f : Slot → Slot) : (s.modSlot i f).st = s.st := rfl
@[simp] theorem modSlot_dbg (i : SlotId) (f : Slot → Slot) : (s.modSlot i f).dbg = s.dbg := rfl
@[simp] theorem modSlot_evq (i : SlotId) (f : Slot → Slot) : (s.modSlot i f).evq = s.evq := rfl
@[simp] theorem modSlot_readOut (i : SlotId) (f : Slot → Slot) : (s.modSlot i f).readOut = s.readOut := rfl
@[simp] theorem modSlot_free (i : SlotId) (f : Slot → Slot) : (s.modSlot i f).free = s.free := rfl

/-! ### `modRing` -/

@[simp] theorem modRing_pending (i : RingId) (f : RingSt → RingSt) : (s.modRing i f).pending = s.pending := rfl
@[simp] theorem modRing_power (i : RingId) (f : RingSt → RingSt) : (s.modRing i f).power = s.power := rfl
@[simp] theorem modRing_tim (i : RingId) (f : RingSt → RingSt) : (s.modRing i f).tim = s.tim := rfl
@[simp] theorem modRing_setup (i : RingId) (f : RingSt → RingSt) : (s.modRing i f).setup = s.setup := rfl
@[simp] theorem modRing_setupPend (i : RingId) (f : RingSt → RingSt) : (s.modRing i f).setupPend = s.setupPend := rfl
@[simp] theorem modRing_params (i : RingId) (f : RingSt → RingSt) : (s.modRing i f).params = s.params := rfl
@[simp] theorem modRing_regions (i : RingId) (f : RingSt → RingSt) : (s.modRing i f).regions = s.regions := rfl
@[simp] theorem modRing_laws (i : RingId) (f : RingSt → RingSt) : (s.modRing i f).laws = s.laws := rfl
@[simp] theorem modRing_bridges (i : RingId) (f : RingSt → RingSt) : (s.modRing i f).bridges = s.bridges := rfl
@[simp] theorem modRing_gates (i : RingId) (f : RingSt → RingSt) : (s.modRing i f).gates = s.gates := rfl
@[simp] theorem modRing_cpFault (i : RingId) (f : RingSt → RingSt) : (s.modRing i f).cpFault = s.cpFault := rfl
@[simp] theorem modRing_chans (i : RingId) (f : RingSt → RingSt) : (s.modRing i f).chans = s.chans := rfl
@[simp] theorem modRing_sns (i : RingId) (f : RingSt → RingSt) : (s.modRing i f).sns = s.sns := rfl
@[simp] theorem modRing_wins (i : RingId) (f : RingSt → RingSt) : (s.modRing i f).wins = s.wins := rfl
@[simp] theorem modRing_wsts (i : RingId) (f : RingSt → RingSt) : (s.modRing i f).wsts = s.wsts := rfl
@[simp] theorem modRing_tripIn (i : RingId) (f : RingSt → RingSt) : (s.modRing i f).tripIn = s.tripIn := rfl
@[simp] theorem modRing_tracts (i : RingId) (f : RingSt → RingSt) : (s.modRing i f).tracts = s.tracts := rfl
@[simp] theorem modRing_span (i : RingId) (f : RingSt → RingSt) : (s.modRing i f).span = s.span := rfl
@[simp] theorem modRing_chg (i : RingId) (f : RingSt → RingSt) : (s.modRing i f).chg = s.chg := rfl
@[simp] theorem modRing_acts (i : RingId) (f : RingSt → RingSt) : (s.modRing i f).acts = s.acts := rfl
@[simp] theorem modRing_brake (i : RingId) (f : RingSt → RingSt) : (s.modRing i f).brake = s.brake := rfl
@[simp] theorem modRing_sto (i : RingId) (f : RingSt → RingSt) : (s.modRing i f).sto = s.sto := rfl
@[simp] theorem modRing_therm (i : RingId) (f : RingSt → RingSt) : (s.modRing i f).therm = s.therm := rfl
@[simp] theorem modRing_txn (i : RingId) (f : RingSt → RingSt) : (s.modRing i f).txn = s.txn := rfl
@[simp] theorem modRing_haws (i : RingId) (f : RingSt → RingSt) : (s.modRing i f).haws = s.haws := rfl
@[simp] theorem modRing_cans (i : RingId) (f : RingSt → RingSt) : (s.modRing i f).cans = s.cans := rfl
@[simp] theorem modRing_chkIso (i : RingId) (f : RingSt → RingSt) : (s.modRing i f).chkIso = s.chkIso := rfl
@[simp] theorem modRing_chks (i : RingId) (f : RingSt → RingSt) : (s.modRing i f).chks = s.chks := rfl
@[simp] theorem modRing_wash (i : RingId) (f : RingSt → RingSt) : (s.modRing i f).wash = s.wash := rfl
@[simp] theorem modRing_st (i : RingId) (f : RingSt → RingSt) : (s.modRing i f).st = s.st := rfl
@[simp] theorem modRing_dbg (i : RingId) (f : RingSt → RingSt) : (s.modRing i f).dbg = s.dbg := rfl
@[simp] theorem modRing_evq (i : RingId) (f : RingSt → RingSt) : (s.modRing i f).evq = s.evq := rfl
@[simp] theorem modRing_readOut (i : RingId) (f : RingSt → RingSt) : (s.modRing i f).readOut = s.readOut := rfl
@[simp] theorem modRing_free (i : RingId) (f : RingSt → RingSt) : (s.modRing i f).free = s.free := rfl

/-! ### `modPower` -/

@[simp] theorem modPower_pending (f : Power → Power) : (s.modPower f).pending = s.pending := rfl
@[simp] theorem modPower_tim (f : Power → Power) : (s.modPower f).tim = s.tim := rfl
@[simp] theorem modPower_setup (f : Power → Power) : (s.modPower f).setup = s.setup := rfl
@[simp] theorem modPower_setupPend (f : Power → Power) : (s.modPower f).setupPend = s.setupPend := rfl
@[simp] theorem modPower_params (f : Power → Power) : (s.modPower f).params = s.params := rfl
@[simp] theorem modPower_regions (f : Power → Power) : (s.modPower f).regions = s.regions := rfl
@[simp] theorem modPower_laws (f : Power → Power) : (s.modPower f).laws = s.laws := rfl
@[simp] theorem modPower_bridges (f : Power → Power) : (s.modPower f).bridges = s.bridges := rfl
@[simp] theorem modPower_gates (f : Power → Power) : (s.modPower f).gates = s.gates := rfl
@[simp] theorem modPower_cpFault (f : Power → Power) : (s.modPower f).cpFault = s.cpFault := rfl
@[simp] theorem modPower_chans (f : Power → Power) : (s.modPower f).chans = s.chans := rfl
@[simp] theorem modPower_sns (f : Power → Power) : (s.modPower f).sns = s.sns := rfl
@[simp] theorem modPower_wins (f : Power → Power) : (s.modPower f).wins = s.wins := rfl
@[simp] theorem modPower_wsts (f : Power → Power) : (s.modPower f).wsts = s.wsts := rfl
@[simp] theorem modPower_tripIn (f : Power → Power) : (s.modPower f).tripIn = s.tripIn := rfl
@[simp] theorem modPower_tracts (f : Power → Power) : (s.modPower f).tracts = s.tracts := rfl
@[simp] theorem modPower_span (f : Power → Power) : (s.modPower f).span = s.span := rfl
@[simp] theorem modPower_chg (f : Power → Power) : (s.modPower f).chg = s.chg := rfl
@[simp] theorem modPower_acts (f : Power → Power) : (s.modPower f).acts = s.acts := rfl
@[simp] theorem modPower_brake (f : Power → Power) : (s.modPower f).brake = s.brake := rfl
@[simp] theorem modPower_sto (f : Power → Power) : (s.modPower f).sto = s.sto := rfl
@[simp] theorem modPower_therm (f : Power → Power) : (s.modPower f).therm = s.therm := rfl
@[simp] theorem modPower_host (f : Power → Power) : (s.modPower f).host = s.host := rfl
@[simp] theorem modPower_txn (f : Power → Power) : (s.modPower f).txn = s.txn := rfl
@[simp] theorem modPower_haws (f : Power → Power) : (s.modPower f).haws = s.haws := rfl
@[simp] theorem modPower_cans (f : Power → Power) : (s.modPower f).cans = s.cans := rfl
@[simp] theorem modPower_chkIso (f : Power → Power) : (s.modPower f).chkIso = s.chkIso := rfl
@[simp] theorem modPower_chks (f : Power → Power) : (s.modPower f).chks = s.chks := rfl
@[simp] theorem modPower_wash (f : Power → Power) : (s.modPower f).wash = s.wash := rfl
@[simp] theorem modPower_st (f : Power → Power) : (s.modPower f).st = s.st := rfl
@[simp] theorem modPower_dbg (f : Power → Power) : (s.modPower f).dbg = s.dbg := rfl
@[simp] theorem modPower_evq (f : Power → Power) : (s.modPower f).evq = s.evq := rfl
@[simp] theorem modPower_readOut (f : Power → Power) : (s.modPower f).readOut = s.readOut := rfl
@[simp] theorem modPower_free (f : Power → Power) : (s.modPower f).free = s.free := rfl
@[simp] theorem modPower_power (f : Power → Power) : (s.modPower f).power = f s.power := rfl

/-! ### `modTim` -/

@[simp] theorem modTim_pending (f : Timing → Timing) : (s.modTim f).pending = s.pending := rfl
@[simp] theorem modTim_power (f : Timing → Timing) : (s.modTim f).power = s.power := rfl
@[simp] theorem modTim_setup (f : Timing → Timing) : (s.modTim f).setup = s.setup := rfl
@[simp] theorem modTim_setupPend (f : Timing → Timing) : (s.modTim f).setupPend = s.setupPend := rfl
@[simp] theorem modTim_params (f : Timing → Timing) : (s.modTim f).params = s.params := rfl
@[simp] theorem modTim_regions (f : Timing → Timing) : (s.modTim f).regions = s.regions := rfl
@[simp] theorem modTim_laws (f : Timing → Timing) : (s.modTim f).laws = s.laws := rfl
@[simp] theorem modTim_bridges (f : Timing → Timing) : (s.modTim f).bridges = s.bridges := rfl
@[simp] theorem modTim_gates (f : Timing → Timing) : (s.modTim f).gates = s.gates := rfl
@[simp] theorem modTim_cpFault (f : Timing → Timing) : (s.modTim f).cpFault = s.cpFault := rfl
@[simp] theorem modTim_chans (f : Timing → Timing) : (s.modTim f).chans = s.chans := rfl
@[simp] theorem modTim_sns (f : Timing → Timing) : (s.modTim f).sns = s.sns := rfl
@[simp] theorem modTim_wins (f : Timing → Timing) : (s.modTim f).wins = s.wins := rfl
@[simp] theorem modTim_wsts (f : Timing → Timing) : (s.modTim f).wsts = s.wsts := rfl
@[simp] theorem modTim_tripIn (f : Timing → Timing) : (s.modTim f).tripIn = s.tripIn := rfl
@[simp] theorem modTim_tracts (f : Timing → Timing) : (s.modTim f).tracts = s.tracts := rfl
@[simp] theorem modTim_span (f : Timing → Timing) : (s.modTim f).span = s.span := rfl
@[simp] theorem modTim_chg (f : Timing → Timing) : (s.modTim f).chg = s.chg := rfl
@[simp] theorem modTim_acts (f : Timing → Timing) : (s.modTim f).acts = s.acts := rfl
@[simp] theorem modTim_brake (f : Timing → Timing) : (s.modTim f).brake = s.brake := rfl
@[simp] theorem modTim_sto (f : Timing → Timing) : (s.modTim f).sto = s.sto := rfl
@[simp] theorem modTim_therm (f : Timing → Timing) : (s.modTim f).therm = s.therm := rfl
@[simp] theorem modTim_host (f : Timing → Timing) : (s.modTim f).host = s.host := rfl
@[simp] theorem modTim_txn (f : Timing → Timing) : (s.modTim f).txn = s.txn := rfl
@[simp] theorem modTim_haws (f : Timing → Timing) : (s.modTim f).haws = s.haws := rfl
@[simp] theorem modTim_cans (f : Timing → Timing) : (s.modTim f).cans = s.cans := rfl
@[simp] theorem modTim_chkIso (f : Timing → Timing) : (s.modTim f).chkIso = s.chkIso := rfl
@[simp] theorem modTim_chks (f : Timing → Timing) : (s.modTim f).chks = s.chks := rfl
@[simp] theorem modTim_wash (f : Timing → Timing) : (s.modTim f).wash = s.wash := rfl
@[simp] theorem modTim_st (f : Timing → Timing) : (s.modTim f).st = s.st := rfl
@[simp] theorem modTim_dbg (f : Timing → Timing) : (s.modTim f).dbg = s.dbg := rfl
@[simp] theorem modTim_evq (f : Timing → Timing) : (s.modTim f).evq = s.evq := rfl
@[simp] theorem modTim_readOut (f : Timing → Timing) : (s.modTim f).readOut = s.readOut := rfl
@[simp] theorem modTim_free (f : Timing → Timing) : (s.modTim f).free = s.free := rfl
@[simp] theorem modTim_tim (f : Timing → Timing) : (s.modTim f).tim = f s.tim := rfl

/-! ### `modSpan` -/

@[simp] theorem modSpan_pending (f : Span → Span) : (s.modSpan f).pending = s.pending := rfl
@[simp] theorem modSpan_power (f : Span → Span) : (s.modSpan f).power = s.power := rfl
@[simp] theorem modSpan_tim (f : Span → Span) : (s.modSpan f).tim = s.tim := rfl
@[simp] theorem modSpan_setup (f : Span → Span) : (s.modSpan f).setup = s.setup := rfl
@[simp] theorem modSpan_setupPend (f : Span → Span) : (s.modSpan f).setupPend = s.setupPend := rfl
@[simp] theorem modSpan_params (f : Span → Span) : (s.modSpan f).params = s.params := rfl
@[simp] theorem modSpan_regions (f : Span → Span) : (s.modSpan f).regions = s.regions := rfl
@[simp] theorem modSpan_laws (f : Span → Span) : (s.modSpan f).laws = s.laws := rfl
@[simp] theorem modSpan_bridges (f : Span → Span) : (s.modSpan f).bridges = s.bridges := rfl
@[simp] theorem modSpan_gates (f : Span → Span) : (s.modSpan f).gates = s.gates := rfl
@[simp] theorem modSpan_cpFault (f : Span → Span) : (s.modSpan f).cpFault = s.cpFault := rfl
@[simp] theorem modSpan_chans (f : Span → Span) : (s.modSpan f).chans = s.chans := rfl
@[simp] theorem modSpan_sns (f : Span → Span) : (s.modSpan f).sns = s.sns := rfl
@[simp] theorem modSpan_wins (f : Span → Span) : (s.modSpan f).wins = s.wins := rfl
@[simp] theorem modSpan_wsts (f : Span → Span) : (s.modSpan f).wsts = s.wsts := rfl
@[simp] theorem modSpan_tripIn (f : Span → Span) : (s.modSpan f).tripIn = s.tripIn := rfl
@[simp] theorem modSpan_tracts (f : Span → Span) : (s.modSpan f).tracts = s.tracts := rfl
@[simp] theorem modSpan_chg (f : Span → Span) : (s.modSpan f).chg = s.chg := rfl
@[simp] theorem modSpan_acts (f : Span → Span) : (s.modSpan f).acts = s.acts := rfl
@[simp] theorem modSpan_brake (f : Span → Span) : (s.modSpan f).brake = s.brake := rfl
@[simp] theorem modSpan_sto (f : Span → Span) : (s.modSpan f).sto = s.sto := rfl
@[simp] theorem modSpan_therm (f : Span → Span) : (s.modSpan f).therm = s.therm := rfl
@[simp] theorem modSpan_host (f : Span → Span) : (s.modSpan f).host = s.host := rfl
@[simp] theorem modSpan_txn (f : Span → Span) : (s.modSpan f).txn = s.txn := rfl
@[simp] theorem modSpan_haws (f : Span → Span) : (s.modSpan f).haws = s.haws := rfl
@[simp] theorem modSpan_cans (f : Span → Span) : (s.modSpan f).cans = s.cans := rfl
@[simp] theorem modSpan_chkIso (f : Span → Span) : (s.modSpan f).chkIso = s.chkIso := rfl
@[simp] theorem modSpan_chks (f : Span → Span) : (s.modSpan f).chks = s.chks := rfl
@[simp] theorem modSpan_wash (f : Span → Span) : (s.modSpan f).wash = s.wash := rfl
@[simp] theorem modSpan_st (f : Span → Span) : (s.modSpan f).st = s.st := rfl
@[simp] theorem modSpan_dbg (f : Span → Span) : (s.modSpan f).dbg = s.dbg := rfl
@[simp] theorem modSpan_evq (f : Span → Span) : (s.modSpan f).evq = s.evq := rfl
@[simp] theorem modSpan_readOut (f : Span → Span) : (s.modSpan f).readOut = s.readOut := rfl
@[simp] theorem modSpan_free (f : Span → Span) : (s.modSpan f).free = s.free := rfl
@[simp] theorem modSpan_span (f : Span → Span) : (s.modSpan f).span = f s.span := rfl

/-! ### `modChg` -/

@[simp] theorem modChg_pending (f : Charger → Charger) : (s.modChg f).pending = s.pending := rfl
@[simp] theorem modChg_power (f : Charger → Charger) : (s.modChg f).power = s.power := rfl
@[simp] theorem modChg_tim (f : Charger → Charger) : (s.modChg f).tim = s.tim := rfl
@[simp] theorem modChg_setup (f : Charger → Charger) : (s.modChg f).setup = s.setup := rfl
@[simp] theorem modChg_setupPend (f : Charger → Charger) : (s.modChg f).setupPend = s.setupPend := rfl
@[simp] theorem modChg_params (f : Charger → Charger) : (s.modChg f).params = s.params := rfl
@[simp] theorem modChg_regions (f : Charger → Charger) : (s.modChg f).regions = s.regions := rfl
@[simp] theorem modChg_laws (f : Charger → Charger) : (s.modChg f).laws = s.laws := rfl
@[simp] theorem modChg_bridges (f : Charger → Charger) : (s.modChg f).bridges = s.bridges := rfl
@[simp] theorem modChg_gates (f : Charger → Charger) : (s.modChg f).gates = s.gates := rfl
@[simp] theorem modChg_cpFault (f : Charger → Charger) : (s.modChg f).cpFault = s.cpFault := rfl
@[simp] theorem modChg_chans (f : Charger → Charger) : (s.modChg f).chans = s.chans := rfl
@[simp] theorem modChg_sns (f : Charger → Charger) : (s.modChg f).sns = s.sns := rfl
@[simp] theorem modChg_wins (f : Charger → Charger) : (s.modChg f).wins = s.wins := rfl
@[simp] theorem modChg_wsts (f : Charger → Charger) : (s.modChg f).wsts = s.wsts := rfl
@[simp] theorem modChg_tripIn (f : Charger → Charger) : (s.modChg f).tripIn = s.tripIn := rfl
@[simp] theorem modChg_tracts (f : Charger → Charger) : (s.modChg f).tracts = s.tracts := rfl
@[simp] theorem modChg_span (f : Charger → Charger) : (s.modChg f).span = s.span := rfl
@[simp] theorem modChg_acts (f : Charger → Charger) : (s.modChg f).acts = s.acts := rfl
@[simp] theorem modChg_brake (f : Charger → Charger) : (s.modChg f).brake = s.brake := rfl
@[simp] theorem modChg_sto (f : Charger → Charger) : (s.modChg f).sto = s.sto := rfl
@[simp] theorem modChg_therm (f : Charger → Charger) : (s.modChg f).therm = s.therm := rfl
@[simp] theorem modChg_host (f : Charger → Charger) : (s.modChg f).host = s.host := rfl
@[simp] theorem modChg_txn (f : Charger → Charger) : (s.modChg f).txn = s.txn := rfl
@[simp] theorem modChg_haws (f : Charger → Charger) : (s.modChg f).haws = s.haws := rfl
@[simp] theorem modChg_cans (f : Charger → Charger) : (s.modChg f).cans = s.cans := rfl
@[simp] theorem modChg_chkIso (f : Charger → Charger) : (s.modChg f).chkIso = s.chkIso := rfl
@[simp] theorem modChg_chks (f : Charger → Charger) : (s.modChg f).chks = s.chks := rfl
@[simp] theorem modChg_wash (f : Charger → Charger) : (s.modChg f).wash = s.wash := rfl
@[simp] theorem modChg_st (f : Charger → Charger) : (s.modChg f).st = s.st := rfl
@[simp] theorem modChg_dbg (f : Charger → Charger) : (s.modChg f).dbg = s.dbg := rfl
@[simp] theorem modChg_evq (f : Charger → Charger) : (s.modChg f).evq = s.evq := rfl
@[simp] theorem modChg_readOut (f : Charger → Charger) : (s.modChg f).readOut = s.readOut := rfl
@[simp] theorem modChg_free (f : Charger → Charger) : (s.modChg f).free = s.free := rfl
@[simp] theorem modChg_chg (f : Charger → Charger) : (s.modChg f).chg = f s.chg := rfl

/-! ### `modBrake` -/

@[simp] theorem modBrake_pending (f : Brake → Brake) : (s.modBrake f).pending = s.pending := rfl
@[simp] theorem modBrake_power (f : Brake → Brake) : (s.modBrake f).power = s.power := rfl
@[simp] theorem modBrake_tim (f : Brake → Brake) : (s.modBrake f).tim = s.tim := rfl
@[simp] theorem modBrake_setup (f : Brake → Brake) : (s.modBrake f).setup = s.setup := rfl
@[simp] theorem modBrake_setupPend (f : Brake → Brake) : (s.modBrake f).setupPend = s.setupPend := rfl
@[simp] theorem modBrake_params (f : Brake → Brake) : (s.modBrake f).params = s.params := rfl
@[simp] theorem modBrake_regions (f : Brake → Brake) : (s.modBrake f).regions = s.regions := rfl
@[simp] theorem modBrake_laws (f : Brake → Brake) : (s.modBrake f).laws = s.laws := rfl
@[simp] theorem modBrake_bridges (f : Brake → Brake) : (s.modBrake f).bridges = s.bridges := rfl
@[simp] theorem modBrake_gates (f : Brake → Brake) : (s.modBrake f).gates = s.gates := rfl
@[simp] theorem modBrake_cpFault (f : Brake → Brake) : (s.modBrake f).cpFault = s.cpFault := rfl
@[simp] theorem modBrake_chans (f : Brake → Brake) : (s.modBrake f).chans = s.chans := rfl
@[simp] theorem modBrake_sns (f : Brake → Brake) : (s.modBrake f).sns = s.sns := rfl
@[simp] theorem modBrake_wins (f : Brake → Brake) : (s.modBrake f).wins = s.wins := rfl
@[simp] theorem modBrake_wsts (f : Brake → Brake) : (s.modBrake f).wsts = s.wsts := rfl
@[simp] theorem modBrake_tripIn (f : Brake → Brake) : (s.modBrake f).tripIn = s.tripIn := rfl
@[simp] theorem modBrake_tracts (f : Brake → Brake) : (s.modBrake f).tracts = s.tracts := rfl
@[simp] theorem modBrake_span (f : Brake → Brake) : (s.modBrake f).span = s.span := rfl
@[simp] theorem modBrake_chg (f : Brake → Brake) : (s.modBrake f).chg = s.chg := rfl
@[simp] theorem modBrake_acts (f : Brake → Brake) : (s.modBrake f).acts = s.acts := rfl
@[simp] theorem modBrake_sto (f : Brake → Brake) : (s.modBrake f).sto = s.sto := rfl
@[simp] theorem modBrake_therm (f : Brake → Brake) : (s.modBrake f).therm = s.therm := rfl
@[simp] theorem modBrake_host (f : Brake → Brake) : (s.modBrake f).host = s.host := rfl
@[simp] theorem modBrake_txn (f : Brake → Brake) : (s.modBrake f).txn = s.txn := rfl
@[simp] theorem modBrake_haws (f : Brake → Brake) : (s.modBrake f).haws = s.haws := rfl
@[simp] theorem modBrake_cans (f : Brake → Brake) : (s.modBrake f).cans = s.cans := rfl
@[simp] theorem modBrake_chkIso (f : Brake → Brake) : (s.modBrake f).chkIso = s.chkIso := rfl
@[simp] theorem modBrake_chks (f : Brake → Brake) : (s.modBrake f).chks = s.chks := rfl
@[simp] theorem modBrake_wash (f : Brake → Brake) : (s.modBrake f).wash = s.wash := rfl
@[simp] theorem modBrake_st (f : Brake → Brake) : (s.modBrake f).st = s.st := rfl
@[simp] theorem modBrake_dbg (f : Brake → Brake) : (s.modBrake f).dbg = s.dbg := rfl
@[simp] theorem modBrake_evq (f : Brake → Brake) : (s.modBrake f).evq = s.evq := rfl
@[simp] theorem modBrake_readOut (f : Brake → Brake) : (s.modBrake f).readOut = s.readOut := rfl
@[simp] theorem modBrake_free (f : Brake → Brake) : (s.modBrake f).free = s.free := rfl
@[simp] theorem modBrake_brake (f : Brake → Brake) : (s.modBrake f).brake = f s.brake := rfl

/-! ### `modSto` -/

@[simp] theorem modSto_pending (f : Sto → Sto) : (s.modSto f).pending = s.pending := rfl
@[simp] theorem modSto_power (f : Sto → Sto) : (s.modSto f).power = s.power := rfl
@[simp] theorem modSto_tim (f : Sto → Sto) : (s.modSto f).tim = s.tim := rfl
@[simp] theorem modSto_setup (f : Sto → Sto) : (s.modSto f).setup = s.setup := rfl
@[simp] theorem modSto_setupPend (f : Sto → Sto) : (s.modSto f).setupPend = s.setupPend := rfl
@[simp] theorem modSto_params (f : Sto → Sto) : (s.modSto f).params = s.params := rfl
@[simp] theorem modSto_regions (f : Sto → Sto) : (s.modSto f).regions = s.regions := rfl
@[simp] theorem modSto_laws (f : Sto → Sto) : (s.modSto f).laws = s.laws := rfl
@[simp] theorem modSto_bridges (f : Sto → Sto) : (s.modSto f).bridges = s.bridges := rfl
@[simp] theorem modSto_gates (f : Sto → Sto) : (s.modSto f).gates = s.gates := rfl
@[simp] theorem modSto_cpFault (f : Sto → Sto) : (s.modSto f).cpFault = s.cpFault := rfl
@[simp] theorem modSto_chans (f : Sto → Sto) : (s.modSto f).chans = s.chans := rfl
@[simp] theorem modSto_sns (f : Sto → Sto) : (s.modSto f).sns = s.sns := rfl
@[simp] theorem modSto_wins (f : Sto → Sto) : (s.modSto f).wins = s.wins := rfl
@[simp] theorem modSto_wsts (f : Sto → Sto) : (s.modSto f).wsts = s.wsts := rfl
@[simp] theorem modSto_tripIn (f : Sto → Sto) : (s.modSto f).tripIn = s.tripIn := rfl
@[simp] theorem modSto_tracts (f : Sto → Sto) : (s.modSto f).tracts = s.tracts := rfl
@[simp] theorem modSto_span (f : Sto → Sto) : (s.modSto f).span = s.span := rfl
@[simp] theorem modSto_chg (f : Sto → Sto) : (s.modSto f).chg = s.chg := rfl
@[simp] theorem modSto_acts (f : Sto → Sto) : (s.modSto f).acts = s.acts := rfl
@[simp] theorem modSto_brake (f : Sto → Sto) : (s.modSto f).brake = s.brake := rfl
@[simp] theorem modSto_therm (f : Sto → Sto) : (s.modSto f).therm = s.therm := rfl
@[simp] theorem modSto_host (f : Sto → Sto) : (s.modSto f).host = s.host := rfl
@[simp] theorem modSto_txn (f : Sto → Sto) : (s.modSto f).txn = s.txn := rfl
@[simp] theorem modSto_haws (f : Sto → Sto) : (s.modSto f).haws = s.haws := rfl
@[simp] theorem modSto_cans (f : Sto → Sto) : (s.modSto f).cans = s.cans := rfl
@[simp] theorem modSto_chkIso (f : Sto → Sto) : (s.modSto f).chkIso = s.chkIso := rfl
@[simp] theorem modSto_chks (f : Sto → Sto) : (s.modSto f).chks = s.chks := rfl
@[simp] theorem modSto_wash (f : Sto → Sto) : (s.modSto f).wash = s.wash := rfl
@[simp] theorem modSto_st (f : Sto → Sto) : (s.modSto f).st = s.st := rfl
@[simp] theorem modSto_dbg (f : Sto → Sto) : (s.modSto f).dbg = s.dbg := rfl
@[simp] theorem modSto_evq (f : Sto → Sto) : (s.modSto f).evq = s.evq := rfl
@[simp] theorem modSto_readOut (f : Sto → Sto) : (s.modSto f).readOut = s.readOut := rfl
@[simp] theorem modSto_free (f : Sto → Sto) : (s.modSto f).free = s.free := rfl
@[simp] theorem modSto_sto (f : Sto → Sto) : (s.modSto f).sto = f s.sto := rfl

/-! ### `modTherm` -/

@[simp] theorem modTherm_pending (f : Thermal → Thermal) : (s.modTherm f).pending = s.pending := rfl
@[simp] theorem modTherm_power (f : Thermal → Thermal) : (s.modTherm f).power = s.power := rfl
@[simp] theorem modTherm_tim (f : Thermal → Thermal) : (s.modTherm f).tim = s.tim := rfl
@[simp] theorem modTherm_setup (f : Thermal → Thermal) : (s.modTherm f).setup = s.setup := rfl
@[simp] theorem modTherm_setupPend (f : Thermal → Thermal) : (s.modTherm f).setupPend = s.setupPend := rfl
@[simp] theorem modTherm_params (f : Thermal → Thermal) : (s.modTherm f).params = s.params := rfl
@[simp] theorem modTherm_regions (f : Thermal → Thermal) : (s.modTherm f).regions = s.regions := rfl
@[simp] theorem modTherm_laws (f : Thermal → Thermal) : (s.modTherm f).laws = s.laws := rfl
@[simp] theorem modTherm_bridges (f : Thermal → Thermal) : (s.modTherm f).bridges = s.bridges := rfl
@[simp] theorem modTherm_gates (f : Thermal → Thermal) : (s.modTherm f).gates = s.gates := rfl
@[simp] theorem modTherm_cpFault (f : Thermal → Thermal) : (s.modTherm f).cpFault = s.cpFault := rfl
@[simp] theorem modTherm_chans (f : Thermal → Thermal) : (s.modTherm f).chans = s.chans := rfl
@[simp] theorem modTherm_sns (f : Thermal → Thermal) : (s.modTherm f).sns = s.sns := rfl
@[simp] theorem modTherm_wins (f : Thermal → Thermal) : (s.modTherm f).wins = s.wins := rfl
@[simp] theorem modTherm_wsts (f : Thermal → Thermal) : (s.modTherm f).wsts = s.wsts := rfl
@[simp] theorem modTherm_tripIn (f : Thermal → Thermal) : (s.modTherm f).tripIn = s.tripIn := rfl
@[simp] theorem modTherm_tracts (f : Thermal → Thermal) : (s.modTherm f).tracts = s.tracts := rfl
@[simp] theorem modTherm_span (f : Thermal → Thermal) : (s.modTherm f).span = s.span := rfl
@[simp] theorem modTherm_chg (f : Thermal → Thermal) : (s.modTherm f).chg = s.chg := rfl
@[simp] theorem modTherm_acts (f : Thermal → Thermal) : (s.modTherm f).acts = s.acts := rfl
@[simp] theorem modTherm_brake (f : Thermal → Thermal) : (s.modTherm f).brake = s.brake := rfl
@[simp] theorem modTherm_sto (f : Thermal → Thermal) : (s.modTherm f).sto = s.sto := rfl
@[simp] theorem modTherm_host (f : Thermal → Thermal) : (s.modTherm f).host = s.host := rfl
@[simp] theorem modTherm_txn (f : Thermal → Thermal) : (s.modTherm f).txn = s.txn := rfl
@[simp] theorem modTherm_haws (f : Thermal → Thermal) : (s.modTherm f).haws = s.haws := rfl
@[simp] theorem modTherm_cans (f : Thermal → Thermal) : (s.modTherm f).cans = s.cans := rfl
@[simp] theorem modTherm_chkIso (f : Thermal → Thermal) : (s.modTherm f).chkIso = s.chkIso := rfl
@[simp] theorem modTherm_chks (f : Thermal → Thermal) : (s.modTherm f).chks = s.chks := rfl
@[simp] theorem modTherm_wash (f : Thermal → Thermal) : (s.modTherm f).wash = s.wash := rfl
@[simp] theorem modTherm_st (f : Thermal → Thermal) : (s.modTherm f).st = s.st := rfl
@[simp] theorem modTherm_dbg (f : Thermal → Thermal) : (s.modTherm f).dbg = s.dbg := rfl
@[simp] theorem modTherm_evq (f : Thermal → Thermal) : (s.modTherm f).evq = s.evq := rfl
@[simp] theorem modTherm_readOut (f : Thermal → Thermal) : (s.modTherm f).readOut = s.readOut := rfl
@[simp] theorem modTherm_free (f : Thermal → Thermal) : (s.modTherm f).free = s.free := rfl
@[simp] theorem modTherm_therm (f : Thermal → Thermal) : (s.modTherm f).therm = f s.therm := rfl

/-! ### `modHost` -/

@[simp] theorem modHost_pending (f : HostIf → HostIf) : (s.modHost f).pending = s.pending := rfl
@[simp] theorem modHost_power (f : HostIf → HostIf) : (s.modHost f).power = s.power := rfl
@[simp] theorem modHost_tim (f : HostIf → HostIf) : (s.modHost f).tim = s.tim := rfl
@[simp] theorem modHost_setup (f : HostIf → HostIf) : (s.modHost f).setup = s.setup := rfl
@[simp] theorem modHost_setupPend (f : HostIf → HostIf) : (s.modHost f).setupPend = s.setupPend := rfl
@[simp] theorem modHost_params (f : HostIf → HostIf) : (s.modHost f).params = s.params := rfl
@[simp] theorem modHost_regions (f : HostIf → HostIf) : (s.modHost f).regions = s.regions := rfl
@[simp] theorem modHost_laws (f : HostIf → HostIf) : (s.modHost f).laws = s.laws := rfl
@[simp] theorem modHost_bridges (f : HostIf → HostIf) : (s.modHost f).bridges = s.bridges := rfl
@[simp] theorem modHost_gates (f : HostIf → HostIf) : (s.modHost f).gates = s.gates := rfl
@[simp] theorem modHost_cpFault (f : HostIf → HostIf) : (s.modHost f).cpFault = s.cpFault := rfl
@[simp] theorem modHost_chans (f : HostIf → HostIf) : (s.modHost f).chans = s.chans := rfl
@[simp] theorem modHost_sns (f : HostIf → HostIf) : (s.modHost f).sns = s.sns := rfl
@[simp] theorem modHost_wins (f : HostIf → HostIf) : (s.modHost f).wins = s.wins := rfl
@[simp] theorem modHost_wsts (f : HostIf → HostIf) : (s.modHost f).wsts = s.wsts := rfl
@[simp] theorem modHost_tripIn (f : HostIf → HostIf) : (s.modHost f).tripIn = s.tripIn := rfl
@[simp] theorem modHost_tracts (f : HostIf → HostIf) : (s.modHost f).tracts = s.tracts := rfl
@[simp] theorem modHost_span (f : HostIf → HostIf) : (s.modHost f).span = s.span := rfl
@[simp] theorem modHost_chg (f : HostIf → HostIf) : (s.modHost f).chg = s.chg := rfl
@[simp] theorem modHost_acts (f : HostIf → HostIf) : (s.modHost f).acts = s.acts := rfl
@[simp] theorem modHost_brake (f : HostIf → HostIf) : (s.modHost f).brake = s.brake := rfl
@[simp] theorem modHost_sto (f : HostIf → HostIf) : (s.modHost f).sto = s.sto := rfl
@[simp] theorem modHost_therm (f : HostIf → HostIf) : (s.modHost f).therm = s.therm := rfl
@[simp] theorem modHost_txn (f : HostIf → HostIf) : (s.modHost f).txn = s.txn := rfl
@[simp] theorem modHost_haws (f : HostIf → HostIf) : (s.modHost f).haws = s.haws := rfl
@[simp] theorem modHost_cans (f : HostIf → HostIf) : (s.modHost f).cans = s.cans := rfl
@[simp] theorem modHost_chkIso (f : HostIf → HostIf) : (s.modHost f).chkIso = s.chkIso := rfl
@[simp] theorem modHost_chks (f : HostIf → HostIf) : (s.modHost f).chks = s.chks := rfl
@[simp] theorem modHost_wash (f : HostIf → HostIf) : (s.modHost f).wash = s.wash := rfl
@[simp] theorem modHost_st (f : HostIf → HostIf) : (s.modHost f).st = s.st := rfl
@[simp] theorem modHost_dbg (f : HostIf → HostIf) : (s.modHost f).dbg = s.dbg := rfl
@[simp] theorem modHost_evq (f : HostIf → HostIf) : (s.modHost f).evq = s.evq := rfl
@[simp] theorem modHost_readOut (f : HostIf → HostIf) : (s.modHost f).readOut = s.readOut := rfl
@[simp] theorem modHost_free (f : HostIf → HostIf) : (s.modHost f).free = s.free := rfl
@[simp] theorem modHost_host (f : HostIf → HostIf) : (s.modHost f).host = f s.host := rfl

/-! ### `modTxn` -/

@[simp] theorem modTxn_pending (f : Txn → Txn) : (s.modTxn f).pending = s.pending := rfl
@[simp] theorem modTxn_power (f : Txn → Txn) : (s.modTxn f).power = s.power := rfl
@[simp] theorem modTxn_tim (f : Txn → Txn) : (s.modTxn f).tim = s.tim := rfl
@[simp] theorem modTxn_setup (f : Txn → Txn) : (s.modTxn f).setup = s.setup := rfl
@[simp] theorem modTxn_setupPend (f : Txn → Txn) : (s.modTxn f).setupPend = s.setupPend := rfl
@[simp] theorem modTxn_params (f : Txn → Txn) : (s.modTxn f).params = s.params := rfl
@[simp] theorem modTxn_regions (f : Txn → Txn) : (s.modTxn f).regions = s.regions := rfl
@[simp] theorem modTxn_laws (f : Txn → Txn) : (s.modTxn f).laws = s.laws := rfl
@[simp] theorem modTxn_bridges (f : Txn → Txn) : (s.modTxn f).bridges = s.bridges := rfl
@[simp] theorem modTxn_gates (f : Txn → Txn) : (s.modTxn f).gates = s.gates := rfl
@[simp] theorem modTxn_cpFault (f : Txn → Txn) : (s.modTxn f).cpFault = s.cpFault := rfl
@[simp] theorem modTxn_chans (f : Txn → Txn) : (s.modTxn f).chans = s.chans := rfl
@[simp] theorem modTxn_sns (f : Txn → Txn) : (s.modTxn f).sns = s.sns := rfl
@[simp] theorem modTxn_wins (f : Txn → Txn) : (s.modTxn f).wins = s.wins := rfl
@[simp] theorem modTxn_wsts (f : Txn → Txn) : (s.modTxn f).wsts = s.wsts := rfl
@[simp] theorem modTxn_tripIn (f : Txn → Txn) : (s.modTxn f).tripIn = s.tripIn := rfl
@[simp] theorem modTxn_tracts (f : Txn → Txn) : (s.modTxn f).tracts = s.tracts := rfl
@[simp] theorem modTxn_span (f : Txn → Txn) : (s.modTxn f).span = s.span := rfl
@[simp] theorem modTxn_chg (f : Txn → Txn) : (s.modTxn f).chg = s.chg := rfl
@[simp] theorem modTxn_acts (f : Txn → Txn) : (s.modTxn f).acts = s.acts := rfl
@[simp] theorem modTxn_brake (f : Txn → Txn) : (s.modTxn f).brake = s.brake := rfl
@[simp] theorem modTxn_sto (f : Txn → Txn) : (s.modTxn f).sto = s.sto := rfl
@[simp] theorem modTxn_therm (f : Txn → Txn) : (s.modTxn f).therm = s.therm := rfl
@[simp] theorem modTxn_host (f : Txn → Txn) : (s.modTxn f).host = s.host := rfl
@[simp] theorem modTxn_haws (f : Txn → Txn) : (s.modTxn f).haws = s.haws := rfl
@[simp] theorem modTxn_cans (f : Txn → Txn) : (s.modTxn f).cans = s.cans := rfl
@[simp] theorem modTxn_chkIso (f : Txn → Txn) : (s.modTxn f).chkIso = s.chkIso := rfl
@[simp] theorem modTxn_chks (f : Txn → Txn) : (s.modTxn f).chks = s.chks := rfl
@[simp] theorem modTxn_wash (f : Txn → Txn) : (s.modTxn f).wash = s.wash := rfl
@[simp] theorem modTxn_st (f : Txn → Txn) : (s.modTxn f).st = s.st := rfl
@[simp] theorem modTxn_dbg (f : Txn → Txn) : (s.modTxn f).dbg = s.dbg := rfl
@[simp] theorem modTxn_evq (f : Txn → Txn) : (s.modTxn f).evq = s.evq := rfl
@[simp] theorem modTxn_readOut (f : Txn → Txn) : (s.modTxn f).readOut = s.readOut := rfl
@[simp] theorem modTxn_free (f : Txn → Txn) : (s.modTxn f).free = s.free := rfl
@[simp] theorem modTxn_txn (f : Txn → Txn) : (s.modTxn f).txn = f s.txn := rfl

/-! ### `modHaws` -/

@[simp] theorem modHaws_pending (f : Hawser → Hawser) : (s.modHaws f).pending = s.pending := rfl
@[simp] theorem modHaws_power (f : Hawser → Hawser) : (s.modHaws f).power = s.power := rfl
@[simp] theorem modHaws_tim (f : Hawser → Hawser) : (s.modHaws f).tim = s.tim := rfl
@[simp] theorem modHaws_setup (f : Hawser → Hawser) : (s.modHaws f).setup = s.setup := rfl
@[simp] theorem modHaws_setupPend (f : Hawser → Hawser) : (s.modHaws f).setupPend = s.setupPend := rfl
@[simp] theorem modHaws_params (f : Hawser → Hawser) : (s.modHaws f).params = s.params := rfl
@[simp] theorem modHaws_regions (f : Hawser → Hawser) : (s.modHaws f).regions = s.regions := rfl
@[simp] theorem modHaws_laws (f : Hawser → Hawser) : (s.modHaws f).laws = s.laws := rfl
@[simp] theorem modHaws_bridges (f : Hawser → Hawser) : (s.modHaws f).bridges = s.bridges := rfl
@[simp] theorem modHaws_gates (f : Hawser → Hawser) : (s.modHaws f).gates = s.gates := rfl
@[simp] theorem modHaws_cpFault (f : Hawser → Hawser) : (s.modHaws f).cpFault = s.cpFault := rfl
@[simp] theorem modHaws_chans (f : Hawser → Hawser) : (s.modHaws f).chans = s.chans := rfl
@[simp] theorem modHaws_sns (f : Hawser → Hawser) : (s.modHaws f).sns = s.sns := rfl
@[simp] theorem modHaws_wins (f : Hawser → Hawser) : (s.modHaws f).wins = s.wins := rfl
@[simp] theorem modHaws_wsts (f : Hawser → Hawser) : (s.modHaws f).wsts = s.wsts := rfl
@[simp] theorem modHaws_tripIn (f : Hawser → Hawser) : (s.modHaws f).tripIn = s.tripIn := rfl
@[simp] theorem modHaws_tracts (f : Hawser → Hawser) : (s.modHaws f).tracts = s.tracts := rfl
@[simp] theorem modHaws_span (f : Hawser → Hawser) : (s.modHaws f).span = s.span := rfl
@[simp] theorem modHaws_chg (f : Hawser → Hawser) : (s.modHaws f).chg = s.chg := rfl
@[simp] theorem modHaws_acts (f : Hawser → Hawser) : (s.modHaws f).acts = s.acts := rfl
@[simp] theorem modHaws_brake (f : Hawser → Hawser) : (s.modHaws f).brake = s.brake := rfl
@[simp] theorem modHaws_sto (f : Hawser → Hawser) : (s.modHaws f).sto = s.sto := rfl
@[simp] theorem modHaws_therm (f : Hawser → Hawser) : (s.modHaws f).therm = s.therm := rfl
@[simp] theorem modHaws_host (f : Hawser → Hawser) : (s.modHaws f).host = s.host := rfl
@[simp] theorem modHaws_txn (f : Hawser → Hawser) : (s.modHaws f).txn = s.txn := rfl
@[simp] theorem modHaws_cans (f : Hawser → Hawser) : (s.modHaws f).cans = s.cans := rfl
@[simp] theorem modHaws_chkIso (f : Hawser → Hawser) : (s.modHaws f).chkIso = s.chkIso := rfl
@[simp] theorem modHaws_chks (f : Hawser → Hawser) : (s.modHaws f).chks = s.chks := rfl
@[simp] theorem modHaws_wash (f : Hawser → Hawser) : (s.modHaws f).wash = s.wash := rfl
@[simp] theorem modHaws_st (f : Hawser → Hawser) : (s.modHaws f).st = s.st := rfl
@[simp] theorem modHaws_dbg (f : Hawser → Hawser) : (s.modHaws f).dbg = s.dbg := rfl
@[simp] theorem modHaws_evq (f : Hawser → Hawser) : (s.modHaws f).evq = s.evq := rfl
@[simp] theorem modHaws_readOut (f : Hawser → Hawser) : (s.modHaws f).readOut = s.readOut := rfl
@[simp] theorem modHaws_free (f : Hawser → Hawser) : (s.modHaws f).free = s.free := rfl
@[simp] theorem modHaws_haws (f : Hawser → Hawser) : (s.modHaws f).haws = f s.haws := rfl

/-! ### `modWash` -/

@[simp] theorem modWash_pending (f : Wash → Wash) : (s.modWash f).pending = s.pending := rfl
@[simp] theorem modWash_power (f : Wash → Wash) : (s.modWash f).power = s.power := rfl
@[simp] theorem modWash_tim (f : Wash → Wash) : (s.modWash f).tim = s.tim := rfl
@[simp] theorem modWash_setup (f : Wash → Wash) : (s.modWash f).setup = s.setup := rfl
@[simp] theorem modWash_setupPend (f : Wash → Wash) : (s.modWash f).setupPend = s.setupPend := rfl
@[simp] theorem modWash_params (f : Wash → Wash) : (s.modWash f).params = s.params := rfl
@[simp] theorem modWash_regions (f : Wash → Wash) : (s.modWash f).regions = s.regions := rfl
@[simp] theorem modWash_laws (f : Wash → Wash) : (s.modWash f).laws = s.laws := rfl
@[simp] theorem modWash_bridges (f : Wash → Wash) : (s.modWash f).bridges = s.bridges := rfl
@[simp] theorem modWash_gates (f : Wash → Wash) : (s.modWash f).gates = s.gates := rfl
@[simp] theorem modWash_cpFault (f : Wash → Wash) : (s.modWash f).cpFault = s.cpFault := rfl
@[simp] theorem modWash_chans (f : Wash → Wash) : (s.modWash f).chans = s.chans := rfl
@[simp] theorem modWash_sns (f : Wash → Wash) : (s.modWash f).sns = s.sns := rfl
@[simp] theorem modWash_wins (f : Wash → Wash) : (s.modWash f).wins = s.wins := rfl
@[simp] theorem modWash_wsts (f : Wash → Wash) : (s.modWash f).wsts = s.wsts := rfl
@[simp] theorem modWash_tripIn (f : Wash → Wash) : (s.modWash f).tripIn = s.tripIn := rfl
@[simp] theorem modWash_tracts (f : Wash → Wash) : (s.modWash f).tracts = s.tracts := rfl
@[simp] theorem modWash_span (f : Wash → Wash) : (s.modWash f).span = s.span := rfl
@[simp] theorem modWash_chg (f : Wash → Wash) : (s.modWash f).chg = s.chg := rfl
@[simp] theorem modWash_acts (f : Wash → Wash) : (s.modWash f).acts = s.acts := rfl
@[simp] theorem modWash_brake (f : Wash → Wash) : (s.modWash f).brake = s.brake := rfl
@[simp] theorem modWash_sto (f : Wash → Wash) : (s.modWash f).sto = s.sto := rfl
@[simp] theorem modWash_therm (f : Wash → Wash) : (s.modWash f).therm = s.therm := rfl
@[simp] theorem modWash_host (f : Wash → Wash) : (s.modWash f).host = s.host := rfl
@[simp] theorem modWash_txn (f : Wash → Wash) : (s.modWash f).txn = s.txn := rfl
@[simp] theorem modWash_haws (f : Wash → Wash) : (s.modWash f).haws = s.haws := rfl
@[simp] theorem modWash_cans (f : Wash → Wash) : (s.modWash f).cans = s.cans := rfl
@[simp] theorem modWash_chkIso (f : Wash → Wash) : (s.modWash f).chkIso = s.chkIso := rfl
@[simp] theorem modWash_chks (f : Wash → Wash) : (s.modWash f).chks = s.chks := rfl
@[simp] theorem modWash_st (f : Wash → Wash) : (s.modWash f).st = s.st := rfl
@[simp] theorem modWash_dbg (f : Wash → Wash) : (s.modWash f).dbg = s.dbg := rfl
@[simp] theorem modWash_evq (f : Wash → Wash) : (s.modWash f).evq = s.evq := rfl
@[simp] theorem modWash_readOut (f : Wash → Wash) : (s.modWash f).readOut = s.readOut := rfl
@[simp] theorem modWash_free (f : Wash → Wash) : (s.modWash f).free = s.free := rfl
@[simp] theorem modWash_wash (f : Wash → Wash) : (s.modWash f).wash = f s.wash := rfl

/-! ### `modSt` -/

@[simp] theorem modSt_pending (f : SelfTest → SelfTest) : (s.modSt f).pending = s.pending := rfl
@[simp] theorem modSt_power (f : SelfTest → SelfTest) : (s.modSt f).power = s.power := rfl
@[simp] theorem modSt_tim (f : SelfTest → SelfTest) : (s.modSt f).tim = s.tim := rfl
@[simp] theorem modSt_setup (f : SelfTest → SelfTest) : (s.modSt f).setup = s.setup := rfl
@[simp] theorem modSt_setupPend (f : SelfTest → SelfTest) : (s.modSt f).setupPend = s.setupPend := rfl
@[simp] theorem modSt_params (f : SelfTest → SelfTest) : (s.modSt f).params = s.params := rfl
@[simp] theorem modSt_regions (f : SelfTest → SelfTest) : (s.modSt f).regions = s.regions := rfl
@[simp] theorem modSt_laws (f : SelfTest → SelfTest) : (s.modSt f).laws = s.laws := rfl
@[simp] theorem modSt_bridges (f : SelfTest → SelfTest) : (s.modSt f).bridges = s.bridges := rfl
@[simp] theorem modSt_gates (f : SelfTest → SelfTest) : (s.modSt f).gates = s.gates := rfl
@[simp] theorem modSt_cpFault (f : SelfTest → SelfTest) : (s.modSt f).cpFault = s.cpFault := rfl
@[simp] theorem modSt_chans (f : SelfTest → SelfTest) : (s.modSt f).chans = s.chans := rfl
@[simp] theorem modSt_sns (f : SelfTest → SelfTest) : (s.modSt f).sns = s.sns := rfl
@[simp] theorem modSt_wins (f : SelfTest → SelfTest) : (s.modSt f).wins = s.wins := rfl
@[simp] theorem modSt_wsts (f : SelfTest → SelfTest) : (s.modSt f).wsts = s.wsts := rfl
@[simp] theorem modSt_tripIn (f : SelfTest → SelfTest) : (s.modSt f).tripIn = s.tripIn := rfl
@[simp] theorem modSt_tracts (f : SelfTest → SelfTest) : (s.modSt f).tracts = s.tracts := rfl
@[simp] theorem modSt_span (f : SelfTest → SelfTest) : (s.modSt f).span = s.span := rfl
@[simp] theorem modSt_chg (f : SelfTest → SelfTest) : (s.modSt f).chg = s.chg := rfl
@[simp] theorem modSt_acts (f : SelfTest → SelfTest) : (s.modSt f).acts = s.acts := rfl
@[simp] theorem modSt_brake (f : SelfTest → SelfTest) : (s.modSt f).brake = s.brake := rfl
@[simp] theorem modSt_sto (f : SelfTest → SelfTest) : (s.modSt f).sto = s.sto := rfl
@[simp] theorem modSt_therm (f : SelfTest → SelfTest) : (s.modSt f).therm = s.therm := rfl
@[simp] theorem modSt_host (f : SelfTest → SelfTest) : (s.modSt f).host = s.host := rfl
@[simp] theorem modSt_txn (f : SelfTest → SelfTest) : (s.modSt f).txn = s.txn := rfl
@[simp] theorem modSt_haws (f : SelfTest → SelfTest) : (s.modSt f).haws = s.haws := rfl
@[simp] theorem modSt_cans (f : SelfTest → SelfTest) : (s.modSt f).cans = s.cans := rfl
@[simp] theorem modSt_chkIso (f : SelfTest → SelfTest) : (s.modSt f).chkIso = s.chkIso := rfl
@[simp] theorem modSt_chks (f : SelfTest → SelfTest) : (s.modSt f).chks = s.chks := rfl
@[simp] theorem modSt_wash (f : SelfTest → SelfTest) : (s.modSt f).wash = s.wash := rfl
@[simp] theorem modSt_dbg (f : SelfTest → SelfTest) : (s.modSt f).dbg = s.dbg := rfl
@[simp] theorem modSt_evq (f : SelfTest → SelfTest) : (s.modSt f).evq = s.evq := rfl
@[simp] theorem modSt_readOut (f : SelfTest → SelfTest) : (s.modSt f).readOut = s.readOut := rfl
@[simp] theorem modSt_free (f : SelfTest → SelfTest) : (s.modSt f).free = s.free := rfl
@[simp] theorem modSt_st (f : SelfTest → SelfTest) : (s.modSt f).st = f s.st := rfl

/-! ### `modDbg` -/

@[simp] theorem modDbg_pending (f : Debug → Debug) : (s.modDbg f).pending = s.pending := rfl
@[simp] theorem modDbg_power (f : Debug → Debug) : (s.modDbg f).power = s.power := rfl
@[simp] theorem modDbg_tim (f : Debug → Debug) : (s.modDbg f).tim = s.tim := rfl
@[simp] theorem modDbg_setup (f : Debug → Debug) : (s.modDbg f).setup = s.setup := rfl
@[simp] theorem modDbg_setupPend (f : Debug → Debug) : (s.modDbg f).setupPend = s.setupPend := rfl
@[simp] theorem modDbg_params (f : Debug → Debug) : (s.modDbg f).params = s.params := rfl
@[simp] theorem modDbg_regions (f : Debug → Debug) : (s.modDbg f).regions = s.regions := rfl
@[simp] theorem modDbg_laws (f : Debug → Debug) : (s.modDbg f).laws = s.laws := rfl
@[simp] theorem modDbg_bridges (f : Debug → Debug) : (s.modDbg f).bridges = s.bridges := rfl
@[simp] theorem modDbg_gates (f : Debug → Debug) : (s.modDbg f).gates = s.gates := rfl
@[simp] theorem modDbg_cpFault (f : Debug → Debug) : (s.modDbg f).cpFault = s.cpFault := rfl
@[simp] theorem modDbg_chans (f : Debug → Debug) : (s.modDbg f).chans = s.chans := rfl
@[simp] theorem modDbg_sns (f : Debug → Debug) : (s.modDbg f).sns = s.sns := rfl
@[simp] theorem modDbg_wins (f : Debug → Debug) : (s.modDbg f).wins = s.wins := rfl
@[simp] theorem modDbg_wsts (f : Debug → Debug) : (s.modDbg f).wsts = s.wsts := rfl
@[simp] theorem modDbg_tripIn (f : Debug → Debug) : (s.modDbg f).tripIn = s.tripIn := rfl
@[simp] theorem modDbg_tracts (f : Debug → Debug) : (s.modDbg f).tracts = s.tracts := rfl
@[simp] theorem modDbg_span (f : Debug → Debug) : (s.modDbg f).span = s.span := rfl
@[simp] theorem modDbg_chg (f : Debug → Debug) : (s.modDbg f).chg = s.chg := rfl
@[simp] theorem modDbg_acts (f : Debug → Debug) : (s.modDbg f).acts = s.acts := rfl
@[simp] theorem modDbg_brake (f : Debug → Debug) : (s.modDbg f).brake = s.brake := rfl
@[simp] theorem modDbg_sto (f : Debug → Debug) : (s.modDbg f).sto = s.sto := rfl
@[simp] theorem modDbg_therm (f : Debug → Debug) : (s.modDbg f).therm = s.therm := rfl
@[simp] theorem modDbg_host (f : Debug → Debug) : (s.modDbg f).host = s.host := rfl
@[simp] theorem modDbg_txn (f : Debug → Debug) : (s.modDbg f).txn = s.txn := rfl
@[simp] theorem modDbg_haws (f : Debug → Debug) : (s.modDbg f).haws = s.haws := rfl
@[simp] theorem modDbg_cans (f : Debug → Debug) : (s.modDbg f).cans = s.cans := rfl
@[simp] theorem modDbg_chkIso (f : Debug → Debug) : (s.modDbg f).chkIso = s.chkIso := rfl
@[simp] theorem modDbg_chks (f : Debug → Debug) : (s.modDbg f).chks = s.chks := rfl
@[simp] theorem modDbg_wash (f : Debug → Debug) : (s.modDbg f).wash = s.wash := rfl
@[simp] theorem modDbg_st (f : Debug → Debug) : (s.modDbg f).st = s.st := rfl
@[simp] theorem modDbg_evq (f : Debug → Debug) : (s.modDbg f).evq = s.evq := rfl
@[simp] theorem modDbg_readOut (f : Debug → Debug) : (s.modDbg f).readOut = s.readOut := rfl
@[simp] theorem modDbg_free (f : Debug → Debug) : (s.modDbg f).free = s.free := rfl
@[simp] theorem modDbg_dbg (f : Debug → Debug) : (s.modDbg f).dbg = f s.dbg := rfl

/-! ### Events and draws -/

@[simp] theorem raiseCls_pending (c : Cause) (k : RClass) (r u n : Nat) (a b : Word) (t : Half) :
    (s.raiseCls c k r u n a b t).pending = s.pending := rfl
@[simp] theorem raiseCls_power (c : Cause) (k : RClass) (r u n : Nat) (a b : Word) (t : Half) :
    (s.raiseCls c k r u n a b t).power = s.power := rfl
@[simp] theorem raiseCls_tim (c : Cause) (k : RClass) (r u n : Nat) (a b : Word) (t : Half) :
    (s.raiseCls c k r u n a b t).tim = s.tim := rfl
@[simp] theorem raiseCls_setup (c : Cause) (k : RClass) (r u n : Nat) (a b : Word) (t : Half) :
    (s.raiseCls c k r u n a b t).setup = s.setup := rfl
@[simp] theorem raiseCls_setupPend (c : Cause) (k : RClass) (r u n : Nat) (a b : Word) (t : Half) :
    (s.raiseCls c k r u n a b t).setupPend = s.setupPend := rfl
@[simp] theorem raiseCls_params (c : Cause) (k : RClass) (r u n : Nat) (a b : Word) (t : Half) :
    (s.raiseCls c k r u n a b t).params = s.params := rfl
@[simp] theorem raiseCls_regions (c : Cause) (k : RClass) (r u n : Nat) (a b : Word) (t : Half) :
    (s.raiseCls c k r u n a b t).regions = s.regions := rfl
@[simp] theorem raiseCls_laws (c : Cause) (k : RClass) (r u n : Nat) (a b : Word) (t : Half) :
    (s.raiseCls c k r u n a b t).laws = s.laws := rfl
@[simp] theorem raiseCls_bridges (c : Cause) (k : RClass) (r u n : Nat) (a b : Word) (t : Half) :
    (s.raiseCls c k r u n a b t).bridges = s.bridges := rfl
@[simp] theorem raiseCls_gates (c : Cause) (k : RClass) (r u n : Nat) (a b : Word) (t : Half) :
    (s.raiseCls c k r u n a b t).gates = s.gates := rfl
@[simp] theorem raiseCls_cpFault (c : Cause) (k : RClass) (r u n : Nat) (a b : Word) (t : Half) :
    (s.raiseCls c k r u n a b t).cpFault = s.cpFault := rfl
@[simp] theorem raiseCls_chans (c : Cause) (k : RClass) (r u n : Nat) (a b : Word) (t : Half) :
    (s.raiseCls c k r u n a b t).chans = s.chans := rfl
@[simp] theorem raiseCls_sns (c : Cause) (k : RClass) (r u n : Nat) (a b : Word) (t : Half) :
    (s.raiseCls c k r u n a b t).sns = s.sns := rfl
@[simp] theorem raiseCls_wins (c : Cause) (k : RClass) (r u n : Nat) (a b : Word) (t : Half) :
    (s.raiseCls c k r u n a b t).wins = s.wins := rfl
@[simp] theorem raiseCls_wsts (c : Cause) (k : RClass) (r u n : Nat) (a b : Word) (t : Half) :
    (s.raiseCls c k r u n a b t).wsts = s.wsts := rfl
@[simp] theorem raiseCls_tripIn (c : Cause) (k : RClass) (r u n : Nat) (a b : Word) (t : Half) :
    (s.raiseCls c k r u n a b t).tripIn = s.tripIn := rfl
@[simp] theorem raiseCls_tracts (c : Cause) (k : RClass) (r u n : Nat) (a b : Word) (t : Half) :
    (s.raiseCls c k r u n a b t).tracts = s.tracts := rfl
@[simp] theorem raiseCls_span (c : Cause) (k : RClass) (r u n : Nat) (a b : Word) (t : Half) :
    (s.raiseCls c k r u n a b t).span = s.span := rfl
@[simp] theorem raiseCls_chg (c : Cause) (k : RClass) (r u n : Nat) (a b : Word) (t : Half) :
    (s.raiseCls c k r u n a b t).chg = s.chg := rfl
@[simp] theorem raiseCls_acts (c : Cause) (k : RClass) (r u n : Nat) (a b : Word) (t : Half) :
    (s.raiseCls c k r u n a b t).acts = s.acts := rfl
@[simp] theorem raiseCls_brake (c : Cause) (k : RClass) (r u n : Nat) (a b : Word) (t : Half) :
    (s.raiseCls c k r u n a b t).brake = s.brake := rfl
@[simp] theorem raiseCls_sto (c : Cause) (k : RClass) (r u n : Nat) (a b : Word) (t : Half) :
    (s.raiseCls c k r u n a b t).sto = s.sto := rfl
@[simp] theorem raiseCls_therm (c : Cause) (k : RClass) (r u n : Nat) (a b : Word) (t : Half) :
    (s.raiseCls c k r u n a b t).therm = s.therm := rfl
@[simp] theorem raiseCls_host (c : Cause) (k : RClass) (r u n : Nat) (a b : Word) (t : Half) :
    (s.raiseCls c k r u n a b t).host = s.host := rfl
@[simp] theorem raiseCls_txn (c : Cause) (k : RClass) (r u n : Nat) (a b : Word) (t : Half) :
    (s.raiseCls c k r u n a b t).txn = s.txn := rfl
@[simp] theorem raiseCls_haws (c : Cause) (k : RClass) (r u n : Nat) (a b : Word) (t : Half) :
    (s.raiseCls c k r u n a b t).haws = s.haws := rfl
@[simp] theorem raiseCls_cans (c : Cause) (k : RClass) (r u n : Nat) (a b : Word) (t : Half) :
    (s.raiseCls c k r u n a b t).cans = s.cans := rfl
@[simp] theorem raiseCls_chkIso (c : Cause) (k : RClass) (r u n : Nat) (a b : Word) (t : Half) :
    (s.raiseCls c k r u n a b t).chkIso = s.chkIso := rfl
@[simp] theorem raiseCls_chks (c : Cause) (k : RClass) (r u n : Nat) (a b : Word) (t : Half) :
    (s.raiseCls c k r u n a b t).chks = s.chks := rfl
@[simp] theorem raiseCls_wash (c : Cause) (k : RClass) (r u n : Nat) (a b : Word) (t : Half) :
    (s.raiseCls c k r u n a b t).wash = s.wash := rfl
@[simp] theorem raiseCls_st (c : Cause) (k : RClass) (r u n : Nat) (a b : Word) (t : Half) :
    (s.raiseCls c k r u n a b t).st = s.st := rfl
@[simp] theorem raiseCls_dbg (c : Cause) (k : RClass) (r u n : Nat) (a b : Word) (t : Half) :
    (s.raiseCls c k r u n a b t).dbg = s.dbg := rfl
@[simp] theorem raiseCls_readOut (c : Cause) (k : RClass) (r u n : Nat) (a b : Word) (t : Half) :
    (s.raiseCls c k r u n a b t).readOut = s.readOut := rfl
@[simp] theorem raiseCls_free (c : Cause) (k : RClass) (r u n : Nat) (a b : Word) (t : Half) :
    (s.raiseCls c k r u n a b t).free = s.free := rfl
@[simp] theorem draw_pending : s.draw.2.pending = s.pending := rfl
@[simp] theorem draw_power : s.draw.2.power = s.power := rfl
@[simp] theorem draw_tim : s.draw.2.tim = s.tim := rfl
@[simp] theorem draw_setup : s.draw.2.setup = s.setup := rfl
@[simp] theorem draw_setupPend : s.draw.2.setupPend = s.setupPend := rfl
@[simp] theorem draw_params : s.draw.2.params = s.params := rfl
@[simp] theorem draw_regions : s.draw.2.regions = s.regions := rfl
@[simp] theorem draw_laws : s.draw.2.laws = s.laws := rfl
@[simp] theorem draw_bridges : s.draw.2.bridges = s.bridges := rfl
@[simp] theorem draw_gates : s.draw.2.gates = s.gates := rfl
@[simp] theorem draw_cpFault : s.draw.2.cpFault = s.cpFault := rfl
@[simp] theorem draw_chans : s.draw.2.chans = s.chans := rfl
@[simp] theorem draw_sns : s.draw.2.sns = s.sns := rfl
@[simp] theorem draw_wins : s.draw.2.wins = s.wins := rfl
@[simp] theorem draw_wsts : s.draw.2.wsts = s.wsts := rfl
@[simp] theorem draw_tripIn : s.draw.2.tripIn = s.tripIn := rfl
@[simp] theorem draw_tracts : s.draw.2.tracts = s.tracts := rfl
@[simp] theorem draw_span : s.draw.2.span = s.span := rfl
@[simp] theorem draw_chg : s.draw.2.chg = s.chg := rfl
@[simp] theorem draw_acts : s.draw.2.acts = s.acts := rfl
@[simp] theorem draw_brake : s.draw.2.brake = s.brake := rfl
@[simp] theorem draw_sto : s.draw.2.sto = s.sto := rfl
@[simp] theorem draw_therm : s.draw.2.therm = s.therm := rfl
@[simp] theorem draw_host : s.draw.2.host = s.host := rfl
@[simp] theorem draw_txn : s.draw.2.txn = s.txn := rfl
@[simp] theorem draw_haws : s.draw.2.haws = s.haws := rfl
@[simp] theorem draw_cans : s.draw.2.cans = s.cans := rfl
@[simp] theorem draw_chkIso : s.draw.2.chkIso = s.chkIso := rfl
@[simp] theorem draw_chks : s.draw.2.chks = s.chks := rfl
@[simp] theorem draw_wash : s.draw.2.wash = s.wash := rfl
@[simp] theorem draw_st : s.draw.2.st = s.st := rfl
@[simp] theorem draw_dbg : s.draw.2.dbg = s.dbg := rfl
@[simp] theorem draw_evq : s.draw.2.evq = s.evq := rfl
@[simp] theorem draw_readOut : s.draw.2.readOut = s.readOut := rfl

/-! ### A unit read after its update, and after the update of another -/

@[simp] theorem reg_modReg (i : RegionId) (f : Region → Region) : (s.modReg i f).reg i = f (s.reg i) := by
  simp [State.modReg, State.reg]
theorem reg_modReg_ne (i j : RegionId) (f : Region → Region) (h : i ≠ j) : (s.modReg i f).reg j = s.reg j := by
  simp only [State.modReg, State.reg]
  exact Vector.getElem_set_ne _ _ (fun e => h (rIx_inj (Fin.ext e)))
@[simp] theorem law_modLaw (i : LawId) (f : Law → Law) : (s.modLaw i f).law i = f (s.law i) := by
  simp [State.modLaw, State.law]
theorem law_modLaw_ne (i j : LawId) (f : Law → Law) (h : i ≠ j) : (s.modLaw i f).law j = s.law j := by
  simp only [State.modLaw, State.law]
  exact Vector.getElem_set_ne _ _ (fun e => h (Fin.ext e))
@[simp] theorem brg_modBrg (i : BridgeId) (f : Bridge → Bridge) : (s.modBrg i f).brg i = f (s.brg i) := by
  simp [State.modBrg, State.brg]
theorem brg_modBrg_ne (i j : BridgeId) (f : Bridge → Bridge) (h : i ≠ j) : (s.modBrg i f).brg j = s.brg j := by
  simp only [State.modBrg, State.brg]
  exact Vector.getElem_set_ne _ _ (fun e => h (bIx_inj (Fin.ext e)))
@[simp] theorem gate_modGate (i : GsId) (f : Gate → Gate) : (s.modGate i f).gate i = f (s.gate i) := by
  simp [State.modGate, State.gate]
theorem gate_modGate_ne (i j : GsId) (f : Gate → Gate) (h : i ≠ j) : (s.modGate i f).gate j = s.gate j := by
  simp only [State.modGate, State.gate]
  exact Vector.getElem_set_ne _ _ (fun e => h (Fin.ext e))
@[simp] theorem chan_modChan (i : ChanId) (f : Chan → Chan) : (s.modChan i f).chan i = f (s.chan i) := by
  simp [State.modChan, State.chan]
theorem chan_modChan_ne (i j : ChanId) (f : Chan → Chan) (h : i ≠ j) : (s.modChan i f).chan j = s.chan j := by
  simp only [State.modChan, State.chan]
  exact Vector.getElem_set_ne _ _ (fun e => h (Fin.ext e))
@[simp] theorem snsC_modSns (i : SnsId) (f : Sns → Sns) : (s.modSns i f).snsC i = f (s.snsC i) := by
  simp [State.modSns, State.snsC]
theorem snsC_modSns_ne (i j : SnsId) (f : Sns → Sns) (h : i ≠ j) : (s.modSns i f).snsC j = s.snsC j := by
  simp only [State.modSns, State.snsC]
  exact Vector.getElem_set_ne _ _ (fun e => h (Fin.ext e))
@[simp] theorem win_modWin (i : WinId) (f : Win → Win) : (s.modWin i f).win i = f (s.win i) := by
  simp [State.modWin, State.win]
theorem win_modWin_ne (i j : WinId) (f : Win → Win) (h : i ≠ j) : (s.modWin i f).win j = s.win j := by
  simp only [State.modWin, State.win]
  exact Vector.getElem_set_ne _ _ (fun e => h (Fin.ext e))
@[simp] theorem wst_modWst (i : Fin 3) (f : Wst → Wst) : (s.modWst i f).wst i = f (s.wst i) := by
  simp [State.modWst, State.wst]
theorem wst_modWst_ne (i j : Fin 3) (f : Wst → Wst) (h : i ≠ j) : (s.modWst i f).wst j = s.wst j := by
  simp only [State.modWst, State.wst]
  exact Vector.getElem_set_ne _ _ (fun e => h (Fin.ext e))
@[simp] theorem tr_modTr (i : Side) (f : Traction → Traction) : (s.modTr i f).tr i = f (s.tr i) := by
  simp [State.modTr, State.tr]
theorem tr_modTr_ne (i j : Side) (f : Traction → Traction) (h : i ≠ j) : (s.modTr i f).tr j = s.tr j := by
  simp only [State.modTr, State.tr]
  exact Vector.getElem_set_ne _ _ (fun e => h (sIx_inj (Fin.ext e)))
@[simp] theorem actu_modAct (i : ActId) (f : Actuator → Actuator) : (s.modAct i f).actu i = f (s.actu i) := by
  simp [State.modAct, State.actu]
theorem actu_modAct_ne (i j : ActId) (f : Actuator → Actuator) (h : i ≠ j) : (s.modAct i f).actu j = s.actu j := by
  simp only [State.modAct, State.actu]
  exact Vector.getElem_set_ne _ _ (fun e => h (Fin.ext e))
@[simp] theorem can_modCan (i : CanId) (f : Can → Can) : (s.modCan i f).can i = f (s.can i) := by
  simp [State.modCan, State.can]
theorem can_modCan_ne (i j : CanId) (f : Can → Can) (h : i ≠ j) : (s.modCan i f).can j = s.can j := by
  simp only [State.modCan, State.can]
  exact Vector.getElem_set_ne _ _ (fun e => h (Fin.ext e))
@[simp] theorem chk_modChk (i : ChkId) (f : Chk → Chk) : (s.modChk i f).chk i = f (s.chk i) := by
  simp [State.modChk, State.chk]
theorem chk_modChk_ne (i j : ChkId) (f : Chk → Chk) (h : i ≠ j) : (s.modChk i f).chk j = s.chk j := by
  simp only [State.modChk, State.chk]
  exact Vector.getElem_set_ne _ _ (fun e => h (Fin.ext e))
@[simp] theorem slot_modSlot (i : SlotId) (f : Slot → Slot) : (s.modSlot i f).slot i = f (s.slot i) := by
  simp [State.modSlot, State.slot]
theorem slot_modSlot_ne (i j : SlotId) (f : Slot → Slot) (h : i ≠ j) : (s.modSlot i f).slot j = s.slot j := by
  simp only [State.modSlot, State.slot]
  exact Vector.getElem_set_ne _ _ (fun e => h (Fin.ext e))
@[simp] theorem ring_modRing (i : RingId) (f : RingSt → RingSt) : (s.modRing i f).ring i = f (s.ring i) := by
  simp [State.modRing, State.ring]
theorem ring_modRing_ne (i j : RingId) (f : RingSt → RingSt) (h : i ≠ j) : (s.modRing i f).ring j = s.ring j := by
  simp only [State.modRing, State.ring]
  exact Vector.getElem_set_ne _ _ (fun e => h (Fin.ext e))

end Sys2Proof.Machine
end

