-- ==== Sys2Proof/Laws/Finish.lean ====
section
/-! SUPPORT. What writing events leaves alone: everything but the host interface and the list of detected events (R357, R442, R447). -/

namespace Sys2Proof.Machine

/-- Two states differ in the host interface and in the detected events alone. -/
def HostOnly (s t : State) : Prop := t = { s with host := t.host, evq := t.evq }

theorem HostOnly.refl (s : State) : HostOnly s s := rfl

theorem HostOnly.trans {s t u : State} (h : HostOnly s t) (k : HostOnly t u) : HostOnly s u := by
  unfold HostOnly at *; rw [k, h]

theorem modHost_hostOnly (s : State) (f : HostIf → HostIf) : HostOnly s (s.modHost f) := rfl
theorem modRing_hostOnly (s : State) (n : RingId) (f : RingSt → RingSt) : HostOnly s (s.modRing n f) := rfl

theorem sendVector_hostOnly (s : State) (v : Nat) : HostOnly s (s.sendVector v) := by
  unfold State.sendVector; dsimp only; split; · rfl
  split <;> rfl

theorem writeRing3_hostOnly (s : State) (e : Event) : HostOnly s (s.writeRing3 e) := by
  unfold State.writeRing3; dsimp only; split; · rfl
  split
  · refine HostOnly.trans ?_ (sendVector_hostOnly _ _)
    rfl
  · rfl

theorem writeLog_hostOnly (s : State) (e : Event) : HostOnly s (s.writeLog e) := by
  unfold State.writeLog; dsimp only; repeat' split
  all_goals rfl

theorem writeEvent_hostOnly (s : State) (e : Event) : HostOnly s (s.writeEvent e) := by
  unfold State.writeEvent; split; · rfl
  split
  · exact writeRing3_hostOnly s e
  · exact writeLog_hostOnly s e

theorem writeEvents_hostOnly (es : List Event) (s : State) : HostOnly s (es.foldl State.writeEvent s) := by
  induction es generalizing s with
  | nil => rfl
  | cons e es ih => exact (writeEvent_hostOnly s e).trans (ih _)

theorem sendReturn_hostOnly (s : State) : HostOnly s s.sendReturn := by
  unfold State.sendReturn; split
  · exact HostOnly.trans (t := s.writeReturn) rfl (sendVector_hostOnly s.writeReturn _)
  · rfl

theorem stopAfterSafe_hostOnly (s : State) : HostOnly s s.stopAfterSafe := by
  unfold State.stopAfterSafe; split
  · exact (sendReturn_hostOnly s).trans rfl
  · rfl

/-- Writing the events of a command touches nothing but the host interface. -/
theorem finish_hostOnly (s : State) : HostOnly s s.finish := by
  have h1 : HostOnly s { s with evq := [] } := rfl
  have h2 := writeEvents_hostOnly (sortEv s.evq) { s with evq := [] }
  have h3 := stopAfterSafe_hostOnly ((sortEv s.evq).foldl State.writeEvent { s with evq := [] })
  exact ((h1.trans h2).trans h3).trans (modHost_hostOnly _ (fun h => { h with alert := h.alert ||| State.alertHolds _ }))

@[simp] theorem finish_pending (s : State) : s.finish.pending = s.pending := by rw [finish_hostOnly s]
@[simp] theorem finish_power (s : State) : s.finish.power = s.power := by rw [finish_hostOnly s]
@[simp] theorem finish_tim (s : State) : s.finish.tim = s.tim := by rw [finish_hostOnly s]
@[simp] theorem finish_setup (s : State) : s.finish.setup = s.setup := by rw [finish_hostOnly s]
@[simp] theorem finish_setupPend (s : State) : s.finish.setupPend = s.setupPend := by rw [finish_hostOnly s]
@[simp] theorem finish_params (s : State) : s.finish.params = s.params := by rw [finish_hostOnly s]
@[simp] theorem finish_regions (s : State) : s.finish.regions = s.regions := by rw [finish_hostOnly s]
@[simp] theorem finish_laws (s : State) : s.finish.laws = s.laws := by rw [finish_hostOnly s]
@[simp] theorem finish_bridges (s : State) : s.finish.bridges = s.bridges := by rw [finish_hostOnly s]
@[simp] theorem finish_gates (s : State) : s.finish.gates = s.gates := by rw [finish_hostOnly s]
@[simp] theorem finish_cpFault (s : State) : s.finish.cpFault = s.cpFault := by rw [finish_hostOnly s]
@[simp] theorem finish_chans (s : State) : s.finish.chans = s.chans := by rw [finish_hostOnly s]
@[simp] theorem finish_sns (s : State) : s.finish.sns = s.sns := by rw [finish_hostOnly s]
@[simp] theorem finish_wins (s : State) : s.finish.wins = s.wins := by rw [finish_hostOnly s]
@[simp] theorem finish_wsts (s : State) : s.finish.wsts = s.wsts := by rw [finish_hostOnly s]
@[simp] theorem finish_tripIn (s : State) : s.finish.tripIn = s.tripIn := by rw [finish_hostOnly s]
@[simp] theorem finish_tracts (s : State) : s.finish.tracts = s.tracts := by rw [finish_hostOnly s]
@[simp] theorem finish_span (s : State) : s.finish.span = s.span := by rw [finish_hostOnly s]
@[simp] theorem finish_chg (s : State) : s.finish.chg = s.chg := by rw [finish_hostOnly s]
@[simp] theorem finish_acts (s : State) : s.finish.acts = s.acts := by rw [finish_hostOnly s]
@[simp] theorem finish_brake (s : State) : s.finish.brake = s.brake := by rw [finish_hostOnly s]
@[simp] theorem finish_sto (s : State) : s.finish.sto = s.sto := by rw [finish_hostOnly s]
@[simp] theorem finish_therm (s : State) : s.finish.therm = s.therm := by rw [finish_hostOnly s]
@[simp] theorem finish_txn (s : State) : s.finish.txn = s.txn := by rw [finish_hostOnly s]
@[simp] theorem finish_haws (s : State) : s.finish.haws = s.haws := by rw [finish_hostOnly s]
@[simp] theorem finish_cans (s : State) : s.finish.cans = s.cans := by rw [finish_hostOnly s]
@[simp] theorem finish_chkIso (s : State) : s.finish.chkIso = s.chkIso := by rw [finish_hostOnly s]
@[simp] theorem finish_chks (s : State) : s.finish.chks = s.chks := by rw [finish_hostOnly s]
@[simp] theorem finish_wash (s : State) : s.finish.wash = s.wash := by rw [finish_hostOnly s]
@[simp] theorem finish_st (s : State) : s.finish.st = s.st := by rw [finish_hostOnly s]
@[simp] theorem finish_dbg (s : State) : s.finish.dbg = s.dbg := by rw [finish_hostOnly s]
@[simp] theorem finish_readOut (s : State) : s.finish.readOut = s.readOut := by rw [finish_hostOnly s]
@[simp] theorem finish_free (s : State) : s.finish.free = s.free := by rw [finish_hostOnly s]

/-- The three answers, with what they leave alone. -/
theorem done_eq (s t : State) : done s t = .next { t.finish with
    pending := s.pending, params := s.params, setup := s.setup, setupPend := s.setupPend } := rfl
theorem doneSetup_eq (s t : State) : doneSetup s t = .next { t.finish with pending := s.pending, params := s.params } := rfl
theorem doneAll_eq (s t : State) : doneAll s t = .next { t.finish with pending := s.pending } := rfl

end Sys2Proof.Machine
end

