-- ==== Sys2Proof/Laws/Maps.lean ====
section
/-! SUPPORT. The sparse maps of registers: what a write reads back as, what it leaves alone, and that it keeps the canonical form. -/

namespace Sys2Proof.Machine

variable {d : Nat → Word}

theorem wfFrom_cons {lo : Option Nat} {k : Nat} {v : Word} {r : RegMap} :
    wfFrom d lo ((k, v) :: r) = true ↔ (∀ l, lo = some l → l < k) ∧ v ≠ d k ∧ wfFrom d (some k) r = true := by
  cases lo <;> simp [wfFrom, and_assoc]

theorem wfFrom_weaken {m : RegMap} {lo hi : Option Nat} (h : wfFrom d hi m = true) (hle : ∀ l, lo = some l → ∃ u, hi = some u ∧ l ≤ u) :
    wfFrom d lo m = true := by
  cases m with
  | nil => simp [wfFrom]
  | cons p r =>
    obtain ⟨k, v⟩ := p
    rw [wfFrom_cons] at h ⊢
    refine ⟨fun l hl => ?_, h.2⟩
    obtain ⟨u, hu, hlu⟩ := hle l hl
    exact Nat.lt_of_le_of_lt hlu (h.1 u hu)

theorem wfFrom_above {m : RegMap} {l : Nat} (h : wfFrom d (some l) m = true) : ∀ p ∈ m, l < p.1 := by
  induction m generalizing l with
  | nil => simp
  | cons p r ih =>
    obtain ⟨k, v⟩ := p
    rw [wfFrom_cons] at h
    intro q hq
    rcases List.mem_cons.mp hq with rfl | hq
    · exact h.1 l rfl
    · exact Nat.lt_trans (h.1 l rfl) (ih h.2.2 q hq)

/-- Reading a key that every listed key exceeds gives the default. -/
theorem mapGet_above {m : RegMap} {k : Nat} (h : ∀ p ∈ m, k < p.1) : mapGet d m k = d k := by
  induction m with
  | nil => rfl
  | cons p r ih =>
    obtain ⟨j, v⟩ := p
    have hj : k < j := h (j, v) (by simp)
    simp only [mapGet]
    rw [if_neg (by omega)]
    exact ih (fun q hq => h q (List.mem_cons_of_mem _ hq))

theorem wfFrom_del {m : RegMap} {lo : Option Nat} {k : Nat} (h : wfFrom d lo m = true) : wfFrom d lo (mapDel m k) = true := by
  induction m generalizing lo with
  | nil => simpa [mapDel] using h
  | cons p r ih =>
    obtain ⟨j, v⟩ := p
    rw [wfFrom_cons] at h
    simp only [mapDel]
    split
    · exact ih (wfFrom_weaken h.2.2 (fun l hl => ⟨j, rfl, Nat.le_of_lt (h.1 l hl)⟩))
    · exact wfFrom_cons.mpr ⟨h.1, h.2.1, ih h.2.2⟩

theorem wfFrom_ins {m : RegMap} {lo : Option Nat} {k : Nat} {v : Word} (h : wfFrom d lo m = true) (hk : ∀ l, lo = some l → l < k)
    (hv : v ≠ d k) : wfFrom d lo (mapIns m k v) = true := by
  induction m generalizing lo with
  | nil => exact wfFrom_cons.mpr ⟨hk, hv, by simp [wfFrom]⟩
  | cons p r ih =>
    obtain ⟨j, w⟩ := p
    have h' := wfFrom_cons.mp h
    simp only [mapIns]
    split
    · exact wfFrom_cons.mpr ⟨hk, hv, wfFrom_cons.mpr ⟨fun l hl => by cases hl; assumption, h'.2⟩⟩
    · split
      · next hkj => subst hkj; exact wfFrom_cons.mpr ⟨hk, hv, h'.2.2⟩
      · exact wfFrom_cons.mpr ⟨h'.1, h'.2.1, ih h'.2.2 (fun l hl => by cases hl; omega)⟩

/-- A write keeps the canonical form. -/
theorem mapWf_mapSet {m : RegMap} (h : mapWf d m = true) (k : Nat) (v : Word) : mapWf d (mapSet d m k v) = true := by
  unfold mapSet mapWf at *
  split
  · exact wfFrom_del h
  · exact wfFrom_ins h (by simp) (by assumption)

/-- So does leaving entries out. -/
theorem wfFrom_filter {m : RegMap} {lo : Option Nat} (q : Nat × Word → Bool) (h : wfFrom d lo m = true) :
    wfFrom d lo (m.filter q) = true := by
  induction m generalizing lo with
  | nil => simpa using h
  | cons p r ih =>
    obtain ⟨j, w⟩ := p
    have h' := wfFrom_cons.mp h
    by_cases hq : q (j, w) = true
    · rw [List.filter_cons_of_pos hq]; exact wfFrom_cons.mpr ⟨h'.1, h'.2.1, ih h'.2.2⟩
    · rw [List.filter_cons_of_neg hq]
      exact wfFrom_weaken (ih h'.2.2) (fun l hl => ⟨j, rfl, Nat.le_of_lt (h'.1 l hl)⟩)

theorem mapWf_filter {m : RegMap} (q : Nat × Word → Bool) (h : mapWf d m = true) : mapWf d (m.filter q) = true := wfFrom_filter q h

theorem mapGet_del_self {m : RegMap} {k : Nat} : mapGet d (mapDel m k) k = d k := by
  induction m with
  | nil => rfl
  | cons p r ih =>
    obtain ⟨j, v⟩ := p
    simp only [mapDel]
    split
    · exact ih
    · next hj => simp only [mapGet]; rw [if_neg hj]; exact ih

theorem mapGet_del_ne {m : RegMap} {k j : Nat} (h : j ≠ k) : mapGet d (mapDel m k) j = mapGet d m j := by
  induction m with
  | nil => rfl
  | cons p r ih =>
    obtain ⟨i, v⟩ := p
    simp only [mapDel]
    split
    · next hi => subst hi; simp only [mapGet]; rw [if_neg (fun e => h e.symm)]; exact ih
    · simp only [mapGet]; split
      · rfl
      · exact ih

theorem mapGet_ins_self {m : RegMap} {k : Nat} {v : Word} : mapGet d (mapIns m k v) k = v := by
  induction m with
  | nil => simp [mapIns, mapGet]
  | cons p r ih =>
    obtain ⟨j, w⟩ := p
    simp only [mapIns]
    split
    · simp [mapGet]
    · split
      · simp [mapGet]
      · next hkj => simp only [mapGet]; rw [if_neg (fun e => hkj e.symm)]; exact ih

theorem mapGet_ins_ne {m : RegMap} {k j : Nat} {v : Word} (h : j ≠ k) : mapGet d (mapIns m k v) j = mapGet d m j := by
  induction m with
  | nil => simp [mapIns, mapGet, Ne.symm h]
  | cons p r ih =>
    obtain ⟨i, w⟩ := p
    simp only [mapIns]
    split
    · simp [mapGet, Ne.symm h]
    · split
      · next hki => subst hki; simp [mapGet, Ne.symm h]
      · simp only [mapGet]; split
        · rfl
        · exact ih

/-- A key reads back the value written. -/
theorem mapGet_mapSet_self (m : RegMap) (k : Nat) (v : Word) : mapGet d (mapSet d m k v) k = v := by
  unfold mapSet
  split
  · next hv => rw [hv]; exact mapGet_del_self
  · exact mapGet_ins_self

/-- A write leaves every other key alone. -/
theorem mapGet_mapSet_ne (m : RegMap) {k j : Nat} (v : Word) (h : j ≠ k) : mapGet d (mapSet d m k v) j = mapGet d m j := by
  unfold mapSet
  split
  · exact mapGet_del_ne h
  · exact mapGet_ins_ne h

end Sys2Proof.Machine
end

