-- ==== Sys2Proof/Laws/Ops.lean ====
section
/-! SUPPORT. What each shared operation of Machine/Ops.lean can change, said once: an equation of the state it answers with the state it
takes, from which every untouched field follows by one rewrite, and the values it leaves in the unit it acts on. -/

namespace Sys2Proof.Machine

/-- Only the list of detected events changes. -/
def QueueOnly (s t : State) : Prop := t = { s with evq := t.evq }
/-- Only law engines change. -/
def LawsOnly (s t : State) : Prop := t = { s with laws := t.laws }
/-- Only bridges change. -/
def BridgesOnly (s t : State) : Prop := t = { s with bridges := t.bridges }
/-- Only law engines, bridges and actuators change. -/
def DrivesOnly (s t : State) : Prop := t = { s with laws := t.laws, bridges := t.bridges, acts := t.acts }
/-- Only what the safe state of a region may touch changes. -/
def SafeOnly (s t : State) : Prop :=
  t = { s with
    power := t.power, regions := t.regions, laws := t.laws, bridges := t.bridges, tracts := t.tracts, span := t.span, chg := t.chg,
    acts := t.acts, brake := t.brake, host := t.host, txn := t.txn, haws := t.haws, chks := t.chks, wash := t.wash, evq := t.evq }

theorem LawsOnly.trans {s t u : State} (h : LawsOnly s t) (k : LawsOnly t u) : LawsOnly s u := by
  unfold LawsOnly at *; rw [k, h]
theorem BridgesOnly.trans {s t u : State} (h : BridgesOnly s t) (k : BridgesOnly t u) : BridgesOnly s u := by
  unfold BridgesOnly at *; rw [k, h]
theorem DrivesOnly.trans {s t u : State} (h : DrivesOnly s t) (k : DrivesOnly t u) : DrivesOnly s u := by
  unfold DrivesOnly at *; rw [k, h]
theorem SafeOnly.trans {s t u : State} (h : SafeOnly s t) (k : SafeOnly t u) : SafeOnly s u := by
  unfold SafeOnly at *; rw [k, h]

theorem SafeOnly.refl (s : State) : SafeOnly s s := rfl

/-- Updates of single units keep the relation. -/
theorem SafeOnly.modReg {s t : State} (h : SafeOnly s t) (i : RegionId) (f : Region → Region) : SafeOnly s (t.modReg i f) := h.trans rfl
theorem SafeOnly.modLaw {s t : State} (h : SafeOnly s t) (i : LawId) (f : Law → Law) : SafeOnly s (t.modLaw i f) := h.trans rfl
theorem SafeOnly.modTr {s t : State} (h : SafeOnly s t) (i : Side) (f : Traction → Traction) : SafeOnly s (t.modTr i f) := h.trans rfl
theorem SafeOnly.modAct {s t : State} (h : SafeOnly s t) (i : ActId) (f : Actuator → Actuator) : SafeOnly s (t.modAct i f) := h.trans rfl
theorem SafeOnly.modPower {s t : State} (h : SafeOnly s t) (f : Power → Power) : SafeOnly s (t.modPower f) := h.trans rfl
theorem SafeOnly.modSpan {s t : State} (h : SafeOnly s t) (f : Span → Span) : SafeOnly s (t.modSpan f) := h.trans rfl
theorem SafeOnly.modChg {s t : State} (h : SafeOnly s t) (f : Charger → Charger) : SafeOnly s (t.modChg f) := h.trans rfl
theorem SafeOnly.modHost {s t : State} (h : SafeOnly s t) (f : HostIf → HostIf) : SafeOnly s (t.modHost f) := h.trans rfl
theorem SafeOnly.modHaws {s t : State} (h : SafeOnly s t) (f : Hawser → Hawser) : SafeOnly s (t.modHaws f) := h.trans rfl
theorem SafeOnly.raiseReg {s t : State} (h : SafeOnly s t) (c : Cause) (r : RegionId) (d0 d1 : Word) : SafeOnly s (t.raiseReg c r d0 d1) :=
  h.trans rfl
theorem SafeOnly.raisePkg {s t : State} (h : SafeOnly s t) (c : Cause) (d0 d1 : Word) : SafeOnly s (t.raisePkg c d0 d1) := h.trans rfl

theorem LawsOnly.drives {s t : State} (h : LawsOnly s t) : DrivesOnly s t := by unfold LawsOnly DrivesOnly at *; rw [h]
theorem BridgesOnly.drives {s t : State} (h : BridgesOnly s t) : DrivesOnly s t := by unfold BridgesOnly DrivesOnly at *; rw [h]
theorem DrivesOnly.safe {s t : State} (h : DrivesOnly s t) : SafeOnly s t := by unfold DrivesOnly SafeOnly at *; rw [h]
theorem QueueOnly.safe {s t : State} (h : QueueOnly s t) : SafeOnly s t := by unfold QueueOnly SafeOnly at *; rw [h]
theorem LawsOnly.safe {s t : State} (h : LawsOnly s t) : SafeOnly s t := h.drives.safe
theorem BridgesOnly.safe {s t : State} (h : BridgesOnly s t) : SafeOnly s t := h.drives.safe

/-- What no safe state touches, but for transactions, is untouched by every operation of this file. -/
theorem SafeOnly.keeps {s t : State} (h : SafeOnly s t) (htxn : t.txn = s.txn) : KeepsSensing s t := by
  unfold SafeOnly at h
  exact ⟨⟨by rw [h], by rw [h], by rw [h], by rw [h], htxn⟩, by rw [h], by rw [h], by rw [h], by rw [h], by rw [h], by rw [h], by rw [h], by rw [h],
    by rw [h], by rw [h]⟩

/-- A relation that holds of every turn holds of `each`. -/
theorem each_induct {α : Type} (R : State → State → Prop) (hr : ∀ s, R s s) (ht : ∀ {s t u}, R s t → R t u → R s u) (f : State → α → State)
    (hf : ∀ s x, R s (f s x)) (xs : List α) (s : State) : R s (each xs f s) := by
  unfold each
  induction xs generalizing s with
  | nil => exact hr s
  | cons x xs ih => exact ht (hf s x) (ih (f s x))

/-! ### Events -/

/-- Detecting an event appends its record and changes nothing else. -/
theorem raiseCls_only (s : State) (c : Cause) (cls : RClass) (reg clu unit : Nat) (d0 d1 : Word) (tag : Half) :
    QueueOnly s (s.raiseCls c cls reg clu unit d0 d1 tag) := rfl
theorem raiseCls_evq (s : State) (c : Cause) (cls : RClass) (reg clu unit : Nat) (d0 d1 : Word) (tag : Half) :
    (s.raiseCls c cls reg clu unit d0 d1 tag).evq =
      s.evq ++ [s.event (codeOf c.lvl reg c.num) cls (BitVec.ofNat 8 clu) (BitVec.ofNat 8 unit) d0 d1 tag] := rfl
theorem raiseTxn_only (s : State) (c : Cause) (k : Nat) (d0 d1 : Word) (tag : Half) : QueueOnly s (s.raiseTxn c k d0 d1 tag) := by
  unfold State.raiseTxn; split <;> rfl

/-! ### Law engines -/

theorem setRun_only (s : State) (l : LawId) (st : RunState) : LawsOnly s (s.setRun l st) := rfl

/-- A run-state word of the replicas leaves the run state alone (R131). -/
@[simp] theorem setRw_state (x : Law) (k : Nat) (v : F32) : (x.setRw k v).state = x.state := rfl

/-- The engine stands in the run state asked for (R89). -/
@[simp] theorem setRun_state (s : State) (l : LawId) (st : RunState) : ((s.setRun l st).law l).state = st := by
  unfold State.setRun
  rw [law_modLaw]
  dsimp only
  split
  · assumption
  · cases st <;> rfl

theorem setRun_ne (s : State) (l m : LawId) (st : RunState) (h : l ≠ m) : (s.setRun l st).law m = s.law m := law_modLaw_ne s l m _ h

/-- Every entry to STOPPED starts integrators and filters at zero, in every replica (R89). -/
theorem setRun_stopped (s : State) (l : LawId) (h : (s.law l).state ≠ .stopped) (k : RepId) : (((s.setRun l .stopped).law l).rep k).run = [] := by
  unfold State.setRun
  rw [law_modLaw]
  dsimp only
  rw [if_neg h]
  unfold Law.stop Law.rep
  simp

/-- An engine already in the run state is as it was, but for a transition that waited. -/
theorem setRun_same (s : State) (l : LawId) (st : RunState) (h : (s.law l).state = st) :
    (s.setRun l st).law l = { s.law l with next := none } := by
  unfold State.setRun
  rw [law_modLaw]
  dsimp only
  rw [if_pos h]

theorem setRunNext_only (s : State) (l : LawId) (st : RunState) : LawsOnly s (s.setRunNext l st) := rfl

/-! ### Bridges -/

theorem drive_only (s : State) (b : BridgeId) : BridgesOnly s (s.drive b) := by unfold State.drive; split <;> rfl
theorem drive_ne (s : State) (b c : BridgeId) (h : b ≠ c) : (s.drive b).brg c = s.brg c := by
  unfold State.drive; split <;> exact brg_modBrg_ne s b c _ h

/-- Driving a bridge's output moves its two switches alone. -/
theorem drive_brg (s : State) (b : BridgeId) :
    (s.drive b).brg b = { s.brg b with hiOn := ((s.drive b).brg b).hiOn, loOn := ((s.drive b).brg b).loOn } := by
  unfold State.drive; split <;> rw [brg_modBrg]

theorem select_only (s : State) (o : OutSel) (b : BridgeId) : BridgesOnly s (s.select o b) :=
  BridgesOnly.trans (t := s.modBrg b _) rfl (drive_only _ b)
theorem select_ne (s : State) (o : OutSel) (b c : BridgeId) (h : b ≠ c) : (s.select o b).brg c = s.brg c :=
  (drive_ne _ b c h).trans (brg_modBrg_ne s b c _ h)
@[simp] theorem select_sel (s : State) (o : OutSel) (b : BridgeId) : ((s.select o b).brg b).sel = o := by
  unfold State.select
  rw [drive_brg, brg_modBrg]

/-- Device time that passes moves device time, the counters of the CAN controllers, and bridges whose carriers move (R58, R250, R429). -/
theorem timeTo_only (s : State) (t : Time) :
    s.timeTo t = { s with tim := { s.tim with devTime := t }, cans := (s.timeTo t).cans, bridges := (s.timeTo t).bridges } := by
  have h : BridgesOnly (each ([0, 1, 2] : List CanId) (fun u c => u.modCan c (fun x => { x with tsNow := x.tsNow + (canCounts t - canCounts s.tim.devTime) }))
      (s.modTim (fun x => { x with devTime := t }))) (s.timeTo t) :=
    each_induct BridgesOnly (fun _ => rfl) BridgesOnly.trans _ drive_only _ _
  unfold BridgesOnly at h
  rw [h]
  rfl

theorem armBridge_only (s : State) (b : BridgeId) : BridgesOnly s (s.armBridge b) := rfl
theorem armBridge_ne (s : State) (b c : BridgeId) (h : b ≠ c) : (s.armBridge b).brg c = s.brg c := brg_modBrg_ne s b c _ h
/-- An armed bridge starts with both switches off and its dead times at `DT_INIT` (R137, R17). -/
theorem armBridge_brg (s : State) (b : BridgeId) :
    ((s.armBridge b).brg b).arm = .armed ∧ ((s.armBridge b).brg b).hiOn = false ∧ ((s.armBridge b).brg b).loOn = false ∧
    ((s.armBridge b).brg b).dtHl.now = secUnits (s.brgP b 0x03) ∧ ((s.armBridge b).brg b).dtLh.now = secUnits (s.brgP b 0x03) := by
  unfold State.armBridge
  rw [brg_modBrg]
  exact ⟨rfl, rfl, rfl, rfl, rfl⟩

theorem disarmBridge_only (s : State) (b : BridgeId) : BridgesOnly s (s.disarmBridge b) := by
  unfold State.disarmBridge; split
  · exact BridgesOnly.trans (t := s.modBrg b _) rfl (drive_only _ b)
  split <;> rfl
theorem disarmBridge_ne (s : State) (b c : BridgeId) (h : b ≠ c) : (s.disarmBridge b).brg c = s.brg c := by
  unfold State.disarmBridge; split
  · exact (drive_ne _ b c h).trans (brg_modBrg_ne s b c _ h)
  split
  · exact brg_modBrg_ne s b c _ h
  · rfl
/-- After disarming no bridge is armed that was disarmed (R137). -/
theorem disarmBridge_arm (s : State) (b : BridgeId) : ((s.disarmBridge b).brg b).arm ≠ .armed := by
  unfold State.disarmBridge; split
  · rw [drive_brg, brg_modBrg]; exact fun h => nomatch h
  · rename_i h
    have h' : (s.brg b).arm ≠ .armed := fun e => h (by unfold State.isArmed; exact decide_eq_true e)
    split
    · rw [brg_modBrg]; exact h'
    · exact h'
theorem disarmAll_only (s : State) (bs : List BridgeId) : BridgesOnly s (s.disarmAll bs) :=
  each_induct BridgesOnly (fun _ => rfl) BridgesOnly.trans _ disarmBridge_only bs s

theorem clearIso_only (s : State) (b : BridgeId) : BridgesOnly s (s.clearIso b) := rfl
theorem clearIso_ne (s : State) (b c : BridgeId) (h : b ≠ c) : (s.clearIso b).brg c = s.brg c := brg_modBrg_ne s b c _ h
@[simp] theorem clearIso_arm (s : State) (b : BridgeId) : ((s.clearIso b).brg b).arm = .disarmed := by
  unfold State.clearIso; rw [brg_modBrg]

/-- Isolating a bridge changes bridges alone. -/
theorem isolate_only (s : State) (b : BridgeId) (cause : Nat) (hard : Bool) : BridgesOnly s (s.isolate b cause hard) := by
  unfold State.isolate; split <;> rfl

theorem isolate_ne (s : State) (b c : BridgeId) (cause : Nat) (hard : Bool) (h : b ≠ c) : (s.isolate b cause hard).brg c = s.brg c := by
  unfold State.isolate; split <;> exact brg_modBrg_ne s b c _ h

/-- A bridge is isolated alone: it latches the first cause, and its switches go off (R29, R169). -/
theorem isolate_brg (s : State) (b : BridgeId) (cause : Nat) (hard : Bool) (hi : s.isIso b = false) :
    ((s.isolate b cause hard).brg b).arm = .isolated ∧ ((s.isolate b cause hard).brg b).isoCause = BitVec.ofNat 10 cause ∧
    ((s.isolate b cause hard).brg b).hiOn = false ∧ ((s.isolate b cause hard).brg b).loOn = false := by
  unfold State.isolate
  rw [if_neg (by rw [hi]; exact Bool.false_ne_true), brg_modBrg]
  exact ⟨rfl, rfl, rfl, rfl⟩

/-- A bridge in ISOLATE stays there with its first cause (R169). -/
theorem isolate_again (s : State) (b : BridgeId) (cause : Nat) (hard : Bool) (hi : s.isIso b = true) :
    (s.isolate b cause hard).brg b = { s.brg b with isoHard := (s.brg b).isoHard || hard } := by
  unfold State.isolate
  rw [if_pos hi, brg_modBrg]

/-! ### Charger, transactions, brake -/

theorem leaveSession_only (s : State) (c : EndCause) : s.leaveSession c = { s with chg := (s.leaveSession c).chg } := rfl
theorem endSession_only (s : State) (c : EndCause) : s.endSession c = { s with chg := (s.endSession c).chg } := rfl
theorem chgLaws_only (s : State) : LawsOnly s s.chgLaws :=
  ((setRun_only s 8 .tracking).trans (setRun_only _ 9 .stopped)).trans (setRun_only _ 10 .running)

/-- CHG in OFF touches engines, bridges and the charger alone (R269, R271). -/
theorem chgOff_only (s : State) : s.chgOff = { s with laws := s.chgOff.laws, bridges := s.chgOff.bridges, chg := s.chgOff.chg } := by
  have h := (disarmAll_only s (regBridges .chg)).drives.trans (chgLaws_only _).drives
  unfold DrivesOnly at h
  have ha : ((s.disarmAll (regBridges .chg)).chgLaws).acts = s.acts := by
    have h1 := disarmAll_only s (regBridges .chg)
    have h2 := chgLaws_only (s.disarmAll (regBridges .chg))
    unfold BridgesOnly at h1
    unfold LawsOnly at h2
    rw [h2, h1]
  rw [ha] at h
  unfold State.chgOff State.modChg
  rw [h]
@[simp] theorem chgOff_mode (s : State) : s.chgOff.chg.mode = .off := rfl

theorem closeSlot_only (s : State) (k : SlotId) : s.closeSlot k = { s with txn := (s.closeSlot k).txn } := rfl
@[simp] theorem closeSlot_slot (s : State) (k : SlotId) : (s.closeSlot k).slot k = {} := slot_modSlot s k _
theorem closeSlot_ne (s : State) (k j : SlotId) (h : k ≠ j) : (s.closeSlot k).slot j = s.slot j := slot_modSlot_ne s k j _ h

/-- A rollback closes its slot and records TXN_ROLLED_BACK (R387). -/
theorem rollBack_only (s : State) (k : SlotId) (why : Nat) (tag : Half) :
    s.rollBack k why tag = { s with txn := (s.closeSlot k).txn, evq := (s.rollBack k why tag).evq } := by
  have h := raiseTxn_only (s.closeSlot k) evTxnRolledBack k.val (wd why) 0 tag
  unfold QueueOnly at h
  unfold State.rollBack
  rw [h]
  rfl

theorem rollBackAll_only (s : State) (due : Bool) : s.rollBackAll due = { s with txn := (s.rollBackAll due).txn, evq := (s.rollBackAll due).evq } := by
  refine each_induct (fun s t => t = { s with txn := t.txn, evq := t.evq }) (fun _ => rfl) (fun {s t u} h k => by rw [k, h]) _ (fun s k => ?_) allSlots s
  split
  · rw [rollBack_only]
  · rfl

/-- An aborted brake test touches the brake and the detected events alone (R308). -/
theorem abortBrakeTest_only (s : State) :
    s.abortBrakeTest = { s with brake := s.abortBrakeTest.brake, evq := s.abortBrakeTest.evq } := by
  unfold State.abortBrakeTest; split <;> rfl

/-- Applying the brake: both switches off, mode APPLIED (R303, R305). -/
theorem brakeOff_only (s : State) (tag : Half) : s.brakeOff tag = { s with brake := (s.brakeOff tag).brake, evq := (s.brakeOff tag).evq } := by
  unfold State.brakeOff; dsimp only; repeat' split
  all_goals rfl
theorem brakeOff_brake (s : State) (tag : Half) :
    (s.brakeOff tag).brake.mode = .applied ∧ (s.brakeOff tag).brake.hs = false ∧ (s.brakeOff tag).brake.ls = false := by
  unfold State.brakeOff; dsimp only; repeat' split
  all_goals exact ⟨rfl, rfl, rfl⟩

/-! ### Safe states -/

theorem abandonTest_only (s : State) (rank : Nat) : s.abandonTest rank = { s with span := (s.abandonTest rank).span, evq := (s.abandonTest rank).evq } := by
  unfold State.abandonTest; split <;> rfl

theorem washBack_only (s : State) (l : LawId) (k : RepId) : LawsOnly s (s.washBack l k) := by
  unfold State.washBack; split <;> rfl

theorem washNext_only (s : State) : s.washNext = { s with wash := s.washNext.wash, evq := s.washNext.evq } := by
  unfold State.washNext; split <;> rfl

/-- A slot that ends sends its replica back and moves the rotation on (R474). -/
theorem washAbort_only (s : State) (r : RegionId) :
    s.washAbort r = { s with laws := (s.washAbort r).laws, wash := (s.washAbort r).wash, evq := (s.washAbort r).evq } := by
  unfold State.washAbort; split
  · rw [washNext_only]
    have h := washBack_only s (washLaw s.wash.pos) (washRep s.wash.pos)
    unfold LawsOnly at h
    unfold State.washEnd State.modWash
    rw [h]
  · rfl

theorem endHalts_only (s : State) (r : RegionId) : LawsOnly s (s.endHalts r) :=
  each_induct LawsOnly (fun _ => rfl) LawsOnly.trans (fun s l => s.modLaw l (fun x => { x with halted := false, haltReq := false }))
    (fun _ _ => rfl) _ _

/-- A turn that keeps the relation may be repeated. -/
theorem SafeOnly.each {α : Type} {s t : State} (h : SafeOnly s t) (xs : List α) (f : State → α → State) (hf : ∀ u x, SafeOnly u (f u x)) :
    SafeOnly s (each xs f t) := h.trans (each_induct SafeOnly SafeOnly.refl SafeOnly.trans f hf xs t)

theorem SafeOnly.select {s t : State} (h : SafeOnly s t) (bs : List BridgeId) (o : OutSel) :
    SafeOnly s (Machine.each bs (fun u b => u.select o b) t) :=
  h.each bs _ (fun u b => (select_only u o b).safe)
theorem SafeOnly.setRun {s t : State} (h : SafeOnly s t) (l : LawId) (r : RunState) : SafeOnly s (t.setRun l r) := h.trans (setRun_only t l r).safe
theorem SafeOnly.setRunNext {s t : State} (h : SafeOnly s t) (l : LawId) (r : RunState) : SafeOnly s (t.setRunNext l r) :=
  h.trans (setRunNext_only t l r).safe
theorem SafeOnly.chgLaws {s t : State} (h : SafeOnly s t) : SafeOnly s t.chgLaws := h.trans (chgLaws_only t).safe
theorem SafeOnly.endSession {s t : State} (h : SafeOnly s t) (c : EndCause) : SafeOnly s (t.endSession c) := h.modChg _
theorem SafeOnly.leaveSession {s t : State} (h : SafeOnly s t) (c : EndCause) : SafeOnly s (t.leaveSession c) := h.modChg _
theorem SafeOnly.chgOff {s t : State} (h : SafeOnly s t) : SafeOnly s t.chgOff :=
  ((h.trans (disarmAll_only t _).safe).chgLaws).modChg _
theorem SafeOnly.chgGoOff {s t : State} (h : SafeOnly s t) (c : EndCause) : SafeOnly s (t.chgGoOff c) := by
  unfold State.chgGoOff
  split
  · exact h.leaveSession c
  · exact (h.leaveSession c).chgOff

theorem SafeOnly.rollBackAll {s t : State} (h : SafeOnly s t) (due : Bool) : SafeOnly s (t.rollBackAll due) :=
  h.trans (by rw [rollBackAll_only]; rfl)
theorem SafeOnly.washAbort {s t : State} (h : SafeOnly s t) (r : RegionId) : SafeOnly s (t.washAbort r) :=
  h.trans (by rw [washAbort_only]; rfl)
theorem SafeOnly.abandonTest {s t : State} (h : SafeOnly s t) (k : Nat) : SafeOnly s (t.abandonTest k) :=
  h.trans (by rw [abandonTest_only]; rfl)
theorem SafeOnly.abortBrakeTest {s t : State} (h : SafeOnly s t) : SafeOnly s t.abortBrakeTest :=
  h.trans (by rw [abortBrakeTest_only]; rfl)
theorem SafeOnly.brakeOff {s t : State} (h : SafeOnly s t) (tag : Half) : SafeOnly s (t.brakeOff tag) :=
  h.trans (by rw [brakeOff_only]; rfl)
theorem SafeOnly.endHalts {s t : State} (h : SafeOnly s t) (r : RegionId) : SafeOnly s (t.endHalts r) := h.trans (endHalts_only t r).safe

/-- What the safe state of a region touches (R32). -/
theorem SafeOnly.safeState {s t : State} (h : SafeOnly s t) (r : RegionId) : SafeOnly s (t.safeState r) := by
  cases r with
  | sup => exact h
  | hst => unfold State.safeState; exact h.modHost _
  | tra => unfold State.safeState; exact h.modTr _ _
  | trb => unfold State.safeState; exact h.modTr _ _
  | spn =>
    unfold State.safeState
    refine SafeOnly.trans (SafeOnly.modSpan (SafeOnly.setRunNext ?_ 6 .stopped) _) (drive_only _ .bch).safe
    exact h.select spanBridges .off
  | chg =>
    unfold State.safeState; extract_lets s1
    have h1 : SafeOnly s s1 := (h.endSession .fault).select (regBridges .chg) .off
    exact (((h1.setRunNext 8 .tracking).setRunNext 9 .stopped).setRunNext 10 .running).modChg _
  | act => exact h

/-- What the host-loss reaction touches (R347). -/
theorem SafeOnly.hostLoss {s t : State} (h : SafeOnly s t) (due : Bool) : SafeOnly s (t.hostLoss due) := by
  unfold State.hostLoss
  refine SafeOnly.rollBackAll (SafeOnly.modHost (SafeOnly.chgGoOff (SafeOnly.each ?_ allActs _ (fun u a => ?_)) _) _) due
  · exact h.each _ _ (fun u l => (SafeOnly.refl u).modLaw l _)
  · split
    · exact (SafeOnly.refl u).modLaw _ _
    · exact .refl u

theorem SafeOnly.modChk {s t : State} (h : SafeOnly s t) (n : ChkId) (f : Chk → Chk) : SafeOnly s (t.modChk n f) := h.trans rfl
theorem SafeOnly.queueCross {s t : State} (h : SafeOnly s t) (k : CrossKind) (p : List Word) : SafeOnly s (t.queueCross k p) := by
  unfold State.queueCross; split
  · exact h
  split
  · unfold State.startCross; exact (h.modHaws _).modChk _ _
  · exact h.modHaws _
/-- The FAREWELLs of DEVICE-SAFE (R407). -/
theorem SafeOnly.farewell {s t : State} (h : SafeOnly s t) : SafeOnly s t.farewell := by
  unfold State.farewell; split
  · exact (((h.modHaws _).queueCross _ _).queueCross _ _).queueCross _ _
  · exact h

/-- What DEVICE-SAFE touches (R39). -/
theorem deviceSafe_only (s : State) (code : Half) : SafeOnly s (s.deviceSafe code) := by
  unfold State.deviceSafe; split
  · exact .refl s
  · refine SafeOnly.farewell (SafeOnly.brakeOff (SafeOnly.abortBrakeTest (SafeOnly.each ?_ allRegs _ (fun t r => ?_))) 0)
    · exact ((SafeOnly.refl s).modPower _).raisePkg _ _ _
    · split
      · exact .refl t
      · refine SafeOnly.modReg ?_ _ _
        split
        · exact .refl t
        · refine SafeOnly.safeState (SafeOnly.endHalts (SafeOnly.washAbort ?_ r) r) r
          split
          · exact (SafeOnly.refl t).abandonTest 1
          · exact .refl t

/-- DEVICE-SAFE holds from its first cause (R39). -/
theorem deviceSafe_twice (s : State) (code : Half) (h : s.power.devSafe = true) : s.deviceSafe code = s := by
  unfold State.deviceSafe; rw [if_pos h]

/-- What REGION-SAFE touches (R32). -/
theorem regionSafe_only (s : State) (r : RegionId) (code : Half) : SafeOnly s (s.regionSafe r code) := by
  have h0 : SafeOnly s (if r = RegionId.spn then s.abandonTest 2 else s) := by
    split
    · exact (SafeOnly.refl s).abandonTest 2
    · exact .refl s
  unfold State.regionSafe; split
  · exact deviceSafe_only s code
  split
  · exact .refl s
  · extract_lets s00 s0 s1 s2
    have hs00 : SafeOnly s s00 := h0
    have hs0 : SafeOnly s s0 := by
      simp only [s0]
      split
      · split
        · exact hs00.abortBrakeTest
        · exact hs00
      · exact hs00
    have hs1 : SafeOnly s s1 := (hs0.modReg _ _).raiseReg _ _ _ _
    have h2 : SafeOnly s s2 := ((hs1.safeState _).washAbort _).endHalts _
    split
    · exact h2.hostLoss false
    · exact h2

theorem SafeOnly.safeBy {s t : State} (h : SafeOnly s t) (r : RegionId) (c : Cause) : SafeOnly s (t.safeBy r c) := h.trans (regionSafe_only t r _)
theorem SafeOnly.raiseCls {s t : State} (h : SafeOnly s t) (c : Cause) (cls : RClass) (reg clu unit : Nat) (d0 d1 : Word) (tag : Half) :
    SafeOnly s (t.raiseCls c cls reg clu unit d0 d1 tag) := h.trans rfl

/-! ### A bridge that enters ISOLATE -/

theorem armedBefore_only (s : State) (b : BridgeId) : SafeOnly s (s.armedBefore b) := by
  unfold State.armedBefore; repeat' split
  all_goals rfl

/-- What the loss of a phase touches (R251). -/
theorem phaseLost_only (s : State) (k : Nat) : SafeOnly s (s.phaseLost k) := by
  unfold State.phaseLost; extract_lets n carries under cls left s1 s2
  have h2 : SafeOnly s s2 := ((SafeOnly.refl s).modSpan _).raiseCls _ _ _ _ _ _ _ _
  split
  · exact h2.safeBy _ _
  · exact h2

/-- What the entry to ISOLATE touches (R169, R174, R251). -/
theorem toIso_only (s : State) (b : BridgeId) (cause : Nat) (hard : Bool) : SafeOnly s (s.toIso b cause hard) := by
  have h1 : SafeOnly s (s.isolate b cause hard) := (isolate_only s b cause hard).safe
  unfold State.toIso; dsimp only; split
  · exact h1
  · split
    · exact (h1.trans (armedBefore_only _ b)).trans (phaseLost_only _ _)
    · exact h1.trans (armedBefore_only _ b)

theorem isoBy_only (s : State) (c : Cause) (b : BridgeId) (unit : Nat) (d0 d1 : Word) (hard : Bool) :
    SafeOnly s (s.isoBy c b unit d0 d1 hard) := SafeOnly.trans (t := s.raiseBrg c b unit d0 d1) rfl (toIso_only _ b _ hard)

end Sys2Proof.Machine
end

