-- ==== Sys2Proof/Laws/PerInstr.lean ====
section
/-! SUPPORT. Which commands stop: only those whose operands name something the device does not have (WellFormed.lean), one lemma per command. -/

namespace Sys2Proof.Machine

theorem done_no_fault {s t : State} {f : Fault} : done s t ≠ .fault f := by simp [done]
theorem doneSetup_no_fault {s t : State} {f : Fault} : doneSetup s t ≠ .fault f := by simp [doneSetup]
theorem doneAll_no_fault {s t : State} {f : Fault} : doneAll s t ≠ .fault f := by simp [doneAll]
theorem whenLive_no_fault {s : State} {g : State → State} {f : Fault} : whenLive s g ≠ .fault f := by simp [whenLive, done]
theorem whenUnit_fault {ok : Bool} {s : State} {g : State → State} {f : Fault} (h : whenUnit ok s g = .fault f) : ok = false := by
  unfold whenUnit at h; split at h
  · exact absurd h whenLive_no_fault
  · simp_all

end Sys2Proof.Machine

namespace Sys2Proof.Laws.Stops

open Machine

/-- A command that faults in some state is ill formed. -/
def Statement (i : Instr) : Prop := ∀ (s : State) (f : Fault), exec i s = .fault f → i.wellFormed = false

variable {s : State} {f : Fault}

theorem nop (h : RecHdr) : Statement (.nop h) := by
  intro s f e; rw [exec_nop] at e; unfold execNop at e; exact absurd e whenLive_no_fault
theorem setMode (h : RecHdr) (region actuator mode : Byte) : Statement (.setMode h region actuator mode) := by
  intro s f e; rw [exec_setMode] at e; unfold execSetMode at e; exact absurd e whenLive_no_fault
theorem setpoint (h : RecHdr) (s0 s1 s2 : SpSlot) : Statement (.setpoint h s0 s1 s2) := by
  intro s f e; rw [exec_setpoint] at e; unfold execSetpoint at e; exact absurd e whenLive_no_fault
theorem arm (h : RecHdr) (region : Byte) (mask : Word) : Statement (.arm h region mask) := by
  intro s f e; rw [exec_arm] at e; unfold execArm at e; exact absurd e whenLive_no_fault
theorem disarm (h : RecHdr) (region : Byte) (mask : Word) : Statement (.disarm h region mask) := by
  intro s f e; rw [exec_disarm] at e; unfold execDisarm at e; exact absurd e whenLive_no_fault
theorem resetCluster (h : RecHdr) (region cluster : Byte) : Statement (.resetCluster h region cluster) := by
  intro s f e; rw [exec_resetCluster] at e; unfold execResetCluster at e; exact absurd e whenLive_no_fault
theorem resetRegion (h : RecHdr) (region : Byte) : Statement (.resetRegion h region) := by
  intro s f e; rw [exec_resetRegion] at e; unfold execResetRegion at e; exact absurd e whenLive_no_fault
theorem brakeApply (h : RecHdr) : Statement (.brakeApply h) := by
  intro s f e; rw [exec_brakeApply] at e; unfold execBrakeApply at e; exact absurd e whenLive_no_fault
theorem brakeRelease (h : RecHdr) : Statement (.brakeRelease h) := by
  intro s f e; rw [exec_brakeRelease] at e; unfold execBrakeRelease at e; exact absurd e whenLive_no_fault
theorem brakeTest (h : RecHdr) : Statement (.brakeTest h) := by
  intro s f e; rw [exec_brakeTest] at e; unfold execBrakeTest at e; exact absurd e whenLive_no_fault
theorem setPosition (h : RecHdr) (actuator : Byte) (value : F32) : Statement (.setPosition h actuator value) := by
  intro s f e; rw [exec_setPosition] at e; unfold execSetPosition at e; exact absurd e whenLive_no_fault
theorem canRecover (h : RecHdr) (ctrl : Byte) : Statement (.canRecover h ctrl) := by
  intro s f e; rw [exec_canRecover] at e; unfold execCanRecover at e; exact absurd e whenLive_no_fault
theorem selftest (h : RecHdr) (kind region cluster replica : Byte) : Statement (.selftest h kind region cluster replica) := by
  intro s f e; rw [exec_selftest] at e; unfold execSelftest at e; exact absurd e whenLive_no_fault
theorem begin (h : RecHdr) (slot flags : Byte) (txid target : Word) : Statement (.begin h slot flags txid target) := by
  intro s f e; rw [exec_begin] at e; unfold execBegin at e; exact absurd e whenLive_no_fault
theorem stage (h : RecHdr) (slot count : Byte) (i0 : Half) (v0 : Word) (i1 : Half) (v1 : Word) (i2 : Half) (v2 : Word) : Statement (.stage h slot count i0 v0 i1 v1 i2 v2) := by
  intro s f e; rw [exec_stage] at e; unfold execStage at e; exact absurd e whenLive_no_fault
theorem commit (h : RecHdr) (slot : Byte) (seq expect : Word) : Statement (.commit h slot seq expect) := by
  intro s f e; rw [exec_commit] at e; unfold execCommit at e; exact absurd e whenLive_no_fault
theorem rollback (h : RecHdr) (slot : Byte) : Statement (.rollback h slot) := by
  intro s f e; rw [exec_rollback] at e; unfold execRollback at e; exact absurd e whenLive_no_fault
theorem voteInstant : Statement (.voteInstant) := by
  intro s f e; rw [exec_voteInstant] at e; unfold execVoteInstant at e; exact absurd e whenLive_no_fault
theorem tideBoundary (netA netB : Bool) : Statement (.tideBoundary netA netB) := by
  intro s f e; rw [exec_tideBoundary] at e; unfold execTideBoundary at e; exact absurd e doneAll_no_fault
theorem timingMark : Statement (.timingMark) := by
  intro s f e; rw [exec_timingMark] at e; unfold execTimingMark at e; exact absurd e whenLive_no_fault
theorem regionPeriodStart (r : RegionId) : Statement (.regionPeriodStart r) := by
  intro s f e; rw [exec_regionPeriodStart] at e; unfold execRegionPeriodStart at e; exact absurd e doneSetup_no_fault
theorem sampleInstant (law : LawId) (pins : Tri PinSample) (acks : Tri Ack) : Statement (.sampleInstant law pins acks) := by
  intro s f e; rw [exec_sampleInstant] at e; unfold execSampleInstant at e; exact absurd e whenLive_no_fault
theorem law14Pass (k : Fin 4) : Statement (.law14Pass k) := by
  intro s f e; rw [exec_law14Pass] at e; unfold execLaw14Pass at e; exact whenUnit_fault e
theorem vote (law : LawId) (obs : VoteObs) : Statement (.vote law obs) := by
  intro s f e; rw [exec_vote] at e; unfold execVote at e; exact absurd e whenLive_no_fault
theorem applyInstant (law : LawId) (late : Bool) : Statement (.applyInstant law late) := by
  intro s f e; rw [exec_applyInstant] at e; unfold execApplyInstant at e; exact absurd e whenLive_no_fault
theorem loadPoint (b : BridgeId) (peak : Bool) (copiesAgree : Bool) : Statement (.loadPoint b peak copiesAgree) := by
  intro s f e; rw [exec_loadPoint] at e; unfold execLoadPoint at e; exact absurd e whenLive_no_fault
theorem manifestFetch : Statement (.manifestFetch) := by
  intro s f e; rw [exec_manifestFetch] at e; unfold execManifestFetch at e; exact absurd e whenLive_no_fault
theorem manifestReadComplete (bytes : BitVec 1024) : Statement (.manifestReadComplete bytes) := by
  intro s f e; rw [exec_manifestReadComplete] at e; unfold execManifestReadComplete at e; exact absurd e whenLive_no_fault
theorem descriptorReadComplete (ring : RingId) (entries : List Entry) : Statement (.descriptorReadComplete ring entries) := by
  intro s f e; rw [exec_descriptorReadComplete] at e; unfold execDescriptorReadComplete at e; exact absurd e whenLive_no_fault
theorem hostReadTimeout (read : HostRead) : Statement (.hostReadTimeout read) := by
  intro s f e; rw [exec_hostReadTimeout] at e; unfold execHostReadTimeout at e; exact absurd e whenLive_no_fault
theorem tlpDiscard (tlp : BadTlp) : Statement (.tlpDiscard tlp) := by
  intro s f e; rw [exec_tlpDiscard] at e; unfold execTlpDiscard at e; exact absurd e whenLive_no_fault
theorem pcieReset (kind : PcieResetKind) : Statement (.pcieReset kind) := by
  intro s f e; rw [exec_pcieReset] at e; unfold execPcieReset at e; exact absurd e doneSetup_no_fault
theorem registerWrite (port : Port) (offset : Half) (be : BitVec 4) (value : Word) : Statement (.registerWrite port offset be value) := by
  intro s f e; rw [exec_registerWrite] at e; unfold execRegisterWrite at e; exact absurd e doneSetup_no_fault
theorem rcRead (port : Port) (offset : Half) (be : BitVec 4) (setNow : Word) : Statement (.rcRead port offset be setNow) := by
  intro s f e; rw [exec_rcRead] at e; unfold execRcRead at e; exact absurd e done_no_fault
theorem w1cWrite (port : Port) (offset : Half) (be : BitVec 4) (value : Word) (setNow : Word) : Statement (.w1cWrite port offset be value setNow) := by
  intro s f e; rw [exec_w1cWrite] at e; unfold execW1cWrite at e; exact absurd e doneSetup_no_fault
theorem devtimeCapture (port : Port) : Statement (.devtimeCapture port) := by
  intro s f e; rw [exec_devtimeCapture] at e; unfold execDevtimeCapture at e; exact absurd e done_no_fault
theorem accCapture (port : Port) (chan : ChanId) : Statement (.accCapture port chan) := by
  intro s f e; rw [exec_accCapture] at e; unfold execAccCapture at e; exact absurd e done_no_fault
theorem lqDataRead (port : Port) (sns : SnsId) : Statement (.lqDataRead port sns) := by
  intro s f e; rw [exec_lqDataRead] at e; unfold execLqDataRead at e; exact absurd e done_no_fault
theorem timingSetupWrite (port : Port) (offset : Half) (value : Word) : Statement (.timingSetupWrite port offset value) := by
  intro s f e; rw [exec_timingSetupWrite] at e; unfold execTimingSetupWrite at e; exact absurd e doneSetup_no_fault
theorem hstRunSet (port : Port) (value : Word) : Statement (.hstRunSet port value) := by
  intro s f e; rw [exec_hstRunSet] at e; unfold execHstRunSet at e; exact absurd e doneSetup_no_fault
theorem hstRunClear (port : Port) (value : Word) : Statement (.hstRunClear port value) := by
  intro s f e; rw [exec_hstRunClear] at e; unfold execHstRunClear at e; exact absurd e doneSetup_no_fault
theorem spiRead (head : SpiHead) (bytes : List Byte) : Statement (.spiRead head bytes) := by
  intro s f e; rw [exec_spiRead] at e; unfold execSpiRead at e; exact absurd e done_no_fault
theorem spiWrite (head : SpiHead) (bytes : List Byte) : Statement (.spiWrite head bytes) := by
  intro s f e; rw [exec_spiWrite] at e; unfold execSpiWrite at e; exact absurd e doneSetup_no_fault
theorem dbgHalt : Statement (.dbgHalt) := by
  intro s f e; rw [exec_dbgHalt] at e; unfold execDbgHalt at e; exact absurd e done_no_fault
theorem dbgStep (pins : Tri PinSample) (obs : VoteObs) : Statement (.dbgStep pins obs) := by
  intro s f e; rw [exec_dbgStep] at e; unfold execDbgStep at e; exact absurd e done_no_fault
theorem dbgResume (back : Tri Readback) : Statement (.dbgResume back) := by
  intro s f e; rw [exec_dbgResume] at e; unfold execDbgResume at e; exact absurd e done_no_fault
theorem dbgDataWrite (value : Word) : Statement (.dbgDataWrite value) := by
  intro s f e; rw [exec_dbgDataWrite] at e; unfold execDbgDataWrite at e; exact absurd e done_no_fault
theorem dbgRegHalt : Statement (.dbgRegHalt) := by
  intro s f e; rw [exec_dbgRegHalt] at e; unfold execDbgRegHalt at e; exact absurd e done_no_fault
theorem dbgRegResume (back : Tri (Tri Readback)) : Statement (.dbgRegResume back) := by
  intro s f e; rw [exec_dbgRegResume] at e; unfold execDbgRegResume at e; exact absurd e done_no_fault
theorem dbgBrgHalt : Statement (.dbgBrgHalt) := by
  intro s f e; rw [exec_dbgBrgHalt] at e; unfold execDbgBrgHalt at e; exact absurd e done_no_fault
theorem dbgBrgResume : Statement (.dbgBrgResume) := by
  intro s f e; rw [exec_dbgBrgResume] at e; unfold execDbgBrgResume at e; exact absurd e done_no_fault
theorem chkFeedB (port : Port) (n : ChkId) (value : Byte) : Statement (.chkFeedB port n value) := by
  intro s f e; rw [exec_chkFeedB] at e; unfold execChkFeedB at e; exact absurd e doneSetup_no_fault
theorem chkFeedH (port : Port) (n : ChkId) (value : Half) : Statement (.chkFeedH port n value) := by
  intro s f e; rw [exec_chkFeedH] at e; unfold execChkFeedH at e; exact absurd e doneSetup_no_fault
theorem chkFeedW (port : Port) (n : ChkId) (value : Word) : Statement (.chkFeedW port n value) := by
  intro s f e; rw [exec_chkFeedW] at e; unfold execChkFeedW at e; exact absurd e doneSetup_no_fault
theorem chkRestart (port : Port) (n : ChkId) : Statement (.chkRestart port n) := by
  intro s f e; rw [exec_chkRestart] at e; unfold execChkRestart at e; exact absurd e doneSetup_no_fault
theorem chkContextWrite (port : Port) (n : ChkId) (reg : ChkReg) (value : Word) : Statement (.chkContextWrite port n reg value) := by
  intro s f e; rw [exec_chkContextWrite] at e; unfold execChkContextWrite at e; exact absurd e doneSetup_no_fault
theorem scanEntryComplete (sns : SnsId) (entry : ScanEntry) : Statement (.scanEntryComplete sns entry) := by
  intro s f e; rw [exec_scanEntryComplete] at e; unfold execScanEntryComplete at e; exact absurd e whenLive_no_fault
theorem windowCrossing (win : WinId) (comp : Comp) (level : Bool) (samples : Byte) : Statement (.windowCrossing win comp level samples) := by
  intro s f e; rw [exec_windowCrossing] at e; unfold execWindowCrossing at e; exact absurd e whenLive_no_fault
theorem tripInChange (input : Fin 2) (level : Bool) : Statement (.tripInChange input level) := by
  intro s f e; rw [exec_tripInChange] at e; unfold execTripInChange at e; exact absurd e whenLive_no_fault
theorem tripWindowEnd (b : BridgeId) : Statement (.tripWindowEnd b) := by
  intro s f e; rw [exec_tripWindowEnd] at e; unfold execTripWindowEnd at e; exact absurd e whenLive_no_fault
theorem standinCheckStep (wst : Fin 3) (ok steady : Bool) : Statement (.standinCheckStep wst ok steady) := by
  intro s f e; rw [exec_standinCheckStep] at e; unfold execStandinCheckStep at e; exact absurd e whenLive_no_fault
theorem desaturation (gs : GsId) : Statement (.desaturation gs) := by
  intro s f e; rw [exec_desaturation] at e; unfold execDesaturation at e; exact absurd e whenLive_no_fault
theorem desat (gs : GsId) (fell : Bool) : Statement (.desat gs fell) := by
  intro s f e; rw [exec_desat] at e; unfold execDesat at e; exact absurd e whenLive_no_fault
theorem gsLost (gs : GsId) : Statement (.gsLost gs) := by
  intro s f e; rw [exec_gsLost] at e; unfold execGsLost at e; exact absurd e whenLive_no_fault
theorem pairlinkLost (gs : GsId) : Statement (.pairlinkLost gs) := by
  intro s f e; rw [exec_pairlinkLost] at e; unfold execPairlinkLost at e; exact whenUnit_fault e
theorem shootGs (b : BridgeId) (sw : Sw) (withdrawn : Bool) : Statement (.shootGs b sw withdrawn) := by
  intro s f e; rw [exec_shootGs] at e; unfold execShootGs at e; exact whenUnit_fault e
theorem gsVpUv (gs : GsId) (vp : F32) : Statement (.gsVpUv gs vp) := by
  intro s f e; rw [exec_gsVpUv] at e; unfold execGsVpUv at e; exact absurd e whenLive_no_fault
theorem gsVnUv (gs : GsId) (vn : F32) : Statement (.gsVnUv gs vn) := by
  intro s f e; rw [exec_gsVnUv] at e; unfold execGsVnUv at e; exact absurd e whenLive_no_fault
theorem gsReady (gs : GsId) : Statement (.gsReady gs) := by
  intro s f e; rw [exec_gsReady] at e; unfold execGsReady at e; exact absurd e whenLive_no_fault
theorem gsDriveFault (gs : GsId) : Statement (.gsDriveFault gs) := by
  intro s f e; rw [exec_gsDriveFault] at e; unfold execGsDriveFault at e; exact absurd e whenLive_no_fault
theorem vdsAct (b : BridgeId) (sw : Sw) : Statement (.vdsAct b sw) := by
  intro s f e; rw [exec_vdsAct] at e; unfold execVdsAct at e; exact whenUnit_fault e
theorem bstUv (b : BridgeId) (volts : F32) : Statement (.bstUv b volts) := by
  intro s f e; rw [exec_bstUv] at e; unfold execBstUv at e; exact whenUnit_fault e
theorem cpFault (volts : F32) : Statement (.cpFault volts) := by
  intro s f e; rw [exec_cpFault] at e; unfold execCpFault at e; exact absurd e whenLive_no_fault
theorem cpRecovery : Statement (.cpRecovery) := by
  intro s f e; rw [exec_cpRecovery] at e; unfold execCpRecovery at e; exact absurd e whenLive_no_fault
theorem dtAtLimit (b : BridgeId) (sw : Sw) : Statement (.dtAtLimit b sw) := by
  intro s f e; rw [exec_dtAtLimit] at e; unfold execDtAtLimit at e; exact whenUnit_fault e
theorem dvdtAtLimit (b : BridgeId) (sw : Sw) (turnOn : Bool) : Statement (.dvdtAtLimit b sw turnOn) := by
  intro s f e; rw [exec_dvdtAtLimit] at e; unfold execDvdtAtLimit at e; exact whenUnit_fault e
theorem safeEnFall (land : Fin 2) : Statement (.safeEnFall land) := by
  intro s f e; rw [exec_safeEnFall] at e; unfold execSafeEnFall at e; exact absurd e whenLive_no_fault
theorem safeEnRelease : Statement (.safeEnRelease) := by
  intro s f e; rw [exec_safeEnRelease] at e; unfold execSafeEnRelease at e; exact absurd e whenLive_no_fault
theorem safeEnDiscrepancy : Statement (.safeEnDiscrepancy) := by
  intro s f e; rw [exec_safeEnDiscrepancy] at e; unfold execSafeEnDiscrepancy at e; exact absurd e whenLive_no_fault
theorem brkStoDelay : Statement (.brkStoDelay) := by
  intro s f e; rw [exec_brkStoDelay] at e; unfold execBrkStoDelay at e; exact absurd e whenLive_no_fault
theorem brakeConversion (fb isns vsup : F32) : Statement (.brakeConversion fb isns vsup) := by
  intro s f e; rw [exec_brakeConversion] at e; unfold execBrakeConversion at e; exact absurd e whenLive_no_fault
theorem brkTestPulse : Statement (.brkTestPulse) := by
  intro s f e; rw [exec_brkTestPulse] at e; unfold execBrkTestPulse at e; exact absurd e whenLive_no_fault
theorem pullInEnd : Statement (.pullInEnd) := by
  intro s f e; rw [exec_pullInEnd] at e; unfold execPullInEnd at e; exact absurd e whenLive_no_fault
theorem vsupWarn (volts : F32) : Statement (.vsupWarn volts) := by
  intro s f e; rw [exec_vsupWarn] at e; unfold execVsupWarn at e; exact absurd e whenLive_no_fault
theorem vsupResumed (volts : F32) : Statement (.vsupResumed volts) := by
  intro s f e; rw [exec_vsupResumed] at e; unfold execVsupResumed at e; exact absurd e whenLive_no_fault
theorem vsupReset : Statement (.vsupReset) := by
  intro s f e; rw [exec_vsupReset] at e; unfold execVsupReset at e; exact absurd e doneAll_no_fault
theorem vioFault (volts : F32) : Statement (.vioFault volts) := by
  intro s f e; rw [exec_vioFault] at e; unfold execVioFault at e; exact absurd e whenLive_no_fault
theorem vrefFault (volts : F32) : Statement (.vrefFault volts) := by
  intro s f e; rw [exec_vrefFault] at e; unfold execVrefFault at e; exact absurd e whenLive_no_fault
theorem vmUv (volts : F32) : Statement (.vmUv volts) := by
  intro s f e; rw [exec_vmUv] at e; unfold execVmUv at e; exact absurd e whenLive_no_fault
theorem vmOv (volts : F32) : Statement (.vmOv volts) := by
  intro s f e; rw [exec_vmOv] at e; unfold execVmOv at e; exact absurd e whenLive_no_fault
theorem gpRailFault (kind : GpFault) (volts : F32) : Statement (.gpRailFault kind volts) := by
  intro s f e; rw [exec_gpRailFault] at e; unfold execGpRailFault at e; exact absurd e whenLive_no_fault
theorem powerOn (straps : Straps) : Statement (.powerOn straps) := by
  intro s f e; rw [exec_powerOn] at e; unfold execPowerOn at e; exact absurd e done_no_fault
theorem resetNRelease (straps : Straps) : Statement (.resetNRelease straps) := by
  intro s f e; rw [exec_resetNRelease] at e; unfold execResetNRelease at e; exact absurd e done_no_fault
theorem startCheck (region : RegionId) (cluster : BitVec 4) (gs : Option GsId) (ok : Bool) : Statement (.startCheck region cluster gs ok) := by
  intro s f e; rw [exec_startCheck] at e; unfold execStartCheck at e; exact absurd e whenLive_no_fault
theorem dieALost (celsius : F32) : Statement (.dieALost celsius) := by
  intro s f e; rw [exec_dieALost] at e; unfold execDieALost at e; exact absurd e whenLive_no_fault
theorem dieCFault (celsius : F32) : Statement (.dieCFault celsius) := by
  intro s f e; rw [exec_dieCFault] at e; unfold execDieCFault at e; exact absurd e whenLive_no_fault
theorem refLost : Statement (.refLost) := by
  intro s f e; rw [exec_refLost] at e; unfold execRefLost at e; exact absurd e whenLive_no_fault
theorem islandUnlock (region : RegionId) (cluster : BitVec 4) (ppm : F32) : Statement (.islandUnlock region cluster ppm) := by
  intro s f e; rw [exec_islandUnlock] at e; unfold execIslandUnlock at e; exact whenUnit_fault e
theorem markLost : Statement (.markLost) := by
  intro s f e; rw [exec_markLost] at e; unfold execMarkLost at e; exact absurd e whenLive_no_fault
theorem syncInEdge (edge : Time) : Statement (.syncInEdge edge) := by
  intro s f e; rw [exec_syncInEdge] at e; unfold execSyncInEdge at e; exact absurd e whenLive_no_fault
theorem syncInLost : Statement (.syncInLost) := by
  intro s f e; rw [exec_syncInLost] at e; unfold execSyncInLost at e; exact absurd e whenLive_no_fault
theorem syncOutPulse : Statement (.syncOutPulse) := by
  intro s f e; rw [exec_syncOutPulse] at e; unfold execSyncOutPulse at e; exact absurd e whenLive_no_fault
theorem extclkEdge (edge : Time) : Statement (.extclkEdge edge) := by
  intro s f e; rw [exec_extclkEdge] at e; unfold execExtclkEdge at e; exact absurd e whenLive_no_fault
theorem extSyncLost : Statement (.extSyncLost) := by
  intro s f e; rw [exec_extSyncLost] at e; unfold execExtSyncLost at e; exact absurd e whenLive_no_fault
theorem hello (h : CrossHdr) (body : HelloBody) : Statement (.hello h body) := by
  intro s f e; rw [exec_hello] at e; unfold execHello at e; exact absurd e whenLive_no_fault
theorem timing (h : CrossHdr) (body : TimingBody) : Statement (.timing h body) := by
  intro s f e; rw [exec_timing] at e; unfold execTiming at e; exact absurd e whenLive_no_fault
theorem mirror (h : CrossHdr) (body : MirrorBody) : Statement (.mirror h body) := by
  intro s f e; rw [exec_mirror] at e; unfold execMirror at e; exact whenUnit_fault e
theorem health (h : CrossHdr) (body : HealthBody) : Statement (.health h body) := by
  intro s f e; rw [exec_health] at e; unfold execHealth at e; exact absurd e whenLive_no_fault
theorem farewell (h : CrossHdr) : Statement (.farewell h) := by
  intro s f e; rw [exec_farewell] at e; unfold execFarewell at e; exact absurd e whenLive_no_fault
theorem idle (h : CrossHdr) : Statement (.idle h) := by
  intro s f e; rw [exec_idle] at e; unfold execIdle at e; exact absurd e whenLive_no_fault
theorem timingSend : Statement (.timingSend) := by
  intro s f e; rw [exec_timingSend] at e; unfold execTimingSend at e; exact absurd e whenLive_no_fault
theorem idleSend : Statement (.idleSend) := by
  intro s f e; rw [exec_idleSend] at e; unfold execIdleSend at e; exact absurd e whenLive_no_fault
theorem linkLost : Statement (.linkLost) := by
  intro s f e; rw [exec_linkLost] at e; unfold execLinkLost at e; exact absurd e whenLive_no_fault
theorem laneAlignmentLost (lane : Fin 2) : Statement (.laneAlignmentLost lane) := by
  intro s f e; rw [exec_laneAlignmentLost] at e; unfold execLaneAlignmentLost at e; exact absurd e whenLive_no_fault
theorem matePresChange (level : Bool) : Statement (.matePresChange level) := by
  intro s f e; rw [exec_matePresChange] at e; unfold execMatePresChange at e; exact absurd e whenLive_no_fault
theorem matePresFault : Statement (.matePresFault) := by
  intro s f e; rw [exec_matePresFault] at e; unfold execMatePresFault at e; exact absurd e whenLive_no_fault
theorem canTxLoad (c : CanId) : Statement (.canTxLoad c) := by
  intro s f e; rw [exec_canTxLoad] at e; unfold execCanTxLoad at e; exact absurd e whenLive_no_fault
theorem frameSent (c : CanId) (buf : Fin 3) (stamp : Word) : Statement (.frameSent c buf stamp) := by
  intro s f e; rw [exec_frameSent] at e; unfold execFrameSent at e; exact absurd e whenLive_no_fault
theorem txAttemptFailed (c : CanId) (buf : Fin 3) (how : TxFail) : Statement (.txAttemptFailed c buf how) := by
  intro s f e; rw [exec_txAttemptFailed] at e; unfold execTxAttemptFailed at e; exact absurd e whenLive_no_fault
theorem canFrameReceived (c : CanId) (frame : CanFrame) (stamp : Word) : Statement (.canFrameReceived c frame stamp) := by
  intro s f e; rw [exec_canFrameReceived] at e; unfold execCanFrameReceived at e; exact absurd e whenLive_no_fault
theorem fdfReceived (c : CanId) : Statement (.fdfReceived c) := by
  intro s f e; rw [exec_fdfReceived] at e; unfold execFdfReceived at e; exact absurd e whenLive_no_fault
theorem canBusOff (c : CanId) : Statement (.canBusOff c) := by
  intro s f e; rw [exec_canBusOff] at e; unfold execCanBusOff at e; exact absurd e whenLive_no_fault
theorem canRecovered (c : CanId) : Statement (.canRecovered c) := by
  intro s f e; rw [exec_canRecovered] at e; unfold execCanRecovered at e; exact absurd e whenLive_no_fault
theorem canErrPassive (c : CanId) : Statement (.canErrPassive c) := by
  intro s f e; rw [exec_canErrPassive] at e; unfold execCanErrPassive at e; exact absurd e whenLive_no_fault
theorem pilotPeriod (periodTicks highTicks : Word) : Statement (.pilotPeriod periodTicks highTicks) := by
  intro s f e; rw [exec_pilotPeriod] at e; unfold execPilotPeriod at e; exact absurd e whenLive_no_fault
theorem ppConversion (volts : F32) : Statement (.ppConversion volts) := by
  intro s f e; rw [exec_ppConversion] at e; unfold execPpConversion at e; exact absurd e whenLive_no_fault
theorem sourceValid : Statement (.sourceValid) := by
  intro s f e; rw [exec_sourceValid] at e; unfold execSourceValid at e; exact absurd e whenLive_no_fault
theorem chgTimerExpired : Statement (.chgTimerExpired) := by
  intro s f e; rw [exec_chgTimerExpired] at e; unfold execChgTimerExpired at e; exact absurd e whenLive_no_fault
theorem peerRaiseTimeout : Statement (.peerRaiseTimeout) := by
  intro s f e; rw [exec_peerRaiseTimeout] at e; unfold execPeerRaiseTimeout at e; exact absurd e whenLive_no_fault
theorem chargeDone : Statement (.chargeDone) := by
  intro s f e; rw [exec_chargeDone] at e; unfold execChargeDone at e; exact absurd e whenLive_no_fault
theorem batteryAbsent : Statement (.batteryAbsent) := by
  intro s f e; rw [exec_batteryAbsent] at e; unfold execBatteryAbsent at e; exact absurd e whenLive_no_fault
theorem spSourceLost (law : LawId) : Statement (.spSourceLost law) := by
  intro s f e; rw [exec_spSourceLost] at e; unfold execSpSourceLost at e; exact absurd e whenLive_no_fault
theorem spSourceBack (law : LawId) : Statement (.spSourceBack law) := by
  intro s f e; rw [exec_spSourceBack] at e; unfold execSpSourceBack at e; exact absurd e whenLive_no_fault
theorem followErr (law : LawId) : Statement (.followErr law) := by
  intro s f e; rw [exec_followErr] at e; unfold execFollowErr at e; exact absurd e whenLive_no_fault
theorem rotorLost (side : Side) : Statement (.rotorLost side) := by
  intro s f e; rw [exec_rotorLost] at e; unfold execRotorLost at e; exact absurd e whenLive_no_fault
theorem rotorCaught (side : Side) : Statement (.rotorCaught side) := by
  intro s f e; rw [exec_rotorCaught] at e; unfold execRotorCaught at e; exact absurd e whenLive_no_fault
theorem catchFailed (side : Side) : Statement (.catchFailed side) := by
  intro s f e; rw [exec_catchFailed] at e; unfold execCatchFailed at e; exact absurd e whenLive_no_fault
theorem fluxLow (side : Side) : Statement (.fluxLow side) := by
  intro s f e; rw [exec_fluxLow] at e; unfold execFluxLow at e; exact absurd e whenLive_no_fault
theorem fluxHigh (side : Side) : Statement (.fluxHigh side) := by
  intro s f e; rw [exec_fluxHigh] at e; unfold execFluxHigh at e; exact absurd e whenLive_no_fault
theorem actParked (a : ActId) : Statement (.actParked a) := by
  intro s f e; rw [exec_actParked] at e; unfold execActParked at e; exact absurd e whenLive_no_fault
theorem chopperOpen : Statement (.chopperOpen) := by
  intro s f e; rw [exec_chopperOpen] at e; unfold execChopperOpen at e; exact absurd e whenLive_no_fault
theorem chopperConducts : Statement (.chopperConducts) := by
  intro s f e; rw [exec_chopperConducts] at e; unfold execChopperConducts at e; exact absurd e whenLive_no_fault
theorem disTimeout : Statement (.disTimeout) := by
  intro s f e; rw [exec_disTimeout] at e; unfold execDisTimeout at e; exact absurd e whenLive_no_fault
theorem sensBroken (k : Fin 8) : Statement (.sensBroken k) := by
  intro s f e; rw [exec_sensBroken] at e; unfold execSensBroken at e; exact absurd e whenLive_no_fault
theorem throttleStep (ch : ThrCh) : Statement (.throttleStep ch) := by
  intro s f e; rw [exec_throttleStep] at e; unfold execThrottleStep at e; exact absurd e whenLive_no_fault
theorem hostLost : Statement (.hostLost) := by
  intro s f e; rw [exec_hostLost] at e; unfold execHostLost at e; exact absurd e whenLive_no_fault
theorem darningStart (law : LawId) : Statement (.darningStart law) := by
  intro s f e; rw [exec_darningStart] at e; unfold execDarningStart at e; exact absurd e whenLive_no_fault
theorem darnDone (law : LawId) (back : Readback) : Statement (.darnDone law back) := by
  intro s f e; rw [exec_darnDone] at e; unfold execDarnDone at e; exact absurd e whenLive_no_fault
theorem washSlot (law : LawId) (shadowOk : Bool) : Statement (.washSlot law shadowOk) := by
  intro s f e; rw [exec_washSlot] at e; unfold execWashSlot at e; exact absurd e whenLive_no_fault
theorem washTestEnd (logic mem : Word) (failAddr : Half) (micros : Word) : Statement (.washTestEnd logic mem failAddr micros) := by
  intro s f e; rw [exec_washTestEnd] at e; unfold execWashTestEnd at e; exact absurd e whenLive_no_fault
theorem selftestEnd (units : List UnitTest) : Statement (.selftestEnd units) := by
  intro s f e; rw [exec_selftestEnd] at e; unfold execSelftestEnd at e; exact absurd e whenLive_no_fault
theorem carrierEdge (b : BridgeId) (sw : Sw) (on : Bool) (copiesAgree : Bool) (node : NodeObs) : Statement (.carrierEdge b sw on copiesAgree node) := by
  intro s f e; rw [exec_carrierEdge] at e; unfold execCarrierEdge at e; exact whenUnit_fault e
theorem gpRailReady (volts : F32) : Statement (.gpRailReady volts) := by
  intro s f e; rw [exec_gpRailReady] at e; unfold execGpRailReady at e; exact absurd e whenLive_no_fault
theorem gpHalfCycle (edgeSeen : Bool) : Statement (.gpHalfCycle edgeSeen) := by
  intro s f e; rw [exec_gpHalfCycle] at e; unfold execGpHalfCycle at e; exact absurd e whenLive_no_fault
theorem gpCurrentLimit : Statement (.gpCurrentLimit) := by
  intro s f e; rw [exec_gpCurrentLimit] at e; unfold execGpCurrentLimit at e; exact absurd e whenLive_no_fault
theorem resetNAssert (lowTicks : Word) : Statement (.resetNAssert lowTicks) := by
  intro s f e; rw [exec_resetNAssert] at e; unfold execResetNAssert at e; exact absurd e doneAll_no_fault
theorem jtagInstruction (op : JtagOp) (pins : List Bool) : Statement (.jtagInstruction op pins) := by
  intro s f e; rw [exec_jtagInstruction] at e; unfold execJtagInstruction at e; exact absurd e whenLive_no_fault
theorem pcieLinkUp : Statement (.pcieLinkUp) := by
  intro s f e; rw [exec_pcieLinkUp] at e; unfold execPcieLinkUp at e; exact absurd e whenLive_no_fault
theorem pcieConfigWrite (cfg : PcieConfig) : Statement (.pcieConfigWrite cfg) := by
  intro s f e; rw [exec_pcieConfigWrite] at e; unfold execPcieConfigWrite at e; exact absurd e whenLive_no_fault
theorem hostEndpointFault : Statement (.hostEndpointFault) := by
  intro s f e; rw [exec_hostEndpointFault] at e; unfold execHostEndpointFault at e; exact absurd e whenLive_no_fault
theorem hawserFault : Statement (.hawserFault) := by
  intro s f e; rw [exec_hawserFault] at e; unfold execHawserFault at e; exact absurd e whenLive_no_fault
theorem canFault (c : CanId) : Statement (.canFault c) := by
  intro s f e; rw [exec_canFault] at e; unfold execCanFault at e; exact absurd e whenLive_no_fault
theorem safeEnRise (land : Fin 2) : Statement (.safeEnRise land) := by
  intro s f e; rw [exec_safeEnRise] at e; unfold execSafeEnRise at e; exact absurd e whenLive_no_fault
theorem laneAligned : Statement (.laneAligned) := by
  intro s f e; rw [exec_laneAligned] at e; unfold execLaneAligned at e; exact absurd e whenLive_no_fault
theorem crossingSent (kind : CrossKind) : Statement (.crossingSent kind) := by
  intro s f e; rw [exec_crossingSent] at e; unfold execCrossingSent at e; exact absurd e whenLive_no_fault
theorem brkTestPulseEnd : Statement (.brkTestPulseEnd) := by
  intro s f e; rw [exec_brkTestPulseEnd] at e; unfold execBrkTestPulseEnd at e; exact absurd e whenLive_no_fault
theorem windowHoldRelease (win : WinId) : Statement (.windowHoldRelease win) := by
  intro s f e; rw [exec_windowHoldRelease] at e; unfold execWindowHoldRelease at e; exact absurd e whenLive_no_fault
theorem errorFrame (c : CanId) (lec : BitVec 3) : Statement (.errorFrame c lec) := by
  intro s f e; rw [exec_errorFrame] at e; unfold execErrorFrame at e; exact absurd e whenLive_no_fault

end Sys2Proof.Laws.Stops
end

