-- ==== Sys2Proof/Laws/Reports.lean ====
section
/-! SUPPORT. What writing events does to the host interface: reports alone change (`ReportsOnly`), no event waits afterwards, and the start log takes
the events in the order of R442 (`Records`). A proof about a command cites `does_of_done` and does not unfold `finish`. -/

namespace Sys2Proof.Machine

theorem ReportsOnly.refl (h : HostIf) : ReportsOnly h h := ⟨rfl, fun _ => rfl⟩

theorem ReportsOnly.trans {a b c : HostIf} (h : ReportsOnly a b) (k : ReportsOnly b c) : ReportsOnly a c := by
  obtain ⟨h1, h2⟩ := h
  obtain ⟨k1, k2⟩ := k
  exact ⟨by rw [k1, h1], fun n => (k2 n).trans (h2 n)⟩

theorem sendVector_reports (s : State) (v : Nat) : ReportsOnly s.host (s.sendVector v).host := by
  unfold State.sendVector; dsimp only; split
  · exact .refl _
  split <;> exact ⟨rfl, fun _ => rfl⟩

/-- A ring whose host index stays is a report. -/
theorem modRing_reports (s : State) (n : RingId) (f : RingSt → RingSt) (hf : ∀ r, (f r).hostIdx = r.hostIdx) :
    ReportsOnly s.host (s.modRing n f).host := by
  refine ⟨rfl, fun m => ?_⟩
  show (s.host.rings.set n.val (f s.host.rings[n.val]))[m.val].hostIdx = s.host.rings[m.val].hostIdx
  by_cases h : n.val = m.val
  · have : n = m := Fin.ext h
    subst this
    rw [Vector.getElem_set_self, hf]
  · rw [Vector.getElem_set_ne _ _ h]

theorem writeRing3_reports (s : State) (e : Event) : ReportsOnly s.host (s.writeRing3 e).host := by
  unfold State.writeRing3; dsimp only; split
  · exact ⟨rfl, fun _ => rfl⟩
  split
  · refine ReportsOnly.trans ?_ (sendVector_reports _ _)
    refine ReportsOnly.trans ?_ (modRing_reports _ 3 _ (fun _ => rfl))
    exact ⟨rfl, fun _ => rfl⟩
  · refine ReportsOnly.trans ?_ (modRing_reports _ 3 _ (fun _ => rfl))
    exact ⟨rfl, fun _ => rfl⟩

theorem writeLog_reports (s : State) (e : Event) : ReportsOnly s.host (s.writeLog e).host := by
  unfold State.writeLog; dsimp only; repeat' split
  all_goals exact ⟨rfl, fun _ => rfl⟩

theorem writeEvent_reports (s : State) (e : Event) : ReportsOnly s.host (s.writeEvent e).host := by
  unfold State.writeEvent; split
  · exact ⟨rfl, fun _ => rfl⟩
  split
  · exact writeRing3_reports s e
  · exact writeLog_reports s e

theorem writeEvents_reports (es : List Event) (s : State) : ReportsOnly s.host (es.foldl State.writeEvent s).host := by
  induction es generalizing s with
  | nil => exact .refl _
  | cons e es ih => exact (writeEvent_reports s e).trans (ih _)

theorem sendReturn_reports (s : State) : ReportsOnly s.host s.sendReturn.host := by
  unfold State.sendReturn; split
  · exact ReportsOnly.trans (b := s.writeReturn.host) ⟨rfl, fun _ => rfl⟩ (sendVector_reports _ _)
  · exact ⟨rfl, fun _ => rfl⟩

theorem stopAfterSafe_reports (s : State) : ReportsOnly s.host s.stopAfterSafe.host := by
  unfold State.stopAfterSafe; split
  · exact (sendReturn_reports s).trans ⟨rfl, fun _ => rfl⟩
  · exact .refl _

/-- Of the host interface, writing the events of a command touches the reports alone. -/
theorem finish_reports (s : State) : ReportsOnly s.host s.finish.host :=
  ((writeEvents_reports (sortEv s.evq) { s with evq := [] }).trans (stopAfterSafe_reports _)).trans ⟨rfl, fun _ => rfl⟩

/-! ### The list of detected events -/

theorem sendVector_evq (s : State) (v : Nat) : (s.sendVector v).evq = s.evq := by
  unfold State.sendVector; dsimp only; split
  · rfl
  split <;> rfl

theorem writeEvent_evq (s : State) (e : Event) : (s.writeEvent e).evq = s.evq := by
  unfold State.writeEvent State.writeRing3 State.writeLog State.dropEvent; dsimp only; repeat' split
  all_goals first | rfl | (rw [sendVector_evq]; rfl)

theorem writeEvents_evq (es : List Event) (s : State) : (es.foldl State.writeEvent s).evq = s.evq := by
  induction es generalizing s with
  | nil => rfl
  | cons e es ih => rw [List.foldl_cons, ih, writeEvent_evq]

theorem sendReturn_evq (s : State) : s.sendReturn.evq = s.evq := by
  unfold State.sendReturn; split
  · exact sendVector_evq s.writeReturn _
  · rfl

theorem stopAfterSafe_evq (s : State) : s.stopAfterSafe.evq = s.evq := by
  unfold State.stopAfterSafe; split
  · exact sendReturn_evq s
  · rfl

/-- After a command no detected event waits (R442). -/
@[simp] theorem finish_evq (s : State) : s.finish.evq = [] := by
  show ((sortEv s.evq).foldl State.writeEvent { s with evq := [] }).stopAfterSafe.evq = []
  rw [stopAfterSafe_evq, writeEvents_evq]

/-- Writing its events leaves a command's state but for the reports. -/
theorem finish_sameButHost (s : State) : SameButHost s s.finish := by
  refine ⟨?_, finish_reports s⟩
  have h := finish_hostOnly s
  unfold HostOnly at h
  rw [finish_evq] at h
  exact h

/-! ### The start log -/

theorem log_of_writeLog (s : State) (e : Event) (h : s.host.log.length < 30) : (s.writeLog e).host.log = s.host.log ++ [e] := by
  unfold State.writeLog; dsimp only
  rw [if_pos (show s.host.log.length < 32 by omega), if_pos (show s.host.log.length + (2 - _) < 32 by omega)]
  split <;> rfl

/-- Whether events go to the start log hangs on no report. -/
theorem log_of_writeEvents (es : List Event) (s : State) (hs : s.host.stopped = false) (ho : s.eventsOpen = false)
    (hl : s.host.log.length + es.length ≤ 30) :
    (es.foldl State.writeEvent s).host.log = s.host.log ++ es ∧ (es.foldl State.writeEvent s).host.stopped = false ∧
    (es.foldl State.writeEvent s).eventsOpen = false := by
  induction es generalizing s with
  | nil => exact ⟨(List.append_nil _).symm, hs, ho⟩
  | cons e es ih =>
    have hlen : s.host.log.length + es.length + 1 ≤ 30 := by simpa [List.length_cons, Nat.add_assoc] using hl
    have hw : s.writeEvent e = s.writeLog e := by unfold State.writeEvent; rw [hs, ho]; rfl
    have hlog := log_of_writeLog s e (by omega)
    have hstop : (s.writeLog e).host.stopped = false := by
      unfold State.writeLog; dsimp only; repeat' split
      all_goals exact hs
    have hopen : (s.writeLog e).eventsOpen = false := by
      unfold State.writeLog; dsimp only; repeat' split
      all_goals exact ho
    have := ih (s.writeLog e) hstop hopen (by rw [hlog]; simp only [List.length_append, List.length_singleton]; omega)
    rw [List.foldl_cons, hw, this.1, hlog, List.append_assoc]
    exact ⟨rfl, this.2⟩

/-- Where the start log takes events, it takes those of a command in their order of writing (R442, R467). -/
theorem finish_log (s : State) (hs : s.host.stopped = false) (ho : s.eventsOpen = false) (hl : s.host.log.length + (sortEv s.evq).length ≤ 30) :
    s.finish.host.log = s.host.log ++ sortEv s.evq := by
  obtain ⟨h1, h2, h3⟩ := log_of_writeEvents (sortEv s.evq) { s with evq := [] } hs ho hl
  show ((sortEv s.evq).foldl State.writeEvent { s with evq := [] }).stopAfterSafe.host.log = _
  unfold State.stopAfterSafe
  rw [h3, Bool.and_false]
  exact h1

/-- A meaning that answers `done` does what its state says, but for the reports, and records its events in their order of writing. -/
theorem does_of_done {c : Instr} {s u : State} {es : List Event} (h : exec c s = done s u)
    (hq : u.pending = s.pending) (hp : u.params = s.params) (hset : u.setup = s.setup) (hsp : u.setupPend = s.setupPend)
    (hlog : s.logs → u.host.log = s.host.log ∧ u.host.stopped = false ∧ u.eventsOpen = false ∧ sortEv u.evq = es ∧ es.length ≤ 10) :
    Does c s u es := by
  have hx : { u.finish with pending := s.pending, params := s.params, setup := s.setup, setupPend := s.setupPend } = u.finish := by
    rw [← hq, ← hp, ← hset, ← hsp, finish_hostOnly u]
  refine ⟨u.finish, ?_, finish_sameButHost u, fun hl => ?_⟩
  · rw [h, done_eq, hx]
  · obtain ⟨h1, h2, h3, h4, h5⟩ := hlog hl
    have hlen := hl.2.2.2.1
    rw [finish_log u h2 h3 (by rw [h1, h4]; omega), h1, h4]

end Sys2Proof.Machine
end

