-- ==== Sys2Proof/Machine/Lands.lean ====
section
/-! DEFINITION. The output lands of the module that the rules give a level (R457, R461, R482), as the state drives them. -/

namespace Sys2Proof.Machine

/-- The level of a land; `signal` where it carries the traffic of its function. -/
inductive Level
  | low | high | undriven | signal
deriving DecidableEq, Repr

/-- A gate: held off, at VN or low, or on. -/
inductive GateLevel
  | off | on
deriving DecidableEq, Repr

structure Lands where
  /-- the 35 gate sides, and the high and low gates of the nine actuator bridges -/
  gs     : List GateLevel
  actHi  : List GateLevel
  actLo  : List GateLevel
  gprGa  : Level
  gprGb  : Level
  brkHs  : Level
  brkLs  : Level
  okOut  : Level
  alertN : Level
  lamp0  : Level
  lamp1  : Level
  canTx  : Level
  hwsTx  : Level
  syncOut : Level
deriving DecidableEq, Repr

def gateLevel (on : Bool) : GateLevel := if on then .on else .off
def level (high : Bool) : Level := if high then .high else .low

/-- Unpowered or absent (R457). -/
def landsUnpowered : Lands :=
  { gs := List.replicate 35 .off, actHi := List.replicate 9 .off, actLo := List.replicate 9 .off,
    gprGa := .low, gprGb := .low, brkHs := .low, brkLs := .low, okOut := .low, alertN := .undriven, lamp0 := .low, lamp1 := .low,
    canTx := .undriven, hwsTx := .undriven, syncOut := .undriven }

/-- In reset with the supplies present (R457): recessive is high. -/
def landsInReset : Lands :=
  { landsUnpowered with alertN := .low, canTx := .high, hwsTx := .signal, syncOut := .low }

/-- The bridges of the actuators, in order. -/
def actGates : List BridgeId := allActs.flatMap actBridges

/-- The lands as the state drives them. -/
def State.lands (s : State) : Lands :=
  if !s.live then landsInReset
  else
    { gs := (List.range 35).map (fun k => let b := gsBridge (Fin.ofNat 35 k); gateLevel (match b.2 with
        | .high => (s.brg b.1).hiOn | .low => (s.brg b.1).loOn))
      actHi := actGates.map (fun b => gateLevel (s.brg b).hiOn), actLo := actGates.map (fun b => gateLevel (s.brg b).loOn),
      gprGa := level (decide (s.power.gpr = .ga)), gprGb := level (decide (s.power.gpr = .gb)),
      brkHs := level s.brake.hs, brkLs := level s.brake.ls, okOut := level s.power.okOut,
      alertN := if s.alertLow then .low else .undriven, lamp0 := level s.chg.lamp0, lamp1 := level s.chg.lamp1,
      canTx := .signal, hwsTx := .signal, syncOut := .signal }

end Sys2Proof.Machine
end

