-- ==== Sys2Proof/Tests/Slice0.lean ====
section
/-! SUPPORT. Tests: ill-formed commands are refused, one per check of well-formedness; the manual's worked examples; and for every statement
with hypotheses a state and operands that meet them, one group in brackets per clause. -/

namespace Sys2Proof.Tests

open Sys2Proof Sys2Proof.Machine

set_option maxRecDepth 16000

/-! ### States -/

/-- The device in service, straight after reset. -/
def up : State := State.reset.modPower (fun p => { p with phase := .ready })

/-- 1.0 and 2.0. -/
def one : F32 := 0x3F800000
def two : F32 := 0x40000000

/-- Parameters set beside the reset ones. -/
def pars (s : State) (l : List (Nat × Word)) : State := { s with params := l.foldl (fun m v => mapSet parReset m v.1 v.2) s.params }

/-- Setup registers in force. -/
def cfgs (s : State) (l : List (Nat × Word)) : State := { s with setup := l.foldl (fun m v => mapSet setupReset m v.1 v.2) s.setup }

/-- A device whose bridges may be armed: supplies, gate sides and lands ready, each region in a mode that arms. -/
def fit : State :=
  let s := pars up [(comId .chg 0x14, one)]
  { s with
    power := { s.power with vmOk := true, gpReady := true, gpStopped := false, vsupOk := true, vioOk := true, vrefOk := true, okOut := true }
    gates := Vector.replicate 35 { powered := true, ready := true, link := true }
    sto := { s.sto with a := true, b := true, block := false }
    bridges := Vector.replicate 27 { bst := true }
    txn := { s.txn with epoch := 1 }
    tracts := Vector.replicate 2 { mode := .free }
    acts := Vector.replicate 3 { mode := .free } }

/-- Every bridge armed with the given fields. -/
def armed (b : Bridge) : State := { fit with bridges := Vector.replicate 27 { b with arm := .armed, bst := true } }

/-- Every bridge armed in PWM, all switches off; and with the high sides on. -/
def ready : State := armed { sel := .pwm }
def highOn : State := armed { sel := .pwm, hiOn := true }
def lowOn : State := armed { sel := .pwm, loOn := true }

/-- Every bridge isolated. -/
def isolated (hard : Bool) : State := { fit with bridges := Vector.replicate 27 { arm := .isolated, isoCause := 0xC7, isoHard := hard } }

/-- A traction side in every field as given, on both sides; likewise the actuators and the engines. -/
def drives (t : Traction) : State := { ready with tracts := Vector.replicate 2 t }
def moves (a : Actuator) : State := { ready with acts := Vector.replicate 3 a }
def engines (l : Law) : State := { up with laws := Vector.replicate 16 l }

/-- A slot of a transaction. -/
def withSlot (s : State) (k : SlotId) (x : Slot) : State := s.modSlot k (fun _ => x)
def heldSlot (st : SlotState) : Slot := { state := st, txid := 3, count := 1, staged := [(0x2001, 5)], reason := 3, doomId := 7, tag := 4 }

/-- A crossing's header with every field zero. -/
def hdr : CrossHdr := ⟨0, 0, 0, 0, 0, 0, 0, 0⟩

/-! ### Ill-formed commands, one per check -/

theorem test_law14_pass_0 : (Instr.law14Pass 0).wellFormed = false ∧ exec (.law14Pass 0) up = .fault .noSuchUnit := ⟨by decide, rfl⟩
theorem test_bch_high_edge : (Instr.carrierEdge .bch .high true true .none).wellFormed = false ∧
    exec (.carrierEdge .bch .high true true .none) up = .fault .noSuchUnit := ⟨by decide, rfl⟩
theorem test_bch_interlock : (Instr.shootGs .bch .low false).wellFormed = false ∧ exec (.shootGs .bch .low false) up = .fault .noSuchUnit := ⟨by decide, rfl⟩
theorem test_gs35_has_no_link : (Instr.pairlinkLost 34).wellFormed = false ∧ exec (.pairlinkLost 34) up = .fault .noSuchUnit := ⟨by decide, rfl⟩
theorem test_vds_of_hv : (Instr.vdsAct .sp1 .low).wellFormed = false ∧ exec (.vdsAct .sp1 .low) up = .fault .noSuchUnit := ⟨by decide, rfl⟩
theorem test_bst_of_hv : (Instr.bstUv .sp1 one).wellFormed = false ∧ exec (.bstUv .sp1 one) up = .fault .noSuchUnit := ⟨by decide, rfl⟩
theorem test_dt_of_chopper : (Instr.dtAtLimit .bch .low).wellFormed = false ∧ exec (.dtAtLimit .bch .low) up = .fault .noSuchUnit := ⟨by decide, rfl⟩
theorem test_dvdt_without_gate_side : (Instr.dvdtAtLimit .bch .high true).wellFormed = false ∧
    exec (.dvdtAtLimit .bch .high true) up = .fault .noSuchUnit := ⟨by decide, rfl⟩
theorem test_island_8_of_tra : (Instr.islandUnlock .tra 8 0).wellFormed = false ∧ exec (.islandUnlock .tra 8 0) up = .fault .noSuchUnit := ⟨by decide, rfl⟩
theorem test_mirror_of_hst : (Instr.mirror hdr ⟨.hst, 0, 0, []⟩).wellFormed = false ∧
    exec (.mirror hdr ⟨.hst, 0, 0, []⟩) up = .fault .noSuchUnit := ⟨by decide, rfl⟩
theorem test_mirror_too_short : (Instr.mirror hdr ⟨.tra, 0, 0, []⟩).wellFormed = false := by decide
theorem test_well_formed : (Instr.law14Pass 3).wellFormed = true ∧ (Instr.carrierEdge .bch .low true true .none).wellFormed = true ∧
    (Instr.islandUnlock .tra 7 0).wellFormed = true ∧ (Instr.pairlinkLost 33).wellFormed = true := by decide

/-! ### The manual's worked examples -/

/-- The CRC-32C of "123456789" (R344). -/
theorem test_crc32c : crc32c [0x31, 0x32, 0x33, 0x34, 0x35, 0x36, 0x37, 0x38, 0x39] = 0xE3069283 := by decide

/-- SHOOT_CMD of `BRG.SP3` and the loss of the mate (R49). -/
theorem test_event_codes : codeOf 1 4 0xC4 = 0x30C4 ∧ codeOf 5 7 0x2E2 = 0xBEE2 := by decide

/-- The first word of `LAW07`, and `DT_MIN` of `BRG.SP3` (R46). -/
theorem test_parameter_ids : lawId 7 0x00 = 0x4100 ∧ brgId .sp3 0x04 = 0x4604 := by decide

/-- `BRG.SP3` drives `GS17` and `GS18` (R25). -/
theorem test_sp3_gate_sides : gsOf .sp3 .high = some 16 ∧ gsOf .sp3 .low = some 17 := by decide

/-- Code 13,056 at gain 1 is 2.864 V (ch. 06). -/
theorem test_pin_volts : pinVolts 13056 1 = F.dec 2864 (-3) := by decide

/-! ### Witnesses: the block as a whole, ring 0 and ring 1 -/

theorem witness_IdleIsOneTick : up.pending = [] := by decide
theorem witness_ParametersChangeOnlyByTransaction : ∃ t, exec (.tideBoundary true true) up = .next t := ⟨_, rfl⟩
theorem witness_EveryStepKeepsInv : State.reset.Inv ∧ ∃ t, step { up with pending := [.nop ⟨0, 0, 0⟩] } = .next t :=
  ⟨⟨by decide, by decide, rfl⟩, _, rfl⟩
theorem witness_ResetHoldsEverything : State.reset.power.phase = .inReset ∧ State.reset.evq = [] ∧
    ∃ t, exec (.nop ⟨0, 0, 0⟩) State.reset = .next t := ⟨by decide, by decide, _, rfl⟩

theorem witness_NopRecord : up.live = true := by decide

theorem witness_SetpointRecord :
    (up.live = true ∧ ringSpLaw (15 : LawId).val = false ∧ ringSpLaw (8 : LawId).val = true ∧ F.isFinite one = true ∧
      ¬ (((8 : LawId) = 1 ∨ (8 : LawId) = 4) ∧ up.parN (lawId 8 0x20) = 2)) ∧
    ((pars up [(lawId 1 0x20, two)]).live = true ∧ ringSpLaw (1 : LawId).val = true ∧ (pars up [(lawId 1 0x20, two)]).parN (lawId 1 0x20) = 2) ∧
    (up.live = true ∧ up.parN (lawId 4 0x20) ≠ 2) ∧
    (spSlotOk ⟨1, 0, 0x7F800000⟩ && spSlotOk ⟨0xFF, 0, 0⟩ && spSlotOk ⟨0xFF, 0, 0⟩) = false := by decide

theorem witness_ArmRecord :
    (highOn.live = true ∧ highOn.isArmed .ta1 = true) ∧
    (up.live = true ∧ up.isArmed .ta1 = false ∧ up.armCase .ta1 ≠ 0) ∧
    (fit.live = true ∧ fit.isArmed .bch = false ∧ fit.armCase .bch = 0 ∧ fit.noPrepared ∧ fit.slotMask .bch = 0) ∧
    (fit.isArmed .ta1 = false ∧ fit.armCase .ta1 = 0 ∧ blockable .ta1 = true) := by decide

theorem witness_DisarmRecord : highOn.live = true ∧ maskBridges 2 0xE0 = some [.ta1, .ta2, .ta3] ∧ highOn.isArmed .ta1 = true ∧
    BridgeId.sp1 ∉ [BridgeId.ta1, .ta2, .ta3] ∧ maskBridges 2 1 = none ∧ maskBridges 0 1 = none := by decide

theorem witness_ResetClusterRecord :
    ((isolated false).live = true ∧ (isolated false).evq = [] ∧ (isolated false).power.devSafe = false ∧ (isolated false).noPrepared ∧
      (isolated false).isIso .bch = true ∧ (isolated false).resetMode .bch = true ∧ ((isolated false).brg .bch).isoHard = false) ∧
    ((isolated true).isIso .bch = true ∧ (isolated true).resetMode .bch = true ∧ ((isolated true).brg .bch).isoHard = true) ∧
    (fit.isIso .bch && fit.resetMode .bch) = false ∧
    (({ fit with cans := Vector.replicate 3 { isolated := true } }).can 2).isolated = true ∧
    ({ fit with chkIso := true }).chkIso = true := by decide

theorem witness_ResetRegionRecord :
    (up.live = true ∧ up.evq = [] ∧ up.power.devSafe = false ∧ up.noPrepared ∧ up.offOrSafe .tra = true ∧ up.offOrSafe .sup = true) ∧
    (fit.noPrepared ∧ fit.offOrSafe .tra = false) := by decide

def brakeReady : State := pars fit [(lawId 15 0x20, one), (lawId 15 0x2F, two), (lawId 15 0x34, one)]
theorem witness_BrakeRecords :
    (brakeReady.live = true ∧ brakeReady.releaseCase = 0 ∧ brakeReady.brake.mode = .applied ∧ brakeReady.brake.pulling = false) ∧
    (up.releaseCase ≠ 0 ∧ up.brake.test = none) ∧ up.testCase ≠ 0 := by decide
def testReady : State := { brakeReady with tracts := Vector.replicate 2 { mode := .hold, src := .encoder }, brake := { lastRow := 3 } }
theorem witness_BrakeRecords_test : testReady.live = true ∧ testReady.testCase = 0 ∧ testReady.btSides = [.b] := by decide

def busOff (r : Bool) : State := { up with cans := Vector.replicate 3 { st := .busOff, recovering := r } }
theorem witness_PositionRecoverSelftestRecords :
    (up.live = true ∧ F.isFinite one = true ∧ up.parOn (lawId (actLaw 0) 0x07) = false) ∧
    (pars up [(lawId (actLaw 0) 0x07, one)]).parOn (lawId (actLaw 0) 0x07) = true ∧
    ¬ (1 ≤ (4 : Byte).toNat ∧ (4 : Byte).toNat ≤ 3 ∧ F.isFinite one = true) ∧
    (((busOff false).can 0).st = .busOff ∧ ((busOff false).can 0).recovering = false) ∧
    ¬ (((busOff true).can 0).st = .busOff ∧ ((busOff true).can 0).recovering = false) ∧
    (testFields 0 2 0 0xFF = true ∧ up.st.busy = false ∧ up.testReason 0 2 0 = 0) ∧
    (testFields 1 2 0 0 = true ∧ testClu 2 0 = some (.law 0) ∧ up.testReason 1 2 0 = 0) ∧
    (highOn.st.busy = false ∧ testFields 2 2 5 0xFF = true ∧ highOn.testReason 2 2 5 ≠ 0) := by decide
theorem witness_SetModeAccepted :
    (fit.live = true ∧ fit.noPrepared ∧ (fit.tr .a).decide = false ∧ fit.trRefusal .a .off = 0 ∧ fit.trRefusal .a .free = 0) ∧
    fit.actTriggers 0 = fit ∧ fit.actRefusal 0 .free = 0 ∧ fit.spRefusal .off = 0 ∧ fit.span.test = none ∧
    fit.chgTriggers = fit ∧ fit.chgRefusal .off = 0 := by decide
theorem witness_SetModeRefused :
    (up.live = true ∧ (up.tr .a).decide = false ∧ up.trRefusal .a .torque ≠ 0) ∧ up.spRefusal .regulate ≠ 0 ∧
    (up.chgTriggers = up ∧ up.chgRefusal .acIn ≠ 0) ∧ (up.actTriggers 2 = up ∧ up.actRefusal 2 .position ≠ 0) ∧
    ((1 : Byte).toNat < 2 ∧ 6 < (7 : Byte).toNat) := by decide

theorem witness_TransactionRecords :
    (up.live = true ∧ (⟨2, 9, 0⟩ : RecHdr).flags.getLsbD 0 = false ∧ (up.slot 3).state = .closed ∧ ((0 : Byte).getLsbD 0 = true → up.haws.pair = .paired)) ∧
    (((withSlot up 0 (heldSlot .open)).slot 0).state = .open ∧
      (∀ v ∈ ([(0x4020, one), (0x2001, one), (0x1602, one)] : List (Nat × Word)).take 1,
        parOk v = true ∧ (withSlot up 0 (heldSlot .open)).claimedBy 0 v.1 = false) ∧
      ((withSlot up 0 (heldSlot .open)).slot 0).count + (1 : Byte).toNat ≤ 1024 ∧ (withSlot up 0 (heldSlot .open)).st.busy = false) ∧
    (withSlot up 0 { heldSlot .open with count := 1024 }).stageFail 0 1024 [(0x2001, one)] = some (3, 0x2001) ∧
    ((withSlot up 1 (heldSlot .doomed)).slot 1).state = .doomed ∧
    (((withSlot up 2 (heldSlot .pending)).slot 2).state = .pending ∧ ((withSlot up 2 (heldSlot .pending)).slot 2).passed = false) := by decide
theorem witness_TransactionRecordsRefused :
    (up.live = true ∧ 4 ≤ (4 : Byte).toNat ∧ (⟨1, 0, 0⟩ : RecHdr).flags.getLsbD 0 = true) ∧
    ((withSlot up 0 (heldSlot .open)).slot 0).state ≠ .closed ∧ ((1 : Byte).getLsbD 0 = true ∧ up.haws.pair ≠ .paired) ∧
    ((up.slot 0).state ≠ .open ∧ (up.slot 0).state ≠ .doomed ∧ (up.slot 0).state = .closed) ∧ 3 < (4 : Byte).toNat := by decide

def gated (s : State) : State :=
  (s.modHost (fun h => { h with commit := 1 })).modTim (fun t => { t with devTime := 100000, tideStart := 90000, tideIndex := 4 })
def waiting (x : Slot) : State :=
  gated (withSlot up 0 { x with state := .pending, seq := 1, staged := [(lawId 0 0x20, 0)], count := 1 })
def alone (s : State) : Bool := allSlots.all (fun j => decide (j = 0) || (decide ((s.slot j).state ≠ .pending) && !(s.slot j).passed))
def notYet : State := (waiting { target := 9 }).modHost (fun h => { h with commit := 0 })
theorem witness_VoteInstantJudges :
    ((waiting {}).live = true ∧ alone (waiting {}) = true ∧ (waiting {}).noPrepared ∧ (waiting {}).txn.mine = {} ∧
      ((waiting {}).slot 0).state = .pending ∧ ((waiting {}).slot 0).pair = false ∧ ((waiting {}).slot 0).passed = false ∧
      (waiting {}).power.brownout = false ∧ ((waiting {}).slot 0).target = 0 ∧ (waiting {}).commitDue ((waiting {}).slot 0) = true ∧
      (waiting {}).commitFails ((waiting {}).slot 0) 0 = none) ∧
    ((waiting { expect := 2 }).commitDue ((waiting { expect := 2 }).slot 0) = true ∧
      (waiting { expect := 2 }).commitFails ((waiting { expect := 2 }).slot 0) 0 ≠ none) ∧
    ((waiting { target := 3 }).targetPassed ((waiting { target := 3 }).slot 0) = true ∧ (waiting { target := 3 }).txn.epoch = 0) ∧
    ((waiting { target := 3, expect := 1 }).targetPassed ((waiting { target := 3, expect := 1 }).slot 0) = true) ∧
    (notYet.commitDue (notYet.slot 0) = false ∧ notYet.targetPassed (notYet.slot 0) = false ∧ (notYet.slot 0).target ≠ notYet.tideNext) := by decide
theorem witness_TideBoundaryApplies :
    ((waiting { passed := true }).live = true ∧ (waiting { passed := true }).latched = some 0) ∧ (up.live = true ∧ up.latched = none) := by decide



/-! ### Witnesses: supply, time, runs -/

theorem witness_PackageReset : (400 ≤ (400 : Word).toNat ∧ (79 : Word).toNat < 80) ∧ (80 ≤ (80 : Word).toNat ∧ (399 : Word).toNat < 400) := by
  decide
theorem witness_StartAtT0 : State.reset.power.phase = .inReset ∧ up.live = true ∧
    ((State.reset.modPower (fun p => { p with cause := 2 })).power.phase = .inReset ∧
      (State.reset.modPower (fun p => { p with cause := 2 })).power.cause = 2) ∧ State.reset.power.cause ≠ 2 := by decide
/-- Supply limits: 18 V of `VSUP`, 20 V and 30 V of `VM`. -/
def supplied (s : State) : State := pars s [(lawId 15 0x40, F.ofNat 18), (lawId 15 0x41, F.ofNat 20), (lawId 15 0x42, F.ofNat 30)]
theorem witness_SupplyMonitors : ((supplied up).live = true ∧ (supplied up).anyActOn = false) ∧ ((supplied fit).live = true ∧ (supplied fit).anyActOn = true) ∧
    (F.lt one ((supplied up).lawP 15 0x40) = true ∧ F.lt (F.ofNat 18) ((supplied up).lawP 15 0x40) = false ∧
      F.le ((supplied up).lawP 15 0x40) (F.ofNat 18) = true ∧ F.le ((supplied up).lawP 15 0x40) one = false) ∧
    (F.lt one ((supplied fit).lawP 15 0x41) = true ∧ F.lt (F.ofNat 20) ((supplied fit).lawP 15 0x41) = false) ∧
    (F.lt ((supplied fit).lawP 15 0x42) (F.ofNat 31) = true ∧ F.lt ((supplied fit).lawP 15 0x42) (F.ofNat 30) = false) := by decide
theorem witness_PackageFaults : up.live = true ∧
    ((F.lt two (F.ofNat 3) || F.lt (F.dec 36 (-1)) two) = true ∧ (F.lt (F.ofNat 3) (F.ofNat 3) || F.lt (F.dec 36 (-1)) (F.ofNat 3)) = false) ∧
    ((F.lt two (F.dec 405504 (-5)) || F.lt (F.dec 413696 (-5)) two) = true ∧
      (F.lt (F.dec 4096 (-3)) (F.dec 405504 (-5)) || F.lt (F.dec 413696 (-5)) (F.dec 4096 (-3))) = false) := by decide
/-- Well after the start; and gate sides that are supplied and not ready. -/
def later (s : State) : State := s.modTim (fun t => { t with devTime := 120000 })
def unready : State := { fit with gates := Vector.replicate 35 { powered := true } }
theorem witness_StartChecks : ((later up).live = true ∧ (7 : BitVec 4).toNat < cluCount .tra ∧ cluOf .tra 7 = some (.brg .ta3) ∧
      (later up).cluUp .tra 7 = true) ∧
    ((3 : BitVec 4).toNat < cluCount .hst ∧ cluOf .hst 3 = some (.can 2) ∧ (later up).cluUp .hst 3 = true) ∧
    ((4 : BitVec 4).toNat < cluCount .hst ∧ cluOf .hst 4 = some .check ∧ cluOf .hst 5 = some .hawser ∧ (later up).cluUp .hst 5 = true) ∧
    (cluOf .tra 0 = some (.law 0) ∧ (later up).cluUp .tra 0 = true) ∧
    (({ up with regions := Vector.replicate 7 { startAt := 100000 } } : State).cluUp .tra 0 = false) ∧
    (unready.live = true ∧ unready.gsPowered 0 = true ∧ (unready.gate 0).ready = false) ∧ (up.gsPowered 0 = false ∧ (fit.gate 0).ready = true) := by
  decide
theorem witness_GatePower : ((supplied fit).live = true ∧ (supplied fit).power.gpStopped = false ∧ (supplied fit).gpCan .overvoltage (F.ofNat 500) = true) ∧
    (fit.gpCan .overvoltage 0 = false ∧ fit.power.gpReady = true) ∧
    (ready.power.gpStopped = false ∧ (ready.modPower (fun p => { p with gpReady := false })).power.gpReady = false ∧
      F.le (ready.gpTimes (ready.lawP 15 0x43)) (F.ofNat 500) = true ∧ F.le (ready.gpTimes (ready.lawP 15 0x43)) (0xBF800000 : F32) = false) ∧
    (up.live = true ∧ up.power.gpStopped = true) ∧
    (fit.power.gprNext ≠ .gb ∧ (fit.modPower (fun p => { p with gprNext := .gb })).power.gprNext = .gb ∧ fit.parOn (lawId 15 0x48) = false ∧
      (pars fit [(lawId 15 0x48, one)]).parOn (lawId 15 0x48) = true ∧ fit.power.gpEdge = false) := by decide
theorem witness_JtagInstructions : up.live = true := by decide

theorem witness_TimingMarks : highOn.live = true ∧ highOn.anyArmed = true ∧ up.anyArmed = false ∧ (highOn.brg .ta1).gap = none ∧
    BridgeId.ta1 ∉ spanBridges ∧ highOn.tim.freeRun = false ∧ (highOn.modTim (fun t => { t with freeRun := true })).tim.freeRun = true := by decide
def counted : State := { up with regions := Vector.replicate 7 { periods := 4 } }
def unstarted : State := { up with regions := Vector.replicate 7 { startAt := 10000000 } }
theorem witness_RegionPeriodsCount : (up.live = true ∧ (up.reg .tra).periods.toNat < up.ratio .tra) ∧
    (counted.live = true ∧ counted.ratio .tra ≤ (counted.reg .tra).periods.toNat) ∧
    (unstarted.live = true ∧ (unstarted.reg .tra).periods.toNat < unstarted.ratio .tra ∧
      ((unstarted.modReg .tra (fun x => { x with periods := x.periods + 1 })).reach
        ((unstarted.modReg .tra (fun x => { x with periods := x.periods + 1 })).periodStart .tra)).cluUp .tra 0 = false) := by decide
theorem witness_RunTakesEffectAtPeriodStart : up.live = true ∧ (up.reg .hst).periods.toNat < up.ratio .hst ∧
    ({ up with setupPend := [(0x2000, 1)] } : State).setupPend = [(0x2000, 1)] ∧ (up.reg .hst).startAt.toNat ≤ up.tim.devTime.toNat ∧
    (up.reg .hst).safeDue = none ∧ (up.reg .hst).haltReq = false ∧ up.st.busy = false := by decide
theorem witness_IslandUnlocks : (up.live = true ∧ (12 : BitVec 4).toNat < cluCount .act ∧ cluOf .act 12 = some (.brg .g3w)) ∧
    cluOf .hst 1 = some (.can 0) ∧ cluOf .hst 4 = some .check ∧ (cluOf .hst 5 = some .hawser ∧ (5 : BitVec 4).toNat < cluCount .hst) ∧
    cluOf .sup 0 = some (.law 14) := by decide
theorem witness_MarkLost : up.live = true := by decide
def synced (v : Word) : State := cfgs up [(0x1000, v), (0x5000, 1)]
def missed (s : State) : State := (s.modTim (fun t => { t with syncMiss := 3 })).modSpan (fun p => { p with extMiss := 3 })
theorem witness_Synchronisation : ((missed (synced 1)).live = true ∧ (missed (synced 1)).syncInOn = true ∧ (missed (synced 1)).tim.syncLost = false ∧
      3 ≤ (missed (synced 1)).tim.syncMiss) ∧ up.syncInOn = false ∧ (synced 1).tim.syncMiss < 3 ∧
    ((synced 3).cfgBit 0x1000 1 = true ∧ (synced 3).tim.syncDone = false ∧ (synced 1).cfgBit 0x1000 1 = false) ∧
    ((missed (synced 0)).extOn = true ∧ (missed (synced 0)).cfgBit 0x1000 0 = false ∧ (missed (synced 0)).power.straps.pair = false ∧
      (missed (synced 0)).span.extLost = false ∧ 3 ≤ (missed (synced 0)).span.extMiss ∧ (synced 0).span.extMiss < 3) ∧
    up.extOn = false ∧ ((synced 1).extOn = true ∧ (synced 1).cfgBit 0x1000 0 = true) := by decide

/-- Engines at work after the start; a short one that has started nowhere. -/
def runningAll : State := (engines { state := .running, ringSp := one }).modTim (fun t => { t with devTime := 120000 })
theorem witness_SampleInstants :
    (runningAll.live = true ∧ runningAll.runs 1 = true ∧ runningAll.cluUp (lawReg 1) (lawClu 1) = true ∧ (runningAll.law 1).halted = false ∧
      2 ≤ (runningAll.law 1).join.active.length ∧ ¬ runningAll.sampleTime 1 0 < (runningAll.law 1).resumeAt ∧
      (∀ y ∈ runningAll.ownSets 1, (runningAll.snsC y.1).busy = 0) ∧ (runningAll.ownSets 1).Pairwise (fun y z => y.1 ≠ z.1)) ∧
    (runningAll.runs 14 = true ∧ (3 : Fin 4) ≠ 0 ∧ ¬ runningAll.sampleTime 14 3 < (runningAll.law 14).resumeAt ∧
      (runningAll.ownSets 14).Pairwise (fun y z => y.1 ≠ z.1)) := by decide
def lone : State := engines { state := .running, reps := #v[{}, { st := .retired }, { st := .retired }] }
def late0 (r : Region) : State := { lone with regions := Vector.replicate 7 r }
theorem witness_SampleInstants_none :
    (lone.live = true ∧ lone.runs 0 = true ∧ (lone.reach (lone.sampleTime 0 0)).cluUp (lawReg 0) (lawClu 0) = true ∧
      (lone.law 0).halted = false ∧ (lone.law 0).join.active.length < 2 ∧ ¬ lone.sampleTime 0 0 < (lone.law 0).resumeAt) ∧
    up.runs 0 = false ∧ ((late0 { startAt := 10000000 }).reach ((late0 { startAt := 10000000 }).sampleTime 0 0)).cluUp (lawReg 0) (lawClu 0) = false ∧
    (engines { state := .running, resumeAt := 100000000 }).sampleTime 0 0 < ((engines { state := .running, resumeAt := 100000000 }).law 0).resumeAt := by
  decide

def flight (x : RunIn) (l : Law) : State := engines { l with state := .running, flight := some x }
def run0 : RunIn := { pins := ⟨noPins, noPins, noPins⟩, at_ := 77 }
def allGood : VoteObs := ⟨⟨.good, .good, .good⟩, true⟩
def oneOdd : VoteObs := ⟨⟨.good, .odd [5] 5, .good⟩, true⟩
def twoOdd : VoteObs := ⟨⟨.good, .odd [5] 5, .missing⟩, true⟩
theorem witness_Votes :
    ((flight run0 {}).live = true ∧ ((flight run0 {}).law 15).flight = some run0 ∧ run0.noSet = false ∧ run0.dead = false ∧
      ((flight run0 {}).law 15).halted = false ∧ oneOdd.copiesAgree = true ∧ 0 ∈ ((flight run0 {}).law 15).active ∧
      2 ∈ ((flight run0 {}).law 15).active ∧ 1 ∈ ((flight run0 {}).law 15).active ∧
      bundlesAgree (((flight run0 {}).law 15).bundle oneOdd 0) (((flight run0 {}).law 15).bundle oneOdd 2) = true ∧
      bundlesAgree (((flight run0 {}).law 15).bundle oneOdd 0) (((flight run0 {}).law 15).bundle oneOdd 1) = false) ∧
    ({ run0 with dead := true }).dead = true := by decide
def duplex : State := flight run0 { reps := #v[{}, {}, { st := .retired }] }
theorem witness_Votes_fail :
    (((flight run0 {}).law 0).active.length = 3 ∧ twoOdd.copiesAgree = true ∧
      ∀ a b : RepId, a ≠ b → bundlesAgree (((flight run0 {}).law 0).bundle twoOdd a) (((flight run0 {}).law 0).bundle twoOdd b) = false) ∧
    ((duplex.law 0).active = [0, 1] ∧ ∀ a b : RepId, a ≠ b → bundlesAgree ((duplex.law 0).bundle twoOdd a) ((duplex.law 0).bundle twoOdd b) = false) ∧
    (⟨⟨.good, .good, .good⟩, false⟩ : VoteObs).copiesAgree = false ∧ ({ run0 with noSet := true }).noSet = true ∧
    (up.law 0).flight = none ∧ ((flight run0 { halted := true }).law 0).halted = true := by decide
def holding (hs : List Held) : State := { highOn with laws := Vector.replicate 16 { held := hs } }
theorem witness_ApplyInstants : (up.live = true ∧ (up.law 0).held = [] ∧ (up.law 0).outputDue = false) ∧
    (((flight run0 {}).law 0).held = [] ∧ ((flight run0 {}).law 0).outputDue = true) ∧
    (((holding [⟨[0], 80, true⟩, ⟨[one], 400, true⟩]).law 0).held = ⟨[0], 80, true⟩ :: [⟨[one], 400, true⟩] ∧ (80 : Time) / 8 ≠ 400 / 8) ∧
    (((holding [⟨[0], 80, true⟩, ⟨[one], 84, true⟩]).law 0).held = [⟨[0], 80, true⟩, ⟨[one], 84, true⟩] ∧ (80 : Time) / 8 = 84 / 8) ∧
    ((armed { hold := some { d := one } }).brg .ta1).hold = some { d := one } := by decide
theorem witness_LoadPoints : (up.live = true ∧ up.isArmed .sp4 = false) ∧ highOn.isArmed .sp4 = true ∧
    (pars highOn [(brgId .sp4 0, one)]).parN (brgId .sp4 0x00) ≠ 0 ∧ highOn.parN (brgId .sp4 0x00) = 0 := by decide

def words (ps : List (Nat × Word)) (ws : List (Nat × Word)) (x : Law) : State :=
  let s := pars up ps
  { s with laws := Vector.replicate 16 (ws.foldl (fun l w => l.setRw w.1 w.2) x) }
def lostSrc : State := words [(lawId 1 0xE0, one)] [(rwSpBad, two)] {}
def backSrc : State := words [] [(rwSpGood, two)] { spLost := true }
theorem witness_SourcesAndFollowing :
    (lostSrc.live = true ∧ formExt (lawForm 1) = true ∧ (lostSrc.law 1).spOld = none ∧ lostSrc.parN (lawId 1 0xE0) ≠ 0 ∧
      (lostSrc.law 1).spLost = false ∧ F.le (lostSrc.lawP 1 0xE8) (lostSrc.rw 1 rwSpBad) = true) ∧
    ((words [] [] { spOld := some (two, one) }).law 1).spOld = some (two, one) ∧
    ((backSrc.law 1).spLost = true ∧ F.le (backSrc.lawP 1 0xE8) (backSrc.rw 1 rwSpGood) = true) ∧ (up.law 1).spLost = false ∧
    (formExt (lawForm 0) = false ∧ up.parN (lawId 1 0xE0) = 0 ∧ up.feDue 1 = false) := by decide
def follow (r : Word) : State := words [(lawId 1 0xEC, r)] [(rwFeTimer, two), (rwFeArmed, one)] { state := .running }
theorem witness_SourcesAndFollowing_error : ((follow one).live = true ∧ (follow one).feDue 1 = true ∧ (follow one).parN (lawId 1 0xEC) ≠ 2) ∧
    ((follow two).feDue 1 = true ∧ (follow two).parN (lawId 1 0xEC) = 2) := by decide

/-! ### Witnesses: bridges, gate sides, brake -/

def dutyHalf : Bridge := { sel := .pwm, cmp := { d := 0x3F000000 } }
def shortDuty : State := armed { sel := .pwm }
def commanded (b : Bridge) : State := armed { dutyHalf with cmdLo := b.cmdLo }
theorem witness_CarrierEdges :
    ((armed dutyHalf).live = true ∧ (BridgeId.ta1 ≠ .bch) ∧ (armed dutyHalf).isArmed .ta1 = true ∧ (armed dutyHalf).outNow .ta1 = .pwm ∧
      (armed dutyHalf).probed .ta1 .high = false ∧ (armed dutyHalf).edgeDropped .ta1 .high true = false ∧ (armed dutyHalf).cmdOn .ta1 .low = false) ∧
    ((commanded { cmdLo := true }).edgeDropped .ta1 .high true = false ∧ (commanded { cmdLo := true }).cmdOn .ta1 .low = true) ∧
    fit.isArmed .ta1 = false ∧
    ((armed { dutyHalf with sel := .off }).outNow .ta1 ≠ .pwm ∧ (armed { dutyHalf with sel := .off }).probed .ta1 .high = false ∧
      (armed { dutyHalf with sel := .off }).edgeDropped .ta1 .high true = false) ∧
    (shortDuty.isArmed .ta1 = true ∧ shortDuty.probed .ta1 .high = false ∧ shortDuty.edgeDropped .ta1 .high true = true) := by decide
def isolatedNow : State := { fit with bridges := Vector.replicate 27 { arm := .isolated, isoAt := some 0, cmdLo := true, wasHi := true } }
theorem witness_CarrierEdges_isolated : isolatedNow.live = true ∧ isolatedNow.isIso .ta1 = true ∧
    (isolatedNow.brg .ta1).isoAt = some isolatedNow.tim.devTime ∧ isolatedNow.cmdOn .ta1 .low = true ∧ fit.isoNow .ta1 = false := by decide
theorem witness_Desaturation : (highOn.live = true ∧ highOn.swOn (gsBridge 34).1 (gsBridge 34).2 = false ∧
      highOn.swSoft (gsBridge 34).1 (otherSw (gsBridge 34).2) = false ∧ highOn.swOn (gsBridge 0).1 (gsBridge 0).2 = true) ∧
    ((armed { softHi := true, softLo := true }).swSoft (gsBridge 0).1 (gsBridge 0).2 = true ∧ highOn.swSoft (gsBridge 0).1 (gsBridge 0).2 = false) := by
  decide
def lostSides : State := { highOn with gates := Vector.replicate 35 { lost := true } }
theorem witness_GateSides : (highOn.live = true ∧ highOn.power.phase = .ready ∧ (highOn.gate 0).lost = false) ∧ (lostSides.gate 0).lost = true ∧
    (gsMate 0 = some 1 ∧ highOn.isArmed (gsBridge 0).1 = true ∧ highOn.swOn (gsBridge 0).1 (gsBridge 0).2 = true) ∧
    (fit.isArmed (gsBridge 0).1 = false ∧ fit.swOn (gsBridge 0).1 (gsBridge 0).2 = false ∧ fit.isoNow (gsBridge 0).1 = false) ∧
    (isolatedNow.isoNow (gsBridge 0).1 = true ∧ isolatedNow.wasOn (gsBridge 0).1 (gsBridge 0).2 = true) ∧
    ((highOn.gate 0).ready = true ∧ highOn.judged (gsBridge 0).1 = true) ∧ ((up.gate 0).ready && up.judged (gsBridge 0).1) = false ∧
    (highOn.power.gpReady = true ∧ (highOn.gate 0).lost = false ∧
      highOn.power.railAt.toNat + 8000 * (0 : GsId).val ≤ highOn.tim.devTime.toNat) ∧ up.power.gpReady = false := by decide
theorem witness_ActuatorBridges : (highOn.live = true ∧ brgAct .g1u ≠ none ∧ highOn.swOn .g1u .high = true ∧ highOn.swOn .g1u .low = false ∧
    highOn.isArmed .g1u = true ∧ highOn.cpFault = false) ∧ fit.isArmed .g1u = false ∧ ({ highOn with cpFault := true }).cpFault = true := by decide
def limits (told : Bool) : State :=
  armed { dtHl := { atMax := 16, told := told }, dtLh := { atMax := 16, told := told }, slew := Vector.replicate 4 { above := 16, told := told } }
theorem witness_AdaptationLimits :
    ((limits false).live = true ∧ (limits false).isArmed .sp1 = true ∧ brgKind .sp1 = .hv ∧ 16 ≤ ((limits false).brg .sp1).dtHl.atMax ∧
      ((limits false).brg .sp1).dtHl.told = false ∧ 16 ≤ ((limits false).brg .sp1).dtLh.atMax ∧ ((limits false).brg .sp1).dtLh.told = false) ∧
    (((limits true).brg .sp1).dtHl.told = true ∧ ((limits true).brg .sp1).dtLh.told = true) ∧
    (gsOf .bch .low = some 34 ∧ 16 ≤ ((limits false).brg .bch).slew[slewIx .low true].above ∧
      ((limits false).brg .bch).slew[slewIx .low true].told = false ∧ ((limits true).brg .bch).slew[slewIx .low true].told = true) := by decide

def lands (a b block latch : Bool) : State := { highOn with sto := { a := a, b := b, block := block, latch := latch } }
theorem witness_SafeEnableLands : (highOn.live = true ∧ highOn.sto.block = false) ∧
    ((lands true true true false).sto.block = true ∧ (lands true true true false).sto.a = true ∧ (lands true true true false).sto.latch = false) ∧
    ((lands true false true false).sto.a ≠ (lands true false true false).sto.b ∧ (lands true false true false).sto.latch = false) ∧
    ((lands false false true true).sto.block && (lands false false true true).sto.a) = false ∧ (lands false false true true).sto.latch = true := by
  decide
def follows (d : Word) (s : State) : State := pars s [(lawId 15 0x2C, one), (lawId 15 0x2D, d)]
def delayed : State := follows one { up with sto := { block := true, delay := true } }
theorem witness_BrakeFollowsBlock : (delayed.live = true ∧ delayed.sto.block = true ∧ delayed.sto.delay = true ∧ delayed.parOn (lawId 15 0x2C) = true) ∧
    (up.sto.block && up.sto.delay && up.parOn (lawId 15 0x2C)) = false ∧
    ((follows 0 highOn).sto.block = false ∧ (follows 0 highOn).parOn (lawId 15 0x2C) = true ∧ F.isZero ((follows 0 highOn).lawP 15 0x2D) = true) ∧
    ((follows one highOn).sto.block = false ∧ (follows one highOn).parOn (lawId 15 0x2C) = true ∧
      F.isZero ((follows one highOn).lawP 15 0x2D) = false) := by decide

/-- The brake's scale factors at 1, `BRK_I_MAX` 3 A, `BRK_I_PULL` and `BRK_I_MIN` 1.5 A. -/
def coil (b : Brake) : State :=
  let s := pars up [(lawId 15 0x21, F.dec 15 (-1)), (lawId 15 0x23, F.dec 15 (-1)), (lawId 15 0x24, F.ofNat 3), (lawId 15 0x2A, one), (lawId 15 0x2B, one)]
  { s with brake := b }
/-- What a conversion leaves before it is judged. -/
def coilRead (s : State) (fb isns vsup : F32) : State :=
  (s.modPower (fun p => { p with vsupNow := vsup })).modBrake (fun b => { b with
    fbHigh := F.le (F.mul (F.dec 7 (-1)) vsup) (F.mul fb (s.brkP 0x2A)), iCoil := F.mul isns (s.brkP 0x2B) })
theorem witness_BrakeConversions :
    ((coil {}).live = true ∧ F.lt ((coil {}).brkP 0x24) (F.mul (F.ofNat 12) ((coil {}).brkP 0x2B)) = true) ∧
    (F.lt ((coil {}).brkP 0x24) (F.mul one ((coil {}).brkP 0x2B)) = false ∧ F.lt (F.mul one ((coil {}).brkP 0x2B)) ((coil {}).brkP 0x21) = true ∧
      F.lt (F.mul two ((coil {}).brkP 0x2B)) ((coil {}).brkP 0x21) = false ∧ F.lt ((coil {}).brkP 0x24) (F.mul two ((coil {}).brkP 0x2B)) = false) ∧
    ((coilRead (coil {}) 0 0 (F.ofNat 24)).rowMiss 1 0 0 = none ∧ (coilRead (coil {}) 0 two (F.ofNat 24)).rowMiss 1 0 two ≠ none) ∧
    (coilRead (coil { mode := .released }) (F.ofNat 24) two (F.ofNat 24)).rowMiss 3 (F.ofNat 24) two = none ∧
    (∀ x ∈ [coil {}, coil { pulling := true }, coil { pulling := true, judge := true }, coil { pulse := 2 }, coil { miss := 2 },
      coil { mode := .released }, coil { mode := .released, meanDue := true, nI := 2 }],
      x.live = true ∧ F.lt (x.brkP 0x24) (F.mul two (x.brkP 0x2B)) = false) := by decide
theorem witness_BrakePulses : (up.brake.pulling = false ∧ up.brake.pulse = 0 ∧ up.live = true) ∧
    ((coil { pulse := 2 }).brake.pulse ≠ 0 ∧ (coil { pulse := 2 }).brake.pulseMiss (coil { pulse := 2 }).tim.devTime = none) ∧
    (coil { pulse := 2, bad := [(0, some (0, one))] }).brake.pulseMiss 0 = some (0, one) := by decide

/-! ### Witnesses: sensing, trips, regions -/

def sensors (x : Sns) (s : State) : State := { s with sns := Vector.replicate 12 x }
/-- Every sense cluster of a device as given, the converter check and the readback next in turn. -/
def atCheck (n : SnsId) (x : Sns) (s : State) : State := sensors { x with scanPos := (s.entriesOf n 0).length } s
theorem witness_ConverterCheck :
    ((atCheck 0 {} up).live = true ∧ ((atCheck 0 {} up).snsC 0).stopped = false ∧ ((atCheck 0 {} up).snsC 0).busy = 0 ∧
      ((atCheck 0 {} up).snsC 0).scanPos = ((atCheck 0 {} up).entriesOf 0 0).length ∧ true = !((atCheck 0 {} up).snsC 0).high ∧
      ((atCheck 0 {} up).snsC 0).fails ≠ 1) ∧
    ((atCheck 0 { fails := 1, high := true } up).snsC 0).fails = 1 ∧ ((sensors { stopped := true } up).snsC 0).stopped = true := by decide
/-- `SNS00` with one scan entry in its sequence, of channel 0; and with that entry in set 1. -/
def sequenced : State := pars up [(snsParId 0 0, one), (snsParId 0 2, one), (snsParId 0 0x40, 0), (snsParId 0 0x50, one)]
def setOf : State := pars up [(snsParId 0 0, one), (snsParId 0 2, one), (snsParId 0 0x40, 0), (snsParId 0 0x50, one), (snsParId 0 0x60, one)]
theorem witness_SequenceEntries : (sequenced.live = true ∧ sequenced.seqChan 0 0 = some 0 ∧ (sequenced.snsC 0).stopped = false) ∧
    (sensors { stopped := true } sequenced).seqChan 0 0 = some 0 := by decide
theorem witness_ThresholdReadback :
    ((sensors { scanPos := (up.entriesOf 7 0).length + 1 } up).live = true ∧
      ((sensors { scanPos := (up.entriesOf 7 0).length + 1 } up).snsC 7).stopped = false ∧ 7 ≤ (7 : SnsId).val ∧
      ((sensors { scanPos := (up.entriesOf 7 0).length + 1 } up).snsC 7).scanPos =
        ((sensors { scanPos := (up.entriesOf 7 0).length + 1 } up).entriesOf 7 0).length + 1 ∧
      (winsOf 7)[((sensors { scanPos := (up.entriesOf 7 0).length + 1 } up).snsC 7).dacPos / 2]? = some 24) ∧ ¬ 7 ≤ (6 : SnsId).val := by decide
def windowed : State := pars up [(winId 0 0, one)]
theorem witness_WindowMonitors : (windowed.live = true ∧ windowed.winOn 0 = true ∧ (windowed.win 0).hold = false ∧
    majority (shiftIn 0 true (min (15 : Byte).toNat 15)) (windowed.parN (winId 0 5)) (windowed.parN (winId 0 6)) = true ∧
    (windowed.win 0).hi.filt = false ∧ (windowed.win 0).hi.latch = false ∧ windowed.anyArmed = false) ∧ up.winOn 0 = false := by decide
/-- A trip slot of `BRG.TA1` on `TRIP_IN0` with action 2. -/
def slotted : State := pars highOn [(brgId .ta1 0x0D, F.ofNat 768), (brgId .ta1 0x11, two)]
theorem witness_TripLands : (slotted.live = true ∧ slotted.isArmed .ta1 = true ∧ slotted.slotDoes .ta1 0 = 2 ∧ slotted.slotSrc .ta1 0 = 768 + (0 : Fin 2).val ∧
    (slotted.brg .ta1).slots.getLsbD 0 = false) ∧ fit.isArmed .ta1 = false ∧
    (∀ k, k < 4 → highOn.slotOn .ta1 k = true → (highOn.brg .ta1).slots.getLsbD k = true) := by decide
def standin (x : Wst) : State := { up with wsts := Vector.replicate 3 x }
theorem witness_StandinChecks : (up.live = true ∧ (up.wst 0).state ≠ 1) ∧
    (((standin { state := 1, step := 1 }).wst 0).state = 1 ∧ ((standin { state := 1, step := 1 }).wst 0).step = 1) ∧
    (((standin { state := 1, step := 2 }).wst 0).step = 2 ∧ ((standin { state := 1, step := 2 }).wst 0).again = false) ∧
    (3 ≤ ((standin { state := 1, step := 3 }).wst 0).step ∧ ((standin { state := 1, step := 3 }).wst 0).step < 5) ∧
    (((standin { state := 1, step := 5 }).wst 0).step = 5 ∧ ((standin { state := 1, step := 5 }).wst 0).bad2 = false) := by decide

def charger (x : Charger) : State := { highOn with chg := x }
theorem witness_PilotAndProximity : (up.live = true ∧ up.chg.pilotOk = false) ∧ (charger { pilotOk := true }).chg.pilotOk = true ∧
    decide ((((0, 0) :: up.chg.pilot).take 8).length = 8) = false ∧ (charger { cable := .valid }).chg.cable ≠ .invalid ∧ (ppRow 7).2 = .invalid := by decide
def source : State := pars (charger { settling := true, cable := .valid, pilotOk := true, phases := 1, iph := F.ofNat 16, icp := F.ofNat 16, ipp := F.ofNat 16 })
  [(comId .chg 0x00, F.ofNat 16), (comId .chg 0x04, 0)]
theorem witness_ChargerSessions_source : (later source).live = true ∧ (later source).chg.settling = true ∧ (later source).acNow = true ∧
    (later source).chg.srcOk = false ∧ secTicks ((later source).comP .chg 0x04) ≤ ((later source).tim.devTime - (later source).chg.settleAt).toNat ∧
    up.chg.settling = false := by decide
def full : Charger := { session := .cv, termT := 10000000000000 }
theorem witness_ChargerSessions : (up.live = true ∧ up.chg.settling = false) ∧
    ((charger full).chg.session = .cv ∧ (charger full).termDone = true) ∧ up.chg.session ≠ .cv ∧
    ((charger { session := .cc }).timerLeft = 0 ∧ (charger { session := .cc }).chg.timerRun = false ∧ (charger { session := .cc }).chg.session = .cc) ∧
    (((charger full).chg.timerRun = false ∧ (charger full).timerLeft = 0) ∧
      ((charger { full with session := .done }).chg.session = .done ∧ (charger { full with session := .done }).termDone = true) ∧
      ((charger { session := .ended, absRun := true }).chg.session = .ended ∧ (charger { session := .ended, absRun := true }).chg.absRun = true)) ∧
    (charger { session := .cc, timer := 4 }).timerLeft ≠ 0 ∧
    ((charger { session := .cc, absRuns := 100000, absV := one, vBatPrev := F.ofNat 500 }).chg.batAbsent = false ∧
      (charger { absRuns := 100000 }).parN (comId .chg 0x13) ≤ 100000 ∧
      F.lt ((charger {}).comP .chg 0x11) (F.abs (F.sub (F.ofNat 500) one)) = true) ∧
    (charger { batAbsent := true }).chg.batAbsent = true ∧
    ((charger { mode := .peerOut }).chg.mode = .peerOut ∧ (charger { mode := .peerOut }).chg.raised = false ∧
      (charger { mode := .peerOut }).chg.peerFault = false ∧
      400000000 ≤ (((charger { mode := .peerOut }).modTim (fun t => { t with devTime := 500000000 })).tim.devTime - 0).toNat) ∧
    up.chg.mode ≠ .peerOut := by decide

theorem witness_RotorLossAndCatch :
    ((drives { mode := .torque, nLost := 10000 }).live = true ∧ driveMode ((drives { mode := .torque, nLost := 10000 }).tr .a).mode = true ∧
      (drives { mode := .torque, nLost := 10000 }).parN (comId .tra 0x05) ≤ 10000 ∧ (drives { mode := .torque }).isSafe .tra = false ∧
      (drives { mode := .torque }).power.devSafe = false) ∧
    driveMode (up.tr .a).mode = false ∧
    (((drives { mode := .catch, nLock := 10000 }).tr .b).mode = .catch ∧ (drives { mode := .catch }).parN (comId .trb 0x06) ≤ 10000 ∧
      ((drives { mode := .catch }).tr .b).locked = false ∧ ((drives { mode := .catch }).tr .b).still = false) ∧
    (up.tr .b).mode ≠ .catch ∧ secTicks ((drives { mode := .catch }).comP .trb 0x07) ≤
      ((drives { mode := .catch, catchT := 100000000000 }).tr .b).catchT := by decide
def flux (r : Word) : State := pars (drives { fluxLoT := 100000000000, fluxHiT := 100000000000 }) [(comId .tra 0x0D, r)]
theorem witness_FluxEpisodes :
    ((flux one).live = true ∧ secTicks ((flux one).comP .tra 0x0C) ≤ ((flux one).tr .a).fluxLoT ∧ ((flux one).tr .a).loTold = false ∧
      secTicks ((flux one).comP .tra 0x0C) ≤ ((flux one).tr .a).fluxHiT ∧ ((flux one).tr .a).hiTold = false ∧
      (flux one).parN (comId .tra 0x0D) ≠ 0 ∧ (flux one).parN (comId .tra 0x0D) ≠ 2) ∧
    (flux two).parN (comId .tra 0x0D) = 2 ∧ (flux 0).parN (comId .tra 0x0D) = 0 := by decide
def spanAt (x : Span) : State := { highOn with span := x }
theorem witness_ChopperDischargePark : (up.live = true ∧ (spanAt { chOpen := 1000 }).parN (lawId 7 0x25) ≤ (spanAt { chOpen := 1000 }).span.chOpen) ∧
    up.span.chOpen < up.parN (lawId 7 0x25) ∧ (spanAt { chCond := 1000 }).parN (lawId 7 0x25) ≤ (spanAt { chCond := 1000 }).span.chCond ∧
    up.span.chCond < up.parN (lawId 7 0x25) ∧
    ((spanAt { mode := .discharge, disT := 100000000000 }).span.mode = .discharge ∧ (spanAt { mode := .discharge }).span.disEnd = false ∧
      secTicks ((spanAt {}).comP .spn 0x0B) ≤ 100000000000) ∧ up.span.mode ≠ .discharge ∧
    (((moves { mode := .park, settleT := 100000000000 }).actu 1).mode = .park ∧ ((moves { mode := .park }).actu 1).parked = false ∧
      ((moves { mode := .park }).actu 1).parkDue = false ∧ secTicks ((moves {}).lawP (actLaw 1) 0x27) ≤ 100000000000) ∧
    (up.actu 1).mode ≠ .park := by decide
def heat (x : Thermal) (ws : List (Nat × Word)) : State :=
  let s := pars { up with therm := x } [(lawId 14 0, F.ofNat 86)]
  { s with laws := s.laws.set 14 (ws.foldl (fun l w => l.setRw w.1 w.2) (s.law 14)) }
/-- Every broken counter at 100,000, every throttle time at 1,000,000 periods. -/
def aged (x : Thermal) : State :=
  heat x ((List.range 8).map (fun k => (rwSensDis k, F.ofNat 100000)) ++ (List.range 7).map (fun k => (rwThrT k, F.ofNat 1000000)) ++
    (List.range 7).map (fun k => (rwThr k, 0x3F000000)))
theorem witness_SensorsAndThrottling :
    ((aged {}).live = true ∧ (aged {}).therm.broken.getLsbD 7 = false ∧ (aged {}).thermOn = true ∧
      (aged {}).parN (lawId 14 0xD0) ≤ (aged {}).rwN 14 (rwSensDis 7)) ∧
    ((aged { broken := 0xFF }).therm.broken.getLsbD 7 = true ∧ up.thermOn = false) ∧
    (ThrCh.a ≠ .c ∧ secTicks ((aged {}).lawP 14 0xDB) ≤ (aged {}).rwN 14 (rwThrT (thIx .a).val) * (aged {}).periodTicks .sup ∧
      (aged { hot := 0x7F }).therm.hot.getLsbD (thIx .a).val = true) ∧
    ((aged { cool := 0x7F }).therm.hot.getLsbD (thIx .a).val = false ∧ (aged { cool := 0x7F }).therm.cool.getLsbD (thIx .a).val = true ∧
      F.lt ((aged { cool := 0x7F }).factor (thIx .a)) F.one = true) ∧ ((aged {}).law 14).active ≠ [] := by decide

/-! ### Witnesses: host, registers, debug -/

def master (s : State) : State :=
  s.modHost (fun h => { h with linkUp := true, running := true, cfg := { h.cfg with busMaster := true } })
def fetched (out : List Word) : State := (master up).modHost (fun h => { h with manOut := out })
/-- A manifest with no index and its CRC. -/
def manifest (c : Word) : BitVec 1024 := 1 ||| (c.setWidth 1024 <<< 992)
theorem manifest_low (c : Word) (k n : Nat) (h : k + n ≤ 992) : (manifest c).extractLsb' k n = (1 : BitVec 1024).extractLsb' k n := by
  apply BitVec.eq_of_getLsbD_eq
  intro i hi
  have h1 : k + i < 992 := by omega
  simp [manifest, h1]
theorem manifest_crc (c : Word) : (manifest c).extractLsb' 992 32 = c := by
  apply BitVec.eq_of_getLsbD_eq
  intro i hi
  have h1 : 992 + i < 1024 := by omega
  simp [manifest, hi, h1]
theorem witness_ManifestCrc : ∃ m, manGood m = true := by
  refine ⟨manifest (crc32c ((List.range 124).map (fun i => (1 : BitVec 1024).extractLsb' (8 * i) 8))), ?_⟩
  have h : (List.range 124).map (fun i => (manifest (crc32c ((List.range 124).map (fun i => (1 : BitVec 1024).extractLsb' (8 * i) 8)))).extractLsb' (8 * i) 8) =
      (List.range 124).map (fun i => (1 : BitVec 1024).extractLsb' (8 * i) 8) :=
    List.map_congr_left (fun i hi => manifest_low _ _ _ (by have := List.mem_range.mp hi; omega))
  refine Bool.and_eq_true_iff.mpr ⟨decide_eq_true ?_, decide_eq_true ?_⟩
  · exact (manifest_low _ 0 16 (by omega)).trans (by
      apply BitVec.eq_of_getLsbD_eq
      intro i hi
      simp [hi])
  · rw [h]
    exact manifest_crc _

theorem witness_ManifestReads : ((master up).live = true ∧ (master up).mastering = true ∧ (master up).host.manTide ≠ some (master up).tim.tideIndex ∧
      (master up).host.reads.length + (master up).host.manOut.length < (master up).tags) ∧
    (fetched (List.replicate 32 0)).tags ≤ (fetched (List.replicate 32 0)).host.reads.length + (fetched (List.replicate 32 0)).host.manOut.length ∧
    up.mastering = false ∧ up.hears = false ∧ ((fetched [0]).hears = true ∧ (fetched [0]).host.manOut = [0] ∧ (0 : Word) = (fetched [0]).tim.tideIndex) ∧
    ((fetched [1]).host.manOut = [1] ∧ (1 : Word) ≠ (fetched [1]).tim.tideIndex) ∧ manGood 0 = false := by decide +kernel
def described (lost : Bool) : State := (master up).modHost (fun h => { h with reads := [(0, 1)], lost := lost })
theorem witness_DescriptorReads : (up.live = true ∧ up.hears = false) ∧
    ((described false).hears = true ∧ (described false).host.reads.find? (fun r => decide (r.1 = 0)) = some (0, [(0 : Entry)].length) ∧
      (described false).host.lost = false ∧ hdrAt (hdrOf (0 : Entry)) = false) ∧
    (described true).host.lost = true ∧ hdrAt (hdrOf (0x100 : Entry)) = true ∧
    ((described false).host.reads.find? (fun r => decide (r.1 = 1)) = none ∧ ([] : List Entry).length ≠ 1) := by decide +kernel
def frames : State := (master up).modHost (fun h => { h with reads := [(4, 1)] })
theorem witness_LinkEvents : up.live = true ∧ (fetched [0]).host.manOut = [0] ∧ up.host.manOut = [] ∧
    ((described false).inFlight 0 ≠ 0 ∧ ringCan 0 = none) ∧ (frames.inFlight 4 ≠ 0 ∧ ringCan 4 = some 0) ∧ up.inFlight 0 = 0 := by decide
def silentHost (k : SlotState) : State := (withSlot up 0 (heldSlot k)).modHost (fun h => { h with missed := 30 })
theorem witness_HostLossRollsBack : ((silentHost .open).live = true ∧ (silentHost .open).lossDue = true ∧ ((silentHost .open).slot 0).state = .open) ∧
    ((silentHost .prepared).slot 0).state = .prepared ∧ ((silentHost .closed).slot 0).state = .closed := by decide
theorem witness_HostLossReaction : ((silentHost .closed).live = true ∧ (silentHost .closed).lossDue = true) ∧ up.lossDue = false ∧
    (up.power.devSafe = false ∧ up.isSafe .hst = false) ∧ ((charger { mode := .acIn }).chg.mode ≠ .off ∧ (charger { mode := .acIn }).isArmed .pf1 = true) ∧
    (up.modPower (fun p => { p with devSafe := true })).power.devSafe = true := by decide

/-- Registers answer, over SPI too. -/
def open_ (s : State) : State :=
  (s.modTim (fun t => { t with devTime := 120000 })).modPower (fun p => { p with straps := { p.straps with spiw := true } })
theorem witness_SetupWrites : ((open_ up).answers = true ∧ (open_ up).power.straps.spiw = true ∧ mapWf setupReset (open_ up).setup = true ∧
      (setupRow 0x1004).isSome = true ∧ (setupRow 0x1228).isSome = true) ∧
    ((open_ up).writeBarred 0x1228 1 = false ∧ (open_ up).writeBarred 0x2000 1 = true ∧ (open_ up).writeBarred 0x2000 0 = false) ∧
    ((1 : Word) = (0 : Byte) ++ (0 : Byte) ++ (0 : Byte) ++ (1 : Byte) ∧ ([7, 7, 7] : List Byte).length < 4) := by decide
theorem witness_WritesDiscarded : ((open_ up).answers = true ∧ (0x1228 : Half).toNat % 4 = 0 ∧
    ((open_ up).modPower (fun p => { p with straps := { p.straps with spiw := false } })).power.straps.spiw = false) ∧
    0xC000 ≤ (0xC000 : Half).toNat ∧ (0x1229 : Half).toNat % 4 ≠ 0 ∧ (4 ≤ ([1, 2, 3, 4] : List Byte).length ∧ ([1, 2, 3, 4] : List Byte).length < 8) ∧
    (List.replicate 59 (0 : Byte)).length < 60 ∧ (3 : Byte) ≠ 2 := by decide
theorem witness_HostAccesses : (open_ up).answers = true ∧ (7 : BitVec 4) ≠ 15 ∧ (0x1002 : Half).toNat % 4 ≠ 0 := by decide
theorem witness_ClearingAccesses : (open_ up).answers = true := by decide
theorem witness_CapturingReads : (open_ up).answers = true ∧ ((open_ up).snsC 0).lq = [] ∧
    ((sensors { lq := [5, 6] } (open_ up)).snsC 0).lq = [5, 6] ∧ (0x1040 : Half).toNat % 4 = 0 ∧ (0x1041 : Half).toNat % 4 ≠ 0 ∧
    (List.replicate 9 (0 : Byte)).length = 1 + 4 * 2 ∧ (2 : Byte) ≠ 3 := by decide

def debugging (s : State) : State :=
  (open_ s).modDbg (fun d => { d with lawSel := 0, stepCount := 1000, addr := 5, brgSel := 37, regSel := 2 })
def haltedRun (c : Nat) : State := debugging (engines { halted := true, flight := some run0, cycle := c })
/-- A commit of bank holder `LAW00` and of `BRG.TA1` in its pair's second step. -/
def prepared (s : State) : State := withSlot s 0 { state := .prepared, staged := [(lawId 0 0x20, one), (brgId .ta1 0, one)] }
/-- What replica 2 reads back of its first word is changed. -/
def third : Tri Readback := ⟨none, none, some (0, 1)⟩
def apart : Tri Readback := ⟨none, some (0, 1), some (0, 2)⟩
theorem witness_LawHalts :
    ((debugging up).answers = true ∧ ((debugging up).law (debugging up).dbgLaw).halted = false ∧ ((debugging up).law 0).haltReq = false ∧
      (debugging up).mayHalt (lawBridges 0) = true ∧ ((debugging up).law 0).triplex = true ∧ ((debugging up).law 0).flight = none ∧
      (debugging up).dbgLaw = 0 ∧ (debugging up).prepHolds (lawId 0 0 / 256) = false) ∧
    (debugging (prepared up)).prepHolds (lawId 0 0 / 256) = true ∧
    (debugging (drives { mode := .torque })).mayHalt (lawBridges 0) = false ∧ ((debugging lone).law 0).triplex = false ∧
    (((debugging (flight run0 {})).law 0).flight ≠ none ∧ (debugging (flight run0 {})).mayHalt (lawBridges 0) = true) ∧
    (((haltedRun 0).law 0).halted = true ∧ ((haltedRun 0).law 0).cycle = 0 ∧ ((haltedRun 1).law 0).flight = some run0 ∧
      formCycles (lawForm 0) ≤ 1 + (haltedRun 1).dbg.stepCount.toNat) ∧
    (((haltedRun 1).modDbg (fun d => { d with stepCount := 2 })).dbg.stepCount.toNat + 1 < formCycles (lawForm 0)) ∧
    (2 ≤ ((haltedRun 1).law 0).active.length ∧
      ∀ i j : RepId, ((haltedRun 1).law 0).resumeSame 0 ⟨none, none, none⟩ i j = true) ∧
    (haltedRun 1).dbg.addr.toNat < runLen (lawForm 0) ∧ runLen (lawForm 0) ≤ ((haltedRun 1).modDbg (fun d => { d with addr := 0x1FF })).dbg.addr.toNat := by
  decide
theorem witness_LawHalts_vote :
    (((haltedRun 1).law 0).active.length = 3 ∧ 2 ∈ ((haltedRun 1).law 0).active ∧
      (∀ i j : RepId, i ≠ 2 → j ≠ 2 → ((haltedRun 1).law 0).resumeSame 0 third i j = true) ∧
      ∀ i : RepId, i ≠ 2 → ((haltedRun 1).law 0).resumeSame 0 third i 2 = false ∧ ((haltedRun 1).law 0).resumeSame 0 third 2 i = false) ∧
    (∀ i j : RepId, i ≠ j → ((haltedRun 1).law 0).resumeSame 0 apart i j = false) := by decide +kernel
def regHeld (r : Region) (b : Bridge) : State :=
  debugging { up with regions := up.regions.set 2 r, bridges := Vector.replicate 27 b }
theorem witness_BridgeAndRegionHalts :
    ((debugging up).answers = true ∧ dbgBrg (debugging up) = some .ta1 ∧ regOf (debugging up).dbg.regSel.toNat = some .tra ∧
      ((debugging up).brg .ta1).arm ≠ .halted ∧ (debugging up).isIso .ta1 = false ∧ (debugging up).mayHalt [.ta1] = true ∧
      (debugging up).prepHolds (brgId .ta1 0 / 256) = false ∧
      (debugging up).regHalt .tra = false ∧ (debugging up).regHaltCase .tra = 0) ∧
    ((debugging (prepared up)).mayHalt [.ta1] = true ∧ (debugging (prepared up)).prepHolds (brgId .ta1 0 / 256) = true) ∧
    ((regHeld {} { arm := .isolated }).mayHalt [.ta1] = true ∧ (regHeld {} { arm := .isolated }).isIso .ta1 = true) ∧
    (dbgBrg ((debugging up).modDbg (fun d => { d with brgSel := 0 })) = none ∧ regOf (7 : Word).toNat = none) ∧
    (debugging (drives { mode := .torque })).mayHalt [.ta1] = false ∧ (debugging (drives { mode := .torque })).regHaltCase .tra ≠ 0 ∧
    (((regHeld {} { arm := .halted }).brg .ta1).arm = .halted ∧ ((regHeld {} { arm := .halted }).reg (brgReg .ta1)).halted = false) ∧
    ((regHeld { halted := true } {}).regHalt .tra = true ∧ ((regHeld { halted := true } {}).reg .tra).halted = true ∧
      ((regHeld { halted := true } {}).reg .tra).resumeReq = false ∧ (∀ q ∈ allRegs, q ≠ .tra → ((regHeld { halted := true } {}).reg q).halted = false)) := by
  decide
theorem witness_CheckUnitWrites : ((open_ up).answers = true ∧ (open_ up).chkOpen 0 = true) ∧
    ({ open_ up with chkIso := true }).chkOpen 0 = false := by decide

def darning (x : Law) : State := engines { x with reps := #v[{}, {}, { st := .darning }] }
/-- A third replica with its own run word; the other two form the pair. -/
def darnWith (d : Darn) : State := darning { darn := some d }
def slotted1 (d : Darn) : State := { darnWith d with wash := { inSlot := true, pos := 2 } }
theorem witness_Darning :
    ((darning { darnDue := some 2 }).live = true ∧ ((darning { darnDue := some 2 }).law 0).flight = none ∧
      ((darning { darnDue := some 2 }).law 0).darnDue = some 2 ∧
      ((darning { darnDue := some 2 }).law 0).darn = none ∧ ((darning { darnDue := some 2 }).law 0).active = 0 :: 1 :: [] ∧
      (((darning { darnDue := some 2 }).law 0).rep 2).st = .darning) ∧ ((engines { darnDue := some 2 }).law 0).active = 0 :: 1 :: [2] ∧
    (((engines { darnDue := some 2 }).law 0).rep 2).st ≠ .darning ∧ (up.law 0).darnDue = none ∧
    (((darnWith ⟨2, 0, 0, false⟩).law 0).darn = some ⟨2, 0, 0, false⟩ ∧ ((darnWith ⟨2, 0, 0, false⟩).law 0).flight = none ∧
      (((darnWith ⟨2, 0, 0, false⟩).law 0).rep 2).bank = (((darnWith ⟨2, 0, 0, false⟩).law 0).rep 0).bank ∧
      (((darnWith ⟨2, 0, 0, false⟩).law 0).rep 2).shadow = (((darnWith ⟨2, 0, 0, false⟩).law 0).rep 0).shadow ∧
      ¬ ((darnWith ⟨2, 0, 0, false⟩).wash.inSlot = true)) ∧
    ((slotted1 ⟨2, 0, 1, false⟩).wash.inSlot = true ∧ washLaw (slotted1 ⟨2, 0, 1, false⟩).wash.pos = 0 ∧
      washRep (slotted1 ⟨2, 0, 1, false⟩).wash.pos = 2) ∧
    (⟨2, 0, 1, true⟩ : Darn).restart = true ∧ (⟨2, 0, 1, false⟩ : Darn).fails ≠ 0 := by decide
theorem witness_Darning_check :
    (((darnWith ⟨2, 0, 0, false⟩).law 0).copyRun 2 0).darnMatch 0 ⟨2, 0, 0, false⟩ none = true ∧
    (((darnWith ⟨2, 0, 0, false⟩).law 0).copyRun 2 0).darnMatch 0 ⟨2, 0, 0, false⟩ (some (0, 1)) = false := by decide +kernel
def washing (w : Wash) (x : Law) : State := cfgs { engines { x with state := .running } with wash := w } [(0xB000, 1), (0xB004, 0)]
def cleanRun : Law := { clean := true }
theorem witness_WashSlots : ((cfgs up [(0xB000, 0)]).live = true ∧ (cfgs up [(0xB000, 0)]).cfgBit 0xB000 0 = false) ∧
    ((washing {} cleanRun).live = true ∧ (washing {} cleanRun).cfgBit 0xB000 0 = true ∧ (washing {} cleanRun).cfgBit 0xB000 1 = false ∧
      (washing {} cleanRun).wash.inSlot = false ∧ (washing {} cleanRun).power.brownout = false ∧ (washing {} cleanRun).power.devSafe = false ∧
      (washing {} cleanRun).cfgN 0xB004 ≤ ((washing {} cleanRun).tim.devTime - (washing {} cleanRun).wash.slotEnd).toNat ∧
      (washing {} cleanRun).washable (washing {} cleanRun).wash.pos = true ∧
      ((washing {} cleanRun).law (washLaw (washing {} cleanRun).wash.pos)).clean = true ∧
      ((washing {} cleanRun).law (washLaw (washing {} cleanRun).wash.pos)).flight = none) ∧
    ((cfgs (washing {} cleanRun) [(0xB000, 3)]).cfgBit 0xB000 1 = true ∧ (cfgs (washing {} cleanRun) [(0xB000, 3)]).shadowHolder ≠ none) ∧
    (((washing {} {}).law 0).clean = false ∧ (washing {} {}).washable (washing {} {}).wash.pos = true) ∧
    ((washing { inSlot := true, pos := 47 } { reps := #v[{}, {}, { st := .washed }] }).wash.inSlot = true ∧
      (((washing { inSlot := true, pos := 47 } { reps := #v[{}, {}, { st := .washed }] }).law (washLaw 47)).rep (washRep 47)).st = .washed ∧
      (washing { inSlot := true } {}).wash.shadow = none ∧ (washing { shadow := some (3, true) } {}).wash.shadow = some (3, true)) := by decide
def testing : State := { up with st := { busy := true, kind := 2, region := 2, cluster := 5, rep := 0xFF, tag := 5 } }
theorem witness_SelftestEnds : testing.live = true ∧ testing.testGuard = testing ∧ testing.st.busy = true ∧ testing.st.kind = 2 ∧
    testing.st.region = BitVec.ofNat 8 (regCode (brgReg .ta1)) ∧ testing.st.cluster = BitVec.ofNat 8 (brgClu .ta1) ∧ testing.st.rep = 0xFF ∧
    ([] : List UnitTest).find? (fun u => !unitOk u) = none ∧ up.st.busy = false ∧
    ([⟨3, 1, 0, 0, 5, 10⟩] : List UnitTest).find? (fun u => !unitOk u) = some ⟨3, 1, 0, 0, 5, 10⟩ := by decide

/-! ### Witnesses: the pair and CAN -/

/-- A paired device whose lanes are aligned and whose next crossing has alive counter 0. -/
def paired (f : Hawser → Hawser) : State :=
  let s := pars up [(hawId 0, one)]
  { s with haws := f { s.haws with aligned := 3, pair := .paired, pres := true, linkUp := true }, chks := s.chks.set 7 { s.chk 7 with alive := 0, ref := true } }
/-- A header with the CRC of its crossing. -/
def sealed (k : CrossKind) (ws : List Word) : CrossHdr := { hdr with crc := crc32c (crossBytes k hdr ws) }
theorem witness_CrossingsReceived : (up.live = true ∧ up.canReceive = false) ∧ ((paired id).live = true ∧ (paired id).canReceive = true ∧
    (paired id).haws.pair = .paired ∧ (0 : Byte) &&& ~~~(paired id).haws.mateFlags &&& 6 = 0 ∧ (0 : Byte).getLsbD 0 = false) ∧
    hdr.crc ≠ crc32c (crossBytes .idle hdr []) ∧
    ((sealed .idle []).crc = crc32c (crossBytes .idle (sealed .idle []) []) ∧ (sealed .idle []).mark = 0 ∧ (sealed .idle []).flags = 0) := by decide +kernel
def actMirror : MirrorBody := ⟨.act, 0, 0, List.replicate (mirrorLen .act) 0⟩
theorem witness_CrossingsAct : (paired id).live = true ∧ (paired id).canReceive = true ∧ (paired id).haws.pair = .paired ∧ ((paired id).chk 7).ref = true ∧
    ((paired id).chk 7).alive = hdr.alive ∧ (paired id).haws.linkUp = true ∧ (paired id).power.straps.pair = false ∧ (paired id).haws.adopt = false ∧
    ((paired id).modPower (fun p => { p with straps := ⟨true, false, false⟩ })).power.straps.pair = true ∧
    (paired (fun h => { h with linkUp := false })).haws.linkUp = false ∧
    (actMirror.region ≠ .hst ∧ actMirror.words.length = mirrorLen actMirror.region) := by decide
theorem witness_CrossingsAct_sealed (k : CrossKind) (ws : List Word) : (sealed k ws).crc = crc32c (crossBytes k (sealed k ws) ws) := rfl
def split (f : Hawser → Hawser) : State := paired (fun h => f { h with pair := .split, linkUp := false })
def mateHello (armed strap : Bool) (t : Word) : HelloBody := ⟨strap, t, #v[1, 1, 4, 4, 5, 2, 5], 5, 0, 0, armed⟩
theorem witness_HelloForms :
    ((split id).live = true ∧ (split id).canReceive = true ∧ (split id).haws.pair = .split ∧ ((split id).chk 7).ref = true ∧
      ((split id).chk 7).alive = hdr.alive ∧
      (split id).haws.linkUp = false ∧ (split id).helloFits (mateHello true true 40000) = true ∧ (split id).adopts (mateHello true true 40000) = true) ∧
    ((split id).adopts (mateHello false true 40000) = false ∧ (split id).canCross = true ∧ (split id).haws.sending = none) ∧
    (split id).helloFits (mateHello false true 40001) = false ∧
    ((paired (fun h => { h with pair := .split })).haws.pair = .split ∧ (paired (fun h => { h with pair := .split })).haws.linkUp = true ∧
      (paired (fun h => { h with pair := .split })).haws.timed = false ∧ (paired (fun h => { h with pair := .split })).haws.adopt = false ∧
      ((paired (fun h => { h with pair := .split })).modPower (fun p => { p with straps := ⟨true, false, false⟩ })).power.straps.pair = true) := by decide
theorem witness_LinkLoss :
    ((paired id).live = true ∧ (paired id).pairOn = true ∧ (paired id).mateGone = false) ∧
    ((paired (fun h => { h with pres := false })).mateGone = true ∧ (paired (fun h => { h with pres := false })).haws.pair = .paired) ∧
    up.pairOn = false ∧ (paired (fun h => { h with pair := .carrying })).haws.pair = .carrying ∧ ((split id).haws.pair = .split ∧ (split id).haws.linkUp = false ∧ (split id).haws.mpFault = false) ∧
    ((paired (fun h => { h with pres := false, mateHealth := some ⟨Vector.replicate 7 0, 0, 0, 0, 2, 0⟩ })).mateWell = true ∧
      (paired (fun h => { h with pres := false })).haws.pres = false) ∧ (paired id).haws.pres = true := by decide
def sending (k : CrossKind) (q : List OutCross) (n : Nat) : State := paired (fun h => { h with sending := some k, queue := q, farewells := n })
theorem witness_CrossingsSent : (up.live = true ∧ up.canCross = false) ∧
    ((paired id).canCross = true ∧ (paired id).haws.timingTide ≠ some (paired id).tim.tideIndex ∧ (paired id).haws.sending = none) ∧
    (paired (fun h => { h with timingTide := some 0 })).haws.timingTide = some (paired id).tim.tideIndex ∧
    ((sending .idle [] 0).canCross = true ∧ (sending .idle [] 0).haws.sending = some .idle ∧ (sending .idle [] 0).haws.queue = []) ∧
    ((sending .idle [⟨.mirror, []⟩, ⟨.timing, []⟩] 0).haws.queue = [⟨.mirror, []⟩, ⟨.timing, []⟩] ∧ crossRank .timing < crossRank .mirror) ∧
    ((paired (fun h => { h with sending := some .idle, silent := true })).canCross = false) ∧
    ((sending .farewell [] 1).haws.sending = some .farewell ∧ (sending .farewell [] 1).haws.farewells = 1) := by decide

def cans (x : Can) (s : State) : State := { s with cans := Vector.replicate 3 x }
def frame (chk : Byte) (tries : Nat) : TxFrame :=
  { ident := 5, fdf := false, brs := false, data := [1, 2], chk := chk, tag := 9, note := true, size := 1, tries := tries }
def canWord (w v : Nat) (s : State) : State := pars s [(canParId 0 w, F.ofNat v)]
def onBus : Can := { st := .active }
theorem witness_CanTransmission : (up.live = true ∧ up.canOn 0 = false) ∧ ((cans onBus up).canOn 0 = true ∧ ((cans onBus up).can 0).queue = []) ∧
    (((cans { onBus with queue := [frame 0xFF 0] } up).can 0).queue = frame 0xFF 0 :: [] ∧ (cans { onBus with queue := [frame 0xFF 0] } up).freeBuf 0 = some 0) ∧
    ((cans { onBus with queue := [frame 3 0] } up).canOn 0 = true ∧ (cans { onBus with queue := [frame 3 0] } up).freeBuf 0 = some 0 ∧
      (cans { onBus with queue := [frame 3 0] } up).chkIso = false ∧ (cans onBus up).canPar 0 0x0C = 0) ∧
    (({ cans { onBus with queue := [frame 3 0] } up with chkIso := true } : State).chkIso = true ∧ (frame 3 0).chk ≠ 0xFF) ∧
    (((cans onBus up).can 0).bufs[(2 : Fin 3)] = none) ∧
    (((cans { onBus with bufs := Vector.replicate 3 (some (frame 0xFF 2)) } up).can 0).bufs[(2 : Fin 3)] = some (frame 0xFF 2)) ∧
    ((canWord 0x0D 3 up).canPar 0 0x0D ≠ 0 ∧ (frame 0xFF 2).tries < (canWord 0x0D 3 up).canPar 0 0x0D ∧
      (canWord 0x0D 2 up).canPar 0 0x0D ≤ (frame 0xFF 2).tries ∧ (canWord 0x0D 0 up).canPar 0 0x0D = 0) ∧
    (onBus.txErr.toNat + 8 < 256 ∧ 256 ≤ ({ onBus with txErr := 248 } : Can).txErr.toNat + 8) := by decide
def classic : CanFrame := ⟨5, false, false, 3, [1, 2, 3]⟩
def filtered (s : State) : State := canWord 0x20 1 (canWord 0x22 0 (canWord 0x23 0 s))
def ringed : State := cfgs (master (filtered (cans onBus up))) [(0x2048 + 0x10 * 5, 0x102)]
theorem witness_CanReception : (up.canOn 0 = false ∧ up.live = true) ∧
    ((cans onBus up).canOn 0 = true ∧ (classic.fdf = true → (cans onBus up).canPar 0 1 ≠ 0) ∧ (cans onBus up).fltFind 0 classic.ident = none) ∧
    (ringed.live = true ∧ ringed.canOn 0 = true ∧ ringed.fltFind 0 classic.ident = some 0 ∧ ringed.canPar 0 0x23 / 4 = 0 ∧ ringed.ringOpen 5 = true ∧
      (rxEntries 0 0 0 0 classic [1, 2, 3] 0).length ≤ ringFree ringed 5) ∧
    ((filtered (cans onBus up)).fltFind 0 classic.ident = some 0 ∧ (filtered (cans onBus up)).ringOpen 5 = false) ∧
    ((canWord 0x23 12 ringed).fltFind 0 classic.ident = some 0 ∧ (canWord 0x23 12 ringed).canPar 0 0x23 / 4 ≠ 0 ∧
      (canWord 0x23 12 ringed).ringOpen 5 = true ∧ (rxEntries 0 0 0 0 classic [1, 2, 3] 4).length ≤ ringFree (canWord 0x23 12 ringed) 5 ∧
      (canWord 0x23 12 ringed).chkIso = false ∧ ({ canWord 0x23 12 ringed with chkIso := true } : State).chkIso = true) ∧
    ((cans onBus up).canPar 0 1 = 0 ∧ ((cans onBus up).can 0).excTold = false) := by decide
theorem witness_CanErrorStates : (up.live = true ∧ (cans onBus up).canOn 0 = true ∧ ((cans onBus up).can 0).st = .active) ∧ up.canOn 0 = false ∧
    (((cans { st := .busOff, recovering := true } up).can 0).st = .busOff ∧ ((cans { st := .busOff, recovering := true } up).can 0).recovering = true) := by
  decide

end Sys2Proof.Tests
end

/-! # PROOFS. Timing marks and islands (R54, R58 to R60) -/

/-! ### The order of writing (R442) -/

namespace Sys2Proof.Machine

theorem insertEv_perm (e : Event) (xs : List Event) : (insertEv e xs).Perm (e :: xs) := by
  induction xs with
  | nil => exact .refl _
  | cons x xs ih =>
    unfold insertEv
    split
    · exact .refl _
    · exact (ih.cons x).trans (.swap e x xs)

theorem foldl_insertEv_perm (es acc : List Event) : (es.foldl (fun acc e => insertEv e acc) acc).Perm (es ++ acc) := by
  induction es generalizing acc with
  | nil => exact .refl _
  | cons e es ih => exact ((ih _).trans ((insertEv_perm e acc).append_left es)).trans List.perm_middle

/-- Writing in order loses no detected event and adds none. -/
theorem sortEv_perm (es : List Event) : (sortEv es).Perm es := by
  simpa [sortEv] using foldl_insertEv_perm es []

/-! ### Commands that answer `done` -/

/-- Where ring 3 takes events hangs on the host interface and the setup registers alone. -/
theorem eventsOpen_congr {s u : State} (hh : u.host = s.host) (hs : u.setup = s.setup) : u.eventsOpen = s.eventsOpen := by
  simp only [State.eventsOpen, State.mastering, ringEnabled, State.cfgBit, State.cfgN, State.cfg, hh, hs]

/-- A meaning that leaves the queue, the parameters and the setup registers completes with its events written. -/
theorem completes_of_done {c : Instr} {s u : State} {P : State → Prop} (h : exec c s = done s u)
    (hq : u.pending = s.pending) (hp : u.params = s.params) (hset : u.setup = s.setup) (hsp : u.setupPend = s.setupPend)
    (hP : P u.finish) : Completes c s P := by
  refine ⟨u.finish, ?_, hP⟩
  rw [h, done_eq, ← hq, ← hp, ← hset, ← hsp, finish_hostOnly u]

/-- Of a command that detects few events and leaves the host interface to `finish`, the start log takes each one. -/
theorem logs_finish {s u : State} {e : Event} (hh : u.host = s.host) (hs : u.setup = s.setup) (he : s.evq = [] → e ∈ u.evq)
    (hn : s.evq = [] → u.evq.length ≤ 14) : Logs s u.finish e := by
  rintro ⟨hevq, hstop, hopen, hlen, -⟩
  have hfew := hn hevq
  rw [finish_log u (by rw [hh, hstop]) (by rw [eventsOpen_congr hh hs, hopen]) (by rw [(sortEv_perm u.evq).length_eq, hh]; omega)]
  exact List.mem_append_right _ ((sortEv_perm u.evq).mem_iff.mpr (he hevq))

theorem finish_keepsSensing {s u : State} (h : KeepsSensing s u) : KeepsSensing s u.finish := by
  rw [finish_hostOnly u]
  exact h

/-! ### What DEVICE-SAFE detects and leaves alone (R39) -/

theorem SafeOnly.pending {s t : State} (h : SafeOnly s t) : t.pending = s.pending := by unfold SafeOnly at h; rw [h]
theorem SafeOnly.tim {s t : State} (h : SafeOnly s t) : t.tim = s.tim := by unfold SafeOnly at h; rw [h]
theorem SafeOnly.setup {s t : State} (h : SafeOnly s t) : t.setup = s.setup := by unfold SafeOnly at h; rw [h]

/-- Power, transactions and the host interface stand, and at most `n` events are detected after those of before. -/
def Detects (n : Nat) (s t : State) : Prop :=
  (t.power = s.power ∧ t.txn = s.txn ∧ t.host = s.host) ∧ s.evq <+: t.evq ∧ t.evq.length ≤ s.evq.length + n

/-- What touches none of them detects nothing. -/
theorem Detects.of_same {s t : State} (hp : t.power = s.power) (ht : t.txn = s.txn) (hh : t.host = s.host) (he : t.evq = s.evq) :
    Detects 0 s t := ⟨⟨hp, ht, hh⟩, he ▸ List.prefix_refl _, Nat.le_of_eq (congrArg List.length he)⟩

theorem Detects.mono {m n : Nat} {s t : State} (h : Detects m s t) (hmn : m ≤ n) : Detects n s t := by
  obtain ⟨hsame, hpre, hlen⟩ := h
  exact ⟨hsame, hpre, by omega⟩

theorem Detects.refl (n : Nat) (s : State) : Detects n s s := (Detects.of_same rfl rfl rfl rfl).mono (Nat.zero_le n)

theorem Detects.trans {m n : Nat} {s t u : State} (h : Detects m s t) (k : Detects n t u) : Detects (m + n) s u := by
  obtain ⟨⟨hp, ht, hh⟩, hpre, hlen⟩ := h
  obtain ⟨⟨kp, kt, kh⟩, kpre, klen⟩ := k
  exact ⟨⟨kp.trans hp, kt.trans ht, kh.trans hh⟩, hpre.trans kpre, by omega⟩

theorem raiseCls_detects (s : State) (c : Cause) (cls : RClass) (reg clu unit : Nat) (d0 d1 : Word) (tag : Half) :
    Detects 1 s (s.raiseCls c cls reg clu unit d0 d1 tag) := by
  refine ⟨⟨rfl, rfl, rfl⟩, ?_, ?_⟩
  · rw [raiseCls_evq]
    exact List.prefix_append _ _
  · rw [raiseCls_evq, List.length_append, List.length_singleton]

theorem modReg_detects (s : State) (r : RegionId) (f : Region → Region) : Detects 0 s (s.modReg r f) := .of_same rfl rfl rfl rfl
theorem modTr_detects (s : State) (x : Side) (f : Traction → Traction) : Detects 0 s (s.modTr x f) := .of_same rfl rfl rfl rfl
theorem modSpan_detects (s : State) (f : Span → Span) : Detects 0 s (s.modSpan f) := .of_same rfl rfl rfl rfl
theorem modChg_detects (s : State) (f : Charger → Charger) : Detects 0 s (s.modChg f) := .of_same rfl rfl rfl rfl
theorem modBrake_detects (s : State) (f : Brake → Brake) : Detects 0 s (s.modBrake f) := .of_same rfl rfl rfl rfl
theorem modHaws_detects (s : State) (f : Hawser → Hawser) : Detects 0 s (s.modHaws f) := .of_same rfl rfl rfl rfl
theorem modChk_detects (s : State) (n : ChkId) (f : Chk → Chk) : Detects 0 s (s.modChk n f) := .of_same rfl rfl rfl rfl
theorem modWash_detects (s : State) (f : Wash → Wash) : Detects 0 s (s.modWash f) := .of_same rfl rfl rfl rfl

theorem BridgesOnly.detects {s t : State} (h : BridgesOnly s t) : Detects 0 s t := by
  unfold BridgesOnly at h
  exact .of_same (by rw [h]) (by rw [h]) (by rw [h]) (by rw [h])

theorem LawsOnly.detects {s t : State} (h : LawsOnly s t) : Detects 0 s t := by
  unfold LawsOnly at h
  exact .of_same (by rw [h]) (by rw [h]) (by rw [h]) (by rw [h])

/-- The turns of `each` detect together what each of them may. -/
theorem each_detects {α : Type} {w : α → Nat} {f : State → α → State} (hf : ∀ s x, Detects (w x) s (f s x)) (xs : List α) (s : State) :
    Detects (xs.map w).sum s (each xs f s) := by
  induction xs generalizing s with
  | nil => exact .refl 0 s
  | cons x xs ih =>
    rw [List.map_cons, List.sum_cons]
    exact (hf s x).trans (ih (f s x))

theorem abandonTest_detects (s : State) (rank : Nat) : Detects 1 s (s.abandonTest rank) := by
  unfold State.abandonTest
  split
  · exact .refl 1 s
  · exact (modSpan_detects s _).trans (raiseCls_detects _ _ _ _ _ _ _ _ _)

theorem washNext_detects (s : State) : Detects 1 s s.washNext := by
  unfold State.washNext
  split
  · exact (modWash_detects s _).mono (Nat.zero_le 1)
  · exact (modWash_detects s _).trans (raiseCls_detects _ _ _ _ _ _ _ _ _)

theorem washAbort_detects (s : State) (r : RegionId) : Detects 1 s (s.washAbort r) := by
  unfold State.washAbort
  split
  · exact ((washBack_only s _ _).detects.trans (modWash_detects _ _)).trans (washNext_detects _)
  · exact .refl 1 s

theorem abortBrakeTest_detects (s : State) : Detects 1 s s.abortBrakeTest := by
  unfold State.abortBrakeTest
  split
  · exact .refl 1 s
  · exact (modBrake_detects s _).trans (raiseCls_detects _ _ _ _ _ _ _ _ _)

theorem brakeOff_detects (s : State) (tag : Half) : Detects 2 s (s.brakeOff tag) := by
  unfold State.brakeOff
  extract_lets was s1 s2
  have h1 : Detects 0 s s1 := modBrake_detects s _
  have h2 : Detects 1 s s2 := h1.trans (raiseCls_detects s1 _ _ _ _ _ _ _ _)
  split
  · split
    · exact h2.trans (raiseCls_detects s2 _ _ _ _ _ _ _ _)
    · exact h2.mono (Nat.le_succ 1)
  · exact h1.mono (Nat.zero_le 2)

theorem select_each_detects (bs : List BridgeId) (o : OutSel) (s : State) : Detects 0 s (each bs (State.select · o) s) :=
  (each_induct BridgesOnly (fun _ => rfl) BridgesOnly.trans _ (fun u b => select_only u o b) bs s).detects

/-- No region's safe state but that of HST touches the host interface, and none detects an event (R32). -/
theorem safeState_detects (s : State) (r : RegionId) (h : r ≠ .hst) : Detects 0 s (s.safeState r) := by
  cases r with
  | hst => exact absurd rfl h
  | sup => exact .refl 0 s
  | act => exact .refl 0 s
  | tra => exact modTr_detects s .a _
  | trb => exact modTr_detects s .b _
  | spn =>
    unfold State.safeState
    have hoff := (select_each_detects spanBridges .off s).trans (setRunNext_only _ 6 .stopped).detects
    exact (hoff.trans (modSpan_detects _ _)).trans (drive_only _ .bch).detects
  | chg =>
    unfold State.safeState
    have hend : Detects 0 s (s.endSession .fault) := modChg_detects s _
    have hlaw8 := (hend.trans (select_each_detects (regBridges .chg) .off _)).trans (setRunNext_only _ 8 .tracking).detects
    have hlaw10 := (hlaw8.trans (setRunNext_only _ 9 .stopped).detects).trans (setRunNext_only _ 10 .running).detects
    exact hlaw10.trans (modChg_detects _ _)

theorem queueCross_detects (s : State) (k : CrossKind) (p : List Word) : Detects 0 s (s.queueCross k p) := by
  unfold State.queueCross
  split
  · exact .refl 0 s
  split
  · exact (modHaws_detects s _).trans (modChk_detects _ 6 _)
  · exact modHaws_detects s _

theorem farewell_detects (s : State) : Detects 0 s s.farewell := by
  unfold State.farewell
  split
  · exact (((modHaws_detects s _).trans (queueCross_detects _ _ _)).trans (queueCross_detects _ _ _)).trans (queueCross_detects _ _ _)
  · exact .refl 0 s

/-- One region's turn in the entry of DEVICE-SAFE. -/
def State.safeTurn (code : Half) (s : State) (r : RegionId) : State :=
  if s.isSafe r then s
  else
    (if r = .hst then s else (((if r = .spn then s.abandonTest 1 else s).washAbort r).endHalts r).safeState r).modReg r
      (fun x => { x with safe := decide (r ≠ .hst ∧ r ≠ .sup), cause := code, halted := false, haltReq := false })

/-- The first of an entry to DEVICE-SAFE: its cause is latched, `OK_OUT` goes low, and the marker is detected. -/
def State.markSafe (code : Half) (s : State) : State :=
  (s.modPower (fun p => { p with devSafe := true, devCause := code, okOut := false })).raisePkg evDeviceSafeEntered
    (wd code.toNat) s.tim.tideIndex

/-- DEVICE-SAFE by its parts: the marker, the regions in turn, the brake, the FAREWELLs (R39). -/
theorem deviceSafe_eq (s : State) (code : Half) (h : s.power.devSafe = false) :
    s.deviceSafe code = ((each allRegs (State.safeTurn code) (s.markSafe code)).abortBrakeTest.brakeOff 0).farewell := by
  unfold State.deviceSafe
  rw [if_neg (by rw [h]; exact Bool.false_ne_true)]
  rfl

/-- How many events a region's turn may detect: an end of a wash rotation, and in SPN a refused command too. -/
def turnEvents (r : RegionId) : Nat := if r = .spn then 2 else 1

theorem safeTurn_detects (code : Half) (s : State) (r : RegionId) : Detects (turnEvents r) s (s.safeTurn code r) := by
  have hsafe : ∀ u : State, r ≠ .hst → Detects 1 u (((u.washAbort r).endHalts r).safeState r) := fun u hr =>
    ((washAbort_detects u r).trans (endHalts_only _ r).detects).trans (safeState_detects _ r hr)
  unfold State.safeTurn
  by_cases hin : s.isSafe r = true
  · rw [if_pos hin]
    exact .refl _ s
  rw [if_neg hin]
  refine Detects.trans (m := turnEvents r) (n := 0) ?_ (modReg_detects _ r _)
  by_cases hhst : r = .hst
  · rw [if_pos hhst]
    exact .refl _ s
  rw [if_neg hhst]
  unfold turnEvents
  by_cases hspn : r = .spn
  · rw [if_pos hspn, if_pos hspn]
    exact (abandonTest_detects s 1).trans (hsafe _ hhst)
  · rw [if_neg hspn, if_neg hspn]
    exact hsafe s hhst

/-- After its marker the entry to DEVICE-SAFE detects at most eleven events, and leaves power, transactions and the host interface. -/
theorem deviceSafe_detects (s : State) (code : Half) (h : s.power.devSafe = false) :
    Detects 11 (s.markSafe code) (s.deviceSafe code) := by
  rw [deviceSafe_eq s code h]
  exact (((each_detects (safeTurn_detects code) allRegs _).trans (abortBrakeTest_detects _)).trans (brakeOff_detects _ 0)).trans
    (farewell_detects _)

/-- DEVICE-SAFE stands after its cause, under the code of the first one. -/
theorem deviceSafe_inSafe (s : State) (code : Half) : InSafe s (s.deviceSafe code) .sup code := by
  cases h : s.power.devSafe with
  | true =>
    rw [deviceSafe_twice s code h]
    exact ⟨h, fun h' => absurd (h.symm.trans h') (by decide)⟩
  | false =>
    obtain ⟨⟨hpow, -, -⟩, -⟩ := deviceSafe_detects s code h
    exact ⟨by rw [hpow]; rfl, fun _ => by rw [hpow]; rfl⟩

/-- The entry to DEVICE-SAFE leaves transactions and the host interface, and adds at most twelve events to those detected. -/
theorem deviceSafe_reports (s : State) (code : Half) :
    (s.deviceSafe code).txn = s.txn ∧ (s.deviceSafe code).host = s.host ∧
    s.evq <+: (s.deviceSafe code).evq ∧ (s.deviceSafe code).evq.length ≤ s.evq.length + 12 := by
  cases h : s.power.devSafe with
  | true =>
    rw [deviceSafe_twice s code h]
    exact ⟨rfl, rfl, List.prefix_refl _, Nat.le_add_right _ _⟩
  | false =>
    have hmark : (s.markSafe code).evq = s.evq ++ [_] := rfl
    obtain ⟨⟨-, htxn, hhost⟩, hpre, hlen⟩ := deviceSafe_detects s code h
    rw [hmark, List.length_append, List.length_singleton] at hlen
    exact ⟨htxn, hhost, (List.prefix_append _ _).trans (hmark ▸ hpre), by omega⟩

/-! ### Islands that run free (R60) -/

theorem stepUp_tim (s : State) : s.stepUp.tim = s.tim := by
  unfold State.stepUp
  split <;> rfl

/-- A mark neither aligns nor steers islands that run free. -/
theorem markAt_freeRun (s : State) (t : Time) (h : s.tim.freeRun = true) :
    (s.markAt t).tim.aligned = s.tim.aligned ∧ (s.markAt t).tim.steer = s.tim.steer := by
  unfold State.markAt
  split
  · exact ⟨rfl, rfl⟩
  · rw [h, Bool.not_true, Bool.and_false, if_neg Bool.false_ne_true, stepUp_tim, timeTo_only s t]
    simp [State.modTim, h]

theorem timingMark_freeRun (s : State) (h : s.tim.freeRun = true) :
    Completes .timingMark s (fun u => u.tim.aligned = s.tim.aligned ∧ u.tim.steer = s.tim.steer) := by
  have hexec : exec .timingMark s = done s (if s.live then s.markAt (s.tim.lastMark + 4000) else s) := rfl
  refine ⟨_, hexec.trans (done_eq _ _), ?_⟩
  simp only [finish_tim]
  split
  · exact markAt_freeRun s _ h
  · exact ⟨rfl, rfl⟩

/-- No outstanding steering moves the tide boundary of islands that run free. -/
theorem boundaryTime_freeRun (s : State) (h : s.tim.freeRun = true) :
    s.boundaryTime = s.tim.tideStart + BitVec.ofNat 64 s.tideTicks := by
  unfold State.boundaryTime
  rw [h, Bool.or_true]
  rfl

/-! ### MARK_LOST -/

/-- The first of MARK_LOST: it is detected against the tide master, and the islands run free. -/
def State.markMissed (s : State) : State := (s.modTim (fun t => { t with freeRun := true })).raise evMarkLost 0 4 0xFF 0 0

/-- MARK_LOST by its parts: a cluster fault of SUP is DEVICE-SAFE at once (R32). -/
theorem doMarkLost_eq (s : State) : doMarkLost s = s.markMissed.deviceSafe (codeOf 1 0 0x42) := rfl

theorem doMarkLost_safeOnly (s : State) : SafeOnly { s with tim := { s.tim with freeRun := true } } (doMarkLost s) := by
  rw [doMarkLost_eq]
  exact SafeOnly.trans (t := s.markMissed) rfl (deviceSafe_only s.markMissed _)

theorem doMarkLost_keepsSensing (s : State) :
    KeepsSensing { s with tim := { s.tim with freeRun := true } } (doMarkLost s) :=
  (doMarkLost_safeOnly s).keeps (deviceSafe_reports s.markMissed _).1

/-- The record of MARK_LOST is among the events detected. -/
theorem doMarkLost_logs (s : State) : Logs s (doMarkLost s).finish (s.event (codeOf 1 0 0x42) .regionSafe 4 0xFF 0 0 0) := by
  obtain ⟨-, hhost, hpre, hlen⟩ := deviceSafe_reports s.markMissed (codeOf 1 0 0x42)
  have hevq : s.markMissed.evq = s.evq ++ [s.event (codeOf 1 0 0x42) .regionSafe 4 0xFF 0 0 0] := rfl
  refine logs_finish hhost (doMarkLost_safeOnly s).setup (fun _ => hpre.subset ?_) (fun h0 => hlen.trans ?_)
  · rw [hevq]
    exact List.mem_append_right _ (List.mem_singleton_self _)
  · rw [hevq, h0]
    exact Nat.le_succ 13

/-- Settles O27: the missed mark is a SUP fault and so DEVICE-SAFE, whose entry leaves timing to the free run that MARK_LOST starts. -/
theorem markLost : Obligations.MarkLost := by
  unfold Obligations.MarkLost
  intro s hlive
  have hexec : exec .markLost s = done s (doMarkLost s) := by
    rw [exec_markLost]
    unfold execMarkLost whenLive
    rw [hlive]
    rfl
  have hkeep := doMarkLost_keepsSensing s
  obtain ⟨-, hset, hsp, hpar, -⟩ := hkeep.1
  have htim : (doMarkLost s).finish.tim = { s.tim with freeRun := true } := by rw [finish_tim, (doMarkLost_safeOnly s).tim]
  have hfree : (doMarkLost s).finish.tim.freeRun = true := by rw [htim]
  refine completes_of_done hexec (doMarkLost_safeOnly s).pending hpar hset hsp ⟨htim, ?_, doMarkLost_logs s, ?_, ?_, ?_⟩
  · rw [finish_hostOnly, doMarkLost_eq]
    exact deviceSafe_inSafe s.markMissed (codeOf 1 0 0x42)
  · rw [htim]
    exact finish_keepsSensing hkeep
  · have hmark := timingMark_freeRun _ hfree
    rwa [htim] at hmark
  · have hsetup : (doMarkLost s).finish.setup = s.setup := by rw [finish_setup, hset]
    rw [boundaryTime_freeRun _ hfree, htim]
    unfold State.tideTicks State.cfgN State.cfg
    rw [hsetup]

end Sys2Proof.Machine

/-! # PROOFS. The brake and the gate block (R309, R311, R313) -/

namespace Sys2Proof.Machine

/-! ### Torque-off commands -/

/-- Beside the torque-off block, only what the safe state of a region may touch changes. -/
def LandsOnly (s t : State) : Prop := SafeOnly { s with sto := t.sto } t

theorem SafeOnly.sto {s t : State} (h : SafeOnly s t) : t.sto = s.sto := by unfold SafeOnly at h; rw [h]

theorem SafeOnly.lands {s t : State} (h : SafeOnly s t) : LandsOnly s t := by
  unfold LandsOnly
  rw [h.sto]
  exact h

theorem LandsOnly.trans {s t u : State} (h : LandsOnly s t) (k : LandsOnly t u) : LandsOnly s u := by
  unfold LandsOnly SafeOnly at *
  rw [k, h]

theorem modSto_lands (s : State) (f : Sto → Sto) : LandsOnly s (s.modSto f) := .refl _

theorem LandsOnly.params {s t : State} (h : LandsOnly s t) : t.params = s.params := by unfold LandsOnly SafeOnly at h; rw [h]

theorem parOn_congr {s t : State} (h : t.params = s.params) (i : Nat) : t.parOn i = s.parOn i := by
  unfold State.parOn State.par
  rw [h]

theorem lawP_congr {s t : State} (h : t.params = s.params) (l : LawId) (w : Nat) : t.lawP l w = s.lawP l w := by
  unfold State.lawP State.par
  rw [h]

theorem whenLive_of_live {s : State} (h : s.live = true) (f : State → State) : whenLive s f = done s (f s) := by
  unfold whenLive
  rw [if_pos h]

/-- Out of reset a torque-off command completes with its meaning, and with its events written. -/
theorem completes_of_lands {c : Instr} {s : State} {f : State → State} {P : State → Prop} (hexec : exec c s = whenLive s f)
    (hlive : s.live = true) (hf : LandsOnly s (f s)) (hP : P (f s).finish) : Completes c s P := by
  unfold LandsOnly SafeOnly at hf
  exact completes_of_done (hexec.trans (whenLive_of_live hlive f)) (by rw [hf]) (by rw [hf]) (by rw [hf]) (by rw [hf]) hP

/-! ### What the beginning of the block does outside the brake (R206, R308, R309) -/

theorem driveBlocked_only (s : State) : BridgesOnly s s.driveBlocked :=
  each_induct BridgesOnly (fun _ => rfl) BridgesOnly.trans _ drive_only _ s

theorem selectSide_only (s : State) (x : Side) (o : OutSel) : BridgesOnly s (s.selectSide x o) :=
  each_induct BridgesOnly (fun _ => rfl) BridgesOnly.trans _ (fun u b => select_only u o b) _ s

theorem SafeOnly.leaveHold {s t : State} (h : SafeOnly s t) (x : Side) (m : TrMode) : SafeOnly s (t.leaveHold x m) := by
  unfold State.leaveHold
  split
  · exact h.abortBrakeTest
  · exact h

theorem SafeOnly.trLaws {s t : State} (h : SafeOnly s t) (x : Side) (foc speed : RunState) : SafeOnly s (t.trLaws x foc speed) :=
  ((h.setRun _ foc).setRun _ speed).setRun _ .running

/-- What the entry to FREE touches (R203). -/
theorem trEnterFree_only (s : State) (x : Side) : SafeOnly s (s.trEnter x .free) :=
  ((((SafeOnly.refl s).leaveHold x .free).modTr x _).trans (selectSide_only _ x .off).safe).trLaws x .tracking .tracking

theorem SafeOnly.blockTraction {s t : State} (h : SafeOnly s t) (x : Side) : SafeOnly s (t.blockTraction x) := by
  unfold State.blockTraction State.blockFree
  dsimp only
  split
  · exact (h.trans (trEnterFree_only t x)).raiseReg _ _ _ _
  · exact h

theorem SafeOnly.raise {s t : State} (h : SafeOnly s t) (c : Cause) (reg clu unit : Nat) (d0 d1 : Word) :
    SafeOnly s (t.raise c reg clu unit d0 d1) := h.raiseCls c c.cls reg clu unit d0 d1 0

/-- The block but for the brake's application: gates off, a brake test aborted, modes left. -/
def State.blockModes (s : State) : State :=
  let s1 := ((s.modSto (fun t => { t with block := true })).driveBlocked).raise evSafeEnBlock 0 0xF 0xFF 0 0
  (((s1.abortBrakeTest).blockTraction .a).blockTraction .b).blockSpan

theorem blockModes_only (s : State) : SafeOnly (s.modSto (fun t => { t with block := true })) s.blockModes := by
  unfold State.blockModes State.blockSpan
  extract_lets s1
  have h1 : SafeOnly (s.modSto (fun t => { t with block := true })) s1 := (driveBlocked_only _).safe.raise evSafeEnBlock _ _ _ _ _
  exact (((h1.abortBrakeTest).blockTraction .a).blockTraction .b).abandonTest 3

theorem blockModes_lands (s : State) : LandsOnly s s.blockModes := (modSto_lands s _).trans (blockModes_only s).lands

/-- The block by its parts: what it does to gates and modes, then the brake (R313). -/
theorem beginBlock_eq (s : State) : s.beginBlock =
    if s.parOn (lawId 15 0x2C) then
      (if F.isZero (s.lawP 15 0x2D) then s.blockModes.brakeOff 0 else s.blockModes.modSto (fun t => { t with delay := true }))
    else s.blockModes := by
  have hpar := (blockModes_lands s).params
  rw [← parOn_congr hpar, ← lawP_congr hpar]
  rfl

/-- With `BRK_ON_STO` = 1 and `BRK_STO_DELAY` = 0 the brake is applied as the block begins (R313). -/
theorem beginBlock_atOnce (s : State) (hon : s.parOn (lawId 15 0x2C) = true) (hzero : F.isZero (s.lawP 15 0x2D) = true) :
    s.beginBlock = s.blockModes.brakeOff 0 := by
  rw [beginBlock_eq, if_pos hon, if_pos hzero]

/-- With `BRK_ON_STO` = 1 and another `BRK_STO_DELAY` the delay starts as the block begins (R313). -/
theorem beginBlock_delayed (s : State) (hon : s.parOn (lawId 15 0x2C) = true) (hdelay : F.isZero (s.lawP 15 0x2D) = false) :
    s.beginBlock = s.blockModes.modSto (fun t => { t with delay := true }) := by
  rw [beginBlock_eq, if_pos hon, hdelay, if_neg Bool.false_ne_true]

/-! ### The falling edge of a land (R309, R311) -/

theorem landLevel_lands (s : State) (land : Fin 2) (v : Bool) : LandsOnly s (s.landLevel land v) := modSto_lands s _

/-- A land's level neither begins nor ends the block. -/
theorem landLevel_block (s : State) (land : Fin 2) (v : Bool) : (s.landLevel land v).sto.block = s.sto.block := by
  unfold State.landLevel
  rw [modSto_sto]
  dsimp only
  split <;> rfl

/-- The first land to fall begins the block. -/
theorem doSafeEnFall_begins (s : State) (land : Fin 2) (h : s.sto.block = false) :
    doSafeEnFall land s = (s.landLevel land false).beginBlock :=
  if_neg (by rw [h]; exact Bool.false_ne_true)

/-! ### The brake off (R303, R313) -/

/-- The brake is applied, no pull-in runs, and both switches are off. -/
def Brake.isOff (b : Brake) : Prop := b.mode = .applied ∧ b.pulling = false ∧ b.hs = false ∧ b.ls = false

theorem brakeOff_pulling (s : State) (tag : Half) : (s.brakeOff tag).brake.pulling = false := by
  unfold State.brakeOff
  dsimp only
  split
  · split <;> rfl
  · rfl

theorem brakeOff_isOff (s : State) (tag : Half) : (s.brakeOff tag).brake.isOff := by
  obtain ⟨hmode, hhs, hls⟩ := brakeOff_brake s tag
  exact ⟨hmode, brakeOff_pulling s tag, hhs, hls⟩

/-- The delay passes while the block holds: it is over, and the brake is applied. -/
theorem doBrkStoDelay_passed (s : State) (hb : s.sto.block = true) (hd : s.sto.delay = true) (hon : s.parOn (lawId 15 0x2C) = true) :
    doBrkStoDelay s = (s.modSto (fun t => { t with delay := false })).brakeOff 0 :=
  if_pos (by rw [hb, hd, hon]; rfl)

/-- Without a block, a running delay and `BRK_ON_STO` = 1, nothing comes of it. -/
theorem doBrkStoDelay_idle (s : State) (h : (s.sto.block && s.sto.delay && s.parOn (lawId 15 0x2C)) = false) : doBrkStoDelay s = s :=
  if_neg (by rw [h]; exact Bool.false_ne_true)

/-! ### The end of the block (R311, R313) -/

theorem driveBlocked_brake (s : State) : s.driveBlocked.brake = s.brake := by
  have h := driveBlocked_only s
  unfold BridgesOnly at h
  rw [h]

/-- The end of the block: its delay goes with it, and the blocked bridges follow. -/
def State.endBlock (s : State) : State :=
  ((s.modSto (fun t => { t with block := false, delay := false })).driveBlocked).raise evSafeEnRelease 0 0xF 0xFF 0 0

theorem endBlock_only (s : State) : SafeOnly (s.modSto (fun t => { t with block := false, delay := false })) s.endBlock :=
  (driveBlocked_only _).safe.raise evSafeEnRelease _ _ _ _ _

theorem endBlock_brake (s : State) : s.endBlock.brake = s.brake := by
  unfold State.endBlock State.raise
  rw [raiseCls_brake, driveBlocked_brake, modSto_brake]

/-- A release ends the block, or changes nothing. -/
theorem doSafeEnRelease_cases (s : State) : doSafeEnRelease s = s.endBlock ∨ doSafeEnRelease s = s := by
  unfold doSafeEnRelease
  split
  · exact .inl rfl
  · exact .inr rfl

/-! ### The obligation, clause by clause -/

section Clauses
variable {s : State} (hlive : s.live = true)
include hlive

theorem brkStoDelay_applies (hb : s.sto.block = true) (hd : s.sto.delay = true) (hon : s.parOn (lawId 15 0x2C) = true) :
    Completes .brkStoDelay s (fun t => t.brake.isOff ∧ t.sto = { s.sto with delay := false } ∧
      SameButHost { s with sto := t.sto, brake := t.brake } t) := by
  have hdo := doBrkStoDelay_passed s hb hd hon
  have honly := brakeOff_only (s.modSto (fun t => { t with delay := false })) 0
  have hlands : LandsOnly s (doBrkStoDelay s) := by
    rw [hdo]
    exact (modSto_lands s _).trans ((SafeOnly.refl _).brakeOff 0).lands
  refine completes_of_lands (exec_brkStoDelay s) hlive hlands ?_
  rw [hdo, finish_brake, finish_sto]
  refine ⟨brakeOff_isOff _ 0, by rw [honly]; rfl, ?_⟩
  obtain ⟨hstate, hreports⟩ := finish_sameButHost ((s.modSto (fun t => { t with delay := false })).brakeOff 0)
  rw [honly] at hstate hreports ⊢
  exact ⟨hstate, hreports⟩

theorem brkStoDelay_ignored (h : (s.sto.block && s.sto.delay && s.parOn (lawId 15 0x2C)) = false) : Does .brkStoDelay s s [] := by
  have hdone : exec .brkStoDelay s = done s s := by
    rw [exec_brkStoDelay]
    unfold execBrkStoDelay
    rw [whenLive_of_live hlive, doBrkStoDelay_idle s h]
  refine does_of_done hdone rfl rfl rfl rfl ?_
  rintro ⟨hevq, hstop, hopen, -, -⟩
  exact ⟨rfl, hstop, hopen, by rw [hevq]; rfl, Nat.zero_le 10⟩

theorem safeEnFall_appliesAtOnce (land : Fin 2) (hb : s.sto.block = false) (hon : s.parOn (lawId 15 0x2C) = true)
    (hzero : F.isZero (s.lawP 15 0x2D) = true) : Completes (.safeEnFall land) s (fun t => t.brake.isOff) := by
  have hland := landLevel_lands s land false
  have hdo := (doSafeEnFall_begins s land hb).trans
    (beginBlock_atOnce _ ((parOn_congr hland.params _).trans hon) ((congrArg F.isZero (lawP_congr hland.params _ _)).trans hzero))
  have hlands : LandsOnly s (doSafeEnFall land s) := by
    rw [hdo]
    exact (hland.trans (blockModes_lands _)).trans ((SafeOnly.refl _).brakeOff 0).lands
  refine completes_of_lands (exec_safeEnFall s land) hlive hlands ?_
  rw [hdo, finish_brake]
  exact brakeOff_isOff _ 0

theorem safeEnFall_startsDelay (land : Fin 2) (hb : s.sto.block = false) (hon : s.parOn (lawId 15 0x2C) = true)
    (hdelay : F.isZero (s.lawP 15 0x2D) = false) : Completes (.safeEnFall land) s (fun t => t.sto.delay = true) := by
  have hland := landLevel_lands s land false
  have hdo := (doSafeEnFall_begins s land hb).trans
    (beginBlock_delayed _ ((parOn_congr hland.params _).trans hon) ((congrArg F.isZero (lawP_congr hland.params _ _)).trans hdelay))
  have hlands : LandsOnly s (doSafeEnFall land s) := by
    rw [hdo]
    exact (hland.trans (blockModes_lands _)).trans (modSto_lands _ _)
  refine completes_of_lands (exec_safeEnFall s land) hlive hlands ?_
  rw [hdo, finish_sto, modSto_sto]

theorem safeEnRelease_leavesBrake :
    Completes .safeEnRelease s (fun t => t.brake = s.brake ∧ (t.sto.block = false → s.sto.block = true → t.sto.delay = false)) := by
  rcases doSafeEnRelease_cases s with hend | hsame
  · refine completes_of_lands (exec_safeEnRelease s) hlive ?_ ?_
    · rw [hend]
      exact (modSto_lands s _).trans (endBlock_only s).lands
    · rw [hend, finish_brake, finish_sto, endBlock_brake, (endBlock_only s).sto, modSto_sto]
      exact ⟨rfl, fun _ _ => rfl⟩
  · refine completes_of_lands (exec_safeEnRelease s) hlive ?_ ?_
    · rw [hsame]
      exact (SafeOnly.refl s).lands
    · rw [hsame, finish_brake, finish_sto]
      exact ⟨rfl, fun hopen hblock => absurd (hopen.symm.trans hblock) Bool.false_ne_true⟩

end Clauses

/-- Settles O37: the delay that a block starts applies the brake when it passes, and the end of the block clears it with the brake untouched. -/
theorem brakeFollowsBlock : Obligations.BrakeFollowsBlock := by
  unfold Obligations.BrakeFollowsBlock
  intro s hlive
  exact ⟨brkStoDelay_applies hlive, brkStoDelay_ignored hlive, safeEnFall_appliesAtOnce hlive, safeEnFall_startsDelay hlive,
    safeEnRelease_leavesBrake hlive⟩

end Sys2Proof.Machine

/-! # PROOFS. Accesses of BAR0 and the check value of the manifests (R338, R344) -/

namespace Sys2Proof.Machine

/-! ### Commands that may write setup registers -/

/-- Where the setup registers stand as they were, the answer that may change them is the answer that keeps them. -/
theorem doneSetup_eq_done {s u : State} (hset : u.setup = s.setup) (hpend : u.setupPend = s.setupPend) : doneSetup s u = done s u := by
  rw [doneSetup_eq, done_eq, ← hset, ← hpend, ← finish_setup u, ← finish_setupPend u]

/-- What follows a state up to its detected events follows the state before they were detected. -/
theorem Does.of_queueOnly {c : Instr} {s u v : State} {es : List Event} (hq : QueueOnly u v) (h : Does c s v es) : Does c s u es := by
  obtain ⟨t, hexec, ⟨hstate, hreports⟩, hlog⟩ := h
  unfold QueueOnly at hq
  refine ⟨t, hexec, ⟨?_, ?_⟩, hlog⟩
  · rw [hstate, hq]
  · rwa [hq] at hreports

/-- A write that does no more than raise one event of the host endpoint records that event alone (R365). -/
theorem does_of_raiseHst {c : Instr} {s : State} {a : Cause} {d0 d1 : Word} {tag : Half}
    (h : exec c s = doneSetup s (s.raiseHst a d0 d1 tag)) :
    Does c s s [s.event (codeOf a.lvl 1 a.num) a.cls 0 0xFF d0 d1 tag] := by
  have honly : QueueOnly s (s.raiseHst a d0 d1 tag) := raiseCls_only s a a.cls 1 0 0xFF d0 d1 tag
  have hevq : (s.raiseHst a d0 d1 tag).evq = s.evq ++ [s.event (codeOf a.lvl 1 a.num) a.cls 0 0xFF d0 d1 tag] :=
    raiseCls_evq s a a.cls 1 0 0xFF d0 d1 tag
  refine .of_queueOnly honly (does_of_done (h.trans (doneSetup_eq_done rfl rfl)) rfl rfl rfl rfl ?_)
  rintro ⟨hnone, hstop, hopen, -, -⟩
  exact ⟨rfl, hstop, hopen, by rw [hevq, hnone]; rfl, Nat.le_add_left 1 9⟩

/-- A write that does no more than raise HOST_ACCESS_BAD. -/
theorem does_of_accessBad {c : Instr} {s u : State} (hexec : exec c s = doneSetup s u) (hbad : u = s.raiseHst evHostAccessBad 0 0 0) :
    Does c s s [s.event (codeOf 1 1 0x2AA) .note 0 0xFF 0 0 0] :=
  does_of_raiseHst (a := evHostAccessBad) (hexec.trans (congrArg (doneSetup s) hbad))

/-! ### Writes that BAR0 discards (R338) -/

theorem doWrite_pcie_bad {s : State} (hans : s.answers = true) {o : Nat} {be : BitVec 4} (hbad : be ≠ 15 ∨ o % 4 ≠ 0) (v n : Word) :
    doWrite .pcie o be v n s = s.raiseHst evHostAccessBad 0 0 0 := by
  unfold doWrite
  simp only [hans, Bool.not_true, Bool.false_eq_true, if_false]
  exact if_pos hbad.symm

/-- The debug controls stand at aligned offsets and take full writes alone. -/
theorem isDbgControl_bad {o : Nat} {be : BitVec 4} (hbad : be ≠ 15 ∨ o % 4 ≠ 0) : isDbgControl .pcie o be = false := by
  rw [Bool.eq_false_iff]
  intro h
  simp only [isDbgControl, Bool.and_eq_true, Bool.or_eq_true, decide_eq_true_eq] at h
  obtain ⟨⟨-, hbe⟩, hoff⟩ := h
  rcases hbad with hpart | hmis
  · exact hpart hbe
  · omega

theorem doAnyWrite_pcie_bad {s : State} (hans : s.answers = true) {o : Nat} {be : BitVec 4} (hbad : be ≠ 15 ∨ o % 4 ≠ 0)
    (v n : Word) :
    doAnyWrite .pcie o be v n s = s.raiseHst evHostAccessBad 0 0 0 := by
  unfold doAnyWrite
  rw [isDbgControl_bad hbad]
  exact doWrite_pcie_bad hans hbad v n

/-! ### What a read of a register changes (R14, R15, R61, R185, R338) -/

/-- Only the word handed out, the ports' captures and the fields that a read clears change; of the host interface, the count of lost events. -/
def ReadOnly (s t : State) : Prop :=
  t = { s with
    tim := t.tim, laws := t.laws, bridges := t.bridges, chans := t.chans, sns := t.sns, wins := t.wins, tracts := t.tracts, span := t.span,
    acts := t.acts, haws := t.haws, cans := t.cans, wash := t.wash, readOut := t.readOut, host := { s.host with evLost := t.host.evLost } }

theorem ReadOnly.refl (s : State) : ReadOnly s s := rfl

theorem ReadOnly.trans {s t u : State} (h : ReadOnly s t) (k : ReadOnly t u) : ReadOnly s u := by
  unfold ReadOnly at *
  rw [k, h]

theorem captures_readOnly (s : State) (p : Port) (o : Nat) : ReadOnly s (s.captures p o) := by
  unfold State.captures
  split
  · rfl
  · split <;> rfl

theorem clearClu_readOnly (s : State) (r : RegionId) (o : Nat) (n : Word) : ReadOnly s (s.clearClu r o n) := by
  unfold State.clearClu
  split
  · rfl
  · split <;> rfl
  · rfl

theorem ReadOnly.ite {s t u : State} {p : Prop} [Decidable p] (h : ReadOnly s t) (k : ReadOnly s u) : ReadOnly s (if p then t else u) := by
  split
  · exact h
  · exact k

theorem modWin_readOnly (s : State) (w : WinId) (f : Win → Win) : ReadOnly s (s.modWin w f) := rfl

/-- Each register with RC fields stands in one unit; the last ones of `WIN` are read for 24 windows at once. -/
theorem clearRc_readOnly (s : State) (o : Nat) (n : Word) : ReadOnly s (s.clearRc o n) := by
  unfold State.clearRc
  refine .ite ?clu <| .ite rfl <| .ite rfl <| .ite rfl <| .ite rfl <| .ite rfl <| .ite (.ite rfl <| .ite rfl rfl) <| .ite ?win <|
    .ite rfl <| .ite rfl <| .ite rfl <| .ite rfl <| .ite rfl rfl
  case clu =>
    split
    · exact clearClu_readOnly s _ _ n
    · rfl
  case win => exact each_induct ReadOnly .refl .trans _ (fun u i => modWin_readOnly u _ _) _ s

/-- A read over either port. -/
theorem doRead_readOnly (p : Port) (o : Nat) (be : BitVec 4) (n : Word) (s : State) : ReadOnly s (doRead p o be n s) := by
  have hword (t : State) (ws : List Word) : ReadOnly t { t with readOut := ws } := rfl
  have hcap := captures_readOnly s p (o - o % 4)
  unfold doRead State.readOne
  exact .ite rfl ((hcap.trans (.ite (clearRc_readOnly _ _ n) (.refl _))).trans (hword _ _))

/-- A command that only reads does what its state says and records nothing. -/
theorem does_of_readOnly {c : Instr} {s u : State} (h : exec c s = done s u) (hread : ReadOnly s u) : Does c s u [] := by
  unfold ReadOnly at hread
  refine does_of_done h (by rw [hread]) (by rw [hread]) (by rw [hread]) (by rw [hread]) ?_
  rintro ⟨hnone, hstop, hopen, -, -⟩
  rw [hread]
  exact ⟨rfl, hstop, hopen, by rw [hnone]; rfl, Nat.zero_le 10⟩

/-! ### Reads over PCIe (R338) -/

theorem byteMask_all : byteMask 15 = BitVec.allOnes 32 := by decide

theorem rcRead_does (o : Half) (be : BitVec 4) (n : Word) (s : State) :
    Does (.rcRead .pcie o be n) s (doRead .pcie o.toNat be n s) [] :=
  does_of_readOnly (exec_rcRead s .pcie o be n) (doRead_readOnly .pcie o.toNat be n s)

/-- With all four byte enables a read returns the whole register after its captures, and clears its RC fields. -/
theorem doRead_pcie_full {s : State} (hans : s.answers = true) (o : Nat) (n : Word) :
    doRead .pcie o 15 n s = { (s.captures .pcie (o - o % 4)).clearRc (o - o % 4) n with
      readOut := [readReg (s.captures .pcie (o - o % 4)) .pcie (o - o % 4)] } := by
  unfold doRead State.readOne
  simp only [hans, byteMask_all, BitVec.and_allOnes, Bool.not_true, Bool.false_eq_true, if_false, and_self, if_true]

/-- With fewer it captures all the same and returns the bytes enabled, and no field clears. -/
theorem doRead_pcie_partial {s : State} (hans : s.answers = true) (o : Nat) {be : BitVec 4} (hbe : be ≠ 15) (n : Word) :
    doRead .pcie o be n s = { s.captures .pcie (o - o % 4) with
      readOut := [readReg (s.captures .pcie (o - o % 4)) .pcie (o - o % 4) &&& byteMask be] } := by
  unfold doRead State.readOne
  simp only [hans, hbe, Bool.not_true, Bool.false_eq_true, if_false, and_false]

/-- Settles O51: a misaligned or partial write of BAR0 raises HOST_ACCESS_BAD and nothing else; a read always captures, returns the bytes
enabled, and clears with all four byte enables alone. -/
theorem hostAccesses : Obligations.HostAccesses := by
  unfold Obligations.HostAccesses
  intro o be v n s hans
  refine ⟨fun hbad => ⟨?write, ?w1c⟩, fun hmis => ?timing, fun hbe => ?part, ?full⟩
  case write => exact does_of_accessBad (exec_registerWrite s .pcie o be v) (doAnyWrite_pcie_bad hans hbad v 0)
  case w1c => exact does_of_accessBad (exec_w1cWrite s .pcie o be v n) (doAnyWrite_pcie_bad hans hbad v n)
  case timing => exact does_of_accessBad (exec_timingSetupWrite s .pcie o v) (doWrite_pcie_bad hans (.inr hmis) v 0)
  case part =>
    obtain ⟨t, hexec, hsame, hrec⟩ := rcRead_does o be n s
    rw [doRead_pcie_partial hans o.toNat hbe n] at hsame
    have hout : t.readOut = _ := congrArg State.readOut hsame.1
    refine ⟨t, hexec, ?_, hrec, _, hout, by rw [BitVec.and_assoc, BitVec.and_self]⟩
    rw [hout]
    exact hsame
  case full =>
    have hread := rcRead_does o 15 n s
    rwa [doRead_pcie_full hans o.toNat n] at hread

/-! ### The check value of the manifests (R344) -/

/-- A manifest is used only with its `FORMAT` and the CRC of the 124 bytes before it (R343, R344). -/
theorem manGood_iff (m : BitVec 1024) : manGood m = true ↔
    manHalf m 0 = 1 ∧ manWord m 124 = crc32c ((List.range 124).map (fun i => m.extractLsb' (8 * i) 8)) := by
  unfold manGood
  rw [Bool.and_eq_true, decide_eq_true_eq, decide_eq_true_eq]

/-- The check value that R344 gives, over the ASCII digits 1 to 9. -/
theorem crc32c_digits : crc32c [0x31, 0x32, 0x33, 0x34, 0x35, 0x36, 0x37, 0x38, 0x39] = 0xE3069283 := by
  decide +kernel

/-- Settles O46: the algorithm is the table's last row, its value over the nine digits is computed, and either manifest carries it. -/
theorem manifestCrc : Obligations.ManifestCrc := by
  unfold Obligations.ManifestCrc
  have halg : crcAlg 4 = { width := 32, poly := 0x1EDC6F41, init := 0xFFFFFFFF, refl := true, xor := 0xFFFFFFFF } := rfl
  have hcrc (xs : List Byte) : crc32c xs = BitVec.ofNat 32 (crcOf (crcAlg 4) xs) := rfl
  have hret (r : RetMan) : r.crc = crc32c r.bytes := rfl
  exact ⟨halg, hcrc, crc32c_digits, fun m hgood => ((manGood_iff m).mp hgood).2, hret⟩

end Sys2Proof.Machine

/-! # PROOFS. Transactions on host loss (R346, R347, R379) -/

namespace Sys2Proof.Machine

/-! ### Slots rolled back (R379, R387) -/

/-- The record of TXN_ROLLED_BACK with reason HOST_LOST for a slot as it stands. -/
def State.rolledBackEvent (s : State) (k : SlotId) : Event :=
  s.event (codeOf 1 1 0x2B4) .note 0 (BitVec.ofNat 8 k.val) 12 0 (s.slot k).tag

/-- A slot that host loss ends, where `due` says whether a commit past its V goes too. -/
def Slot.endsOnLoss (due : Bool) (x : Slot) : Bool := x.open || (due && decide (x.state = .pending))

/-- At a slack point (`due`) host loss ends the slots that R379 names and no other. -/
theorem endsOnLoss_due_iff (x : Slot) :
    x.endsOnLoss true = true ↔ x.state = .open ∨ x.state = .doomed ∨ x.state = .pending := by
  unfold Slot.endsOnLoss Slot.open
  cases x.state <;> simp

/-- One slot's turn in the rollback of host loss. -/
def State.lossTurn (due : Bool) (s : State) (k : SlotId) : State :=
  if (s.slot k).endsOnLoss due then s.rollBack k 12 (s.slot k).tag else s

theorem rollBackAll_eq (s : State) (due : Bool) : s.rollBackAll due = each allSlots (State.lossTurn due) s := rfl

theorem rollBack_txn (s : State) (k : SlotId) (why : Nat) (tag : Half) : (s.rollBack k why tag).txn = (s.closeSlot k).txn := by
  rw [rollBack_only]

theorem slot_congr {s t : State} (h : t.txn = s.txn) (k : SlotId) : t.slot k = s.slot k := congrArg (fun x => x.slots[k]) h

theorem rollBack_slot (s : State) (k : SlotId) (why : Nat) (tag : Half) : (s.rollBack k why tag).slot k = {} :=
  (slot_congr (rollBack_txn s k why tag) k).trans (closeSlot_slot s k)

theorem rollBack_slot_ne (s : State) {k j : SlotId} (why : Nat) (tag : Half) (h : k ≠ j) : (s.rollBack k why tag).slot j = s.slot j :=
  (slot_congr (rollBack_txn s k why tag) j).trans (closeSlot_ne s k j h)

theorem rollBack_evq (s : State) (k : SlotId) : (s.rollBack k 12 (s.slot k).tag).evq = s.evq ++ [s.rolledBackEvent k] := rfl

theorem lossTurn_slot_ne (due : Bool) (s : State) {k j : SlotId} (h : k ≠ j) : (s.lossTurn due k).slot j = s.slot j := by
  unfold State.lossTurn
  split
  · exact rollBack_slot_ne s 12 _ h
  · rfl

theorem lossTurn_slot (due : Bool) (s : State) (k : SlotId) :
    (s.lossTurn due k).slot k = if (s.slot k).endsOnLoss due then {} else s.slot k := by
  unfold State.lossTurn
  split
  · exact rollBack_slot s k 12 _
  · rfl

theorem lossTurn_evq (due : Bool) (s : State) (k : SlotId) :
    (s.lossTurn due k).evq = s.evq ++ if (s.slot k).endsOnLoss due then [s.rolledBackEvent k] else [] := by
  unfold State.lossTurn
  split
  · exact rollBack_evq s k
  · exact (List.append_nil _).symm

/-- A turn leaves the record of every other slot as it would have been before. -/
theorem rolledBackEvent_lossTurn (due : Bool) (s : State) {k j : SlotId} (h : k ≠ j) :
    (s.lossTurn due k).rolledBackEvent j = s.rolledBackEvent j := by
  unfold State.rolledBackEvent
  rw [lossTurn_slot_ne due s h]
  unfold State.lossTurn
  split <;> rfl

/-- Turns that do not come to a slot leave it alone. -/
theorem lossTurns_slot_notMem (due : Bool) {xs : List SlotId} {j : SlotId} (hj : j ∉ xs) (s : State) :
    (each xs (State.lossTurn due) s).slot j = s.slot j := by
  induction xs generalizing s with
  | nil => rfl
  | cons k xs ih =>
    have hkj : k ≠ j := fun h => hj (h ▸ List.mem_cons_self)
    exact (ih (fun h => hj (List.mem_cons_of_mem k h)) _).trans (lossTurn_slot_ne due s hkj)

/-- After its one turn a slot that host loss ends is CLOSED, and any other is as it was. -/
theorem lossTurns_slot (due : Bool) {xs : List SlotId} (hnd : xs.Nodup) {j : SlotId} (hj : j ∈ xs) (s : State) :
    (each xs (State.lossTurn due) s).slot j = if (s.slot j).endsOnLoss due then {} else s.slot j := by
  induction xs generalizing s with
  | nil => exact absurd hj List.not_mem_nil
  | cons k xs ih =>
    obtain ⟨hk, hnd'⟩ := List.nodup_cons.mp hnd
    show (each xs (State.lossTurn due) (s.lossTurn due k)).slot j = _
    by_cases hkj : k = j
    · subst hkj
      rw [lossTurns_slot_notMem due hk, lossTurn_slot]
    · rw [ih hnd' (List.mem_of_ne_of_mem (Ne.symm hkj) hj), lossTurn_slot_ne due s hkj]

/-- Each slot that host loss ends has its record, in the order of the turns, and no other has one. -/
theorem lossTurns_evq (due : Bool) {xs : List SlotId} (hnd : xs.Nodup) (s : State) :
    (each xs (State.lossTurn due) s).evq =
      s.evq ++ (xs.filter (fun k => (s.slot k).endsOnLoss due)).map s.rolledBackEvent := by
  induction xs generalizing s with
  | nil => exact (List.append_nil _).symm
  | cons k xs ih =>
    obtain ⟨hk, hnd'⟩ := List.nodup_cons.mp hnd
    have hne {j : SlotId} (hj : j ∈ xs) : k ≠ j := fun h => hk (h ▸ hj)
    have hfilter : xs.filter (fun j => ((s.lossTurn due k).slot j).endsOnLoss due) = xs.filter (fun j => (s.slot j).endsOnLoss due) :=
      List.filter_congr (fun j hj => by rw [lossTurn_slot_ne due s (hne hj)])
    have hmap : (xs.filter (fun j => (s.slot j).endsOnLoss due)).map (s.lossTurn due k).rolledBackEvent =
        (xs.filter (fun j => (s.slot j).endsOnLoss due)).map s.rolledBackEvent :=
      List.map_congr_left (fun j hj => rolledBackEvent_lossTurn due s (hne (List.mem_of_mem_filter hj)))
    show (each xs (State.lossTurn due) (s.lossTurn due k)).evq = _
    rw [ih hnd', hfilter, hmap, lossTurn_evq, List.append_assoc, List.filter_cons]
    split <;> rfl

theorem allSlots_nodup : allSlots.Nodup := by decide
theorem mem_allSlots (k : SlotId) : k ∈ allSlots := by revert k; decide

theorem rollBackAll_slot (s : State) (due : Bool) (k : SlotId) :
    (s.rollBackAll due).slot k = if (s.slot k).endsOnLoss due then {} else s.slot k := by
  rw [rollBackAll_eq, lossTurns_slot due allSlots_nodup (mem_allSlots k)]

theorem rollBackAll_evq (s : State) (due : Bool) :
    (s.rollBackAll due).evq = s.evq ++ (allSlots.filter (fun k => (s.slot k).endsOnLoss due)).map s.rolledBackEvent := by
  rw [rollBackAll_eq, lossTurns_evq due allSlots_nodup]

/-- A slot that host loss ends has its TXN_ROLLED_BACK among the events detected. -/
theorem mem_rollBackAll_evq (s : State) {due : Bool} {k : SlotId} (h : (s.slot k).endsOnLoss due = true) :
    s.rolledBackEvent k ∈ (s.rollBackAll due).evq := by
  rw [rollBackAll_evq]
  exact List.mem_append_right _ (List.mem_map_of_mem (List.mem_filter.mpr ⟨mem_allSlots k, h⟩))

/-- There are four slots. -/
theorem rollBackAll_evq_length (s : State) (due : Bool) : (s.rollBackAll due).evq.length ≤ s.evq.length + 4 := by
  rw [rollBackAll_evq, List.length_append, List.length_map]
  exact Nat.add_le_add_left (List.length_filter_le _ allSlots) _

/-! ### The host-loss reaction before the rollback (R347) -/

/-- Only law engines, bridges and the charger change. -/
def OutputsOnly (s t : State) : Prop := t = { s with laws := t.laws, bridges := t.bridges, chg := t.chg }

theorem OutputsOnly.trans {s t u : State} (h : OutputsOnly s t) (k : OutputsOnly t u) : OutputsOnly s u := by
  unfold OutputsOnly at *
  rw [k, h]

theorem OutputsOnly.tim {s t : State} (h : OutputsOnly s t) : t.tim = s.tim := by unfold OutputsOnly at h; rw [h]
theorem OutputsOnly.txn {s t : State} (h : OutputsOnly s t) : t.txn = s.txn := by unfold OutputsOnly at h; rw [h]
theorem OutputsOnly.host {s t : State} (h : OutputsOnly s t) : t.host = s.host := by unfold OutputsOnly at h; rw [h]
theorem OutputsOnly.evq {s t : State} (h : OutputsOnly s t) : t.evq = s.evq := by unfold OutputsOnly at h; rw [h]

theorem LawsOnly.outputs {s t : State} (h : LawsOnly s t) : OutputsOnly s t := by
  unfold LawsOnly OutputsOnly at *
  rw [h]

theorem chgGoOff_outputs (s : State) (c : EndCause) : OutputsOnly s (s.chgGoOff c) := by
  have hleave : OutputsOnly s (s.leaveSession c) := leaveSession_only s c
  unfold State.chgGoOff
  split
  · exact hleave
  · exact hleave.trans (chgOff_only _)

/-- The stored ring set-points of an engine become zero. -/
def State.zeroSp (s : State) (l : LawId) : State := s.modLaw l (fun x => { x with ringSp := F.zero, ringMz := F.zero })

/-- What host loss does to the outputs: set-points of torque, power, bus voltage and currents to zero, CHG to OFF. -/
def State.lossOutputs (s : State) : State :=
  (each allActs (fun s a => if (s.actu a).mode = .current then s.zeroSp (actLaw a) else s)
    (each [1, 4, 8, 9, 10] State.zeroSp s)).chgGoOff .host

theorem lossOutputs_only (s : State) : OutputsOnly s s.lossOutputs := by
  have hlaws := each_induct LawsOnly (fun _ => rfl) LawsOnly.trans State.zeroSp (fun _ _ => rfl) [1, 4, 8, 9, 10] s
  refine (LawsOnly.outputs (hlaws.trans (each_induct LawsOnly (fun _ => rfl) LawsOnly.trans _ (fun u a => ?_) allActs _))).trans
    (chgGoOff_outputs _ .host)
  split <;> rfl

/-- Host loss in the host interface: fetched and deferred records are discarded. -/
def HostIf.loseHost (h : HostIf) : HostIf := { h with due := [], deferred := [], toRead := [], lost := true }

/-- The reaction by its parts: the outputs, the fetched records, the slots. -/
theorem hostLoss_eq (s : State) (due : Bool) : s.hostLoss due = (s.lossOutputs.modHost HostIf.loseHost).rollBackAll due := rfl

/-! ### HOST_LOST at its tide boundary (R346) -/

/-- Beside timing and the CAN counters, only what the safe state of a region may touch changes. -/
def BoundaryOnly (s t : State) : Prop := SafeOnly { s with tim := t.tim, cans := t.cans } t

theorem BoundaryOnly.trans {s t u : State} (h : BoundaryOnly s t) (k : BoundaryOnly t u) : BoundaryOnly s u := by
  unfold BoundaryOnly SafeOnly at *
  rw [k, h]

theorem SafeOnly.boundary {s t : State} (h : SafeOnly s t) : BoundaryOnly s t := by
  unfold BoundaryOnly SafeOnly at *
  rw [h]

theorem modTim_boundary (s : State) (f : Timing → Timing) : BoundaryOnly s (s.modTim f) := .refl _

/-- Device time that reaches an instant moves what time that passes moves. -/
theorem reach_only (s : State) (t : Time) :
    s.reach t = { s with tim := (s.reach t).tim, cans := (s.reach t).cans, bridges := (s.reach t).bridges } := by
  unfold State.reach
  split
  · rw [timeTo_only s t]
  · rfl

/-- The device at the coming tide boundary, under the index of the tide that starts there (log 28). -/
def State.atBoundary (s : State) : State := (s.reach s.boundaryTime).modTim (fun t => { t with tideIndex := s.tideNext })

theorem atBoundary_only (s : State) :
    s.atBoundary = { s with tim := s.atBoundary.tim, cans := s.atBoundary.cans, bridges := s.atBoundary.bridges } := by
  unfold State.atBoundary
  rw [reach_only]
  rfl

theorem atBoundary_txn (s : State) : s.atBoundary.txn = s.txn := by rw [atBoundary_only]
theorem atBoundary_host (s : State) : s.atBoundary.host = s.host := by rw [atBoundary_only]
theorem atBoundary_evq (s : State) : s.atBoundary.evq = s.evq := by rw [atBoundary_only]

theorem atBoundary_boundary (s : State) : BoundaryOnly s s.atBoundary := by
  unfold BoundaryOnly SafeOnly
  rw [atBoundary_only]

/-- HOST_LOST with its count of missed tides and the limit on it. -/
def State.raiseHostLost (s : State) : State :=
  s.atBoundary.raiseReg evHostLost .hst (F.ofNat (s.host.missed.toNat + 1)) (F.ofNat (s.cfgF 0x2018 0 8))

/-- HOST_LOST but for the rollback of slots. -/
def State.lossBegun (s : State) : State := s.raiseHostLost.lossOutputs.modHost HostIf.loseHost

theorem raiseHostLost_queueOnly (s : State) : QueueOnly s.atBoundary s.raiseHostLost := raiseCls_only s.atBoundary _ _ _ _ _ _ _ _

theorem lossBegun_tim (s : State) : s.lossBegun.tim = s.atBoundary.tim := by
  unfold State.lossBegun
  rw [modHost_tim, (lossOutputs_only _).tim, raiseHostLost_queueOnly]

theorem lossBegun_txn (s : State) : s.lossBegun.txn = s.txn := by
  unfold State.lossBegun
  rw [modHost_txn, (lossOutputs_only _).txn, raiseHostLost_queueOnly, atBoundary_txn]

theorem lossBegun_host (s : State) : s.lossBegun.host = s.host.loseHost := by
  unfold State.lossBegun
  rw [modHost_host, (lossOutputs_only _).host, raiseHostLost_queueOnly, atBoundary_host]

/-- One event is detected before the slots' turns. -/
theorem lossBegun_evq_length (s : State) : s.lossBegun.evq.length = s.evq.length + 1 := by
  unfold State.lossBegun
  rw [modHost_evq, (lossOutputs_only _).evq]
  unfold State.raiseHostLost State.raiseReg State.raise
  rw [raiseCls_evq, List.length_append, List.length_singleton, atBoundary_evq]

/-- HOST_LOST by its parts, where it is due: what begins it, the slots' turns, and the index as it was until the boundary itself. -/
theorem doHostLost_eq {s : State} (hdue : s.lossDue = true) :
    doHostLost s = (s.lossBegun.rollBackAll true).modTim (fun t => { t with tideIndex := s.tim.tideIndex }) := by
  unfold doHostLost State.lossBegun
  rw [← hostLoss_eq, hdue]
  rfl

theorem doHostLost_boundary {s : State} (hdue : s.lossDue = true) : BoundaryOnly s (doHostLost s) := by
  rw [doHostLost_eq hdue]
  have hreaction : SafeOnly s.atBoundary (s.lossBegun.rollBackAll true) := ((SafeOnly.refl s.atBoundary).raiseReg _ _ _ _).hostLoss true
  exact ((atBoundary_boundary s).trans hreaction.boundary).trans (modTim_boundary _ _)

theorem completes_hostLost {s : State} {P : State → Prop} (hlive : s.live = true) (hdue : s.lossDue = true)
    (hP : P (doHostLost s).finish) : Completes .hostLost s P := by
  have honly := doHostLost_boundary hdue
  unfold BoundaryOnly SafeOnly at honly
  exact completes_of_done (whenLive_of_live hlive doHostLost) (by rw [honly]) (by rw [honly]) (by rw [honly]) (by rw [honly]) hP

/-- HOST_LOST empties each slot that it ends and leaves every other. -/
theorem doHostLost_slot {s : State} (hdue : s.lossDue = true) (k : SlotId) :
    (doHostLost s).slot k = if (s.slot k).endsOnLoss true then {} else s.slot k := by
  have htxn : (doHostLost s).txn = (s.lossBegun.rollBackAll true).txn := by rw [doHostLost_eq hdue, modTim_txn]
  rw [slot_congr htxn, rollBackAll_slot, slot_congr (lossBegun_txn s)]

/-- The record of a slot's rollback hangs on the slots, the epoch and the time alone. -/
theorem rolledBackEvent_congr {s t : State} (htim : t.tim = s.tim) (htxn : t.txn = s.txn) (k : SlotId) :
    t.rolledBackEvent k = s.rolledBackEvent k := by
  unfold State.rolledBackEvent State.event State.slot
  rw [htim, htxn]

/-- The start log takes the record of each slot that HOST_LOST ends, with the tide that starts at the boundary. -/
theorem doHostLost_logs {s : State} (hdue : s.lossDue = true) {k : SlotId} (hends : (s.slot k).endsOnLoss true = true) :
    Logs s (doHostLost s).finish (State.rolledBackEvent { s with tim := s.atBoundary.tim } k) := by
  have hevq : (doHostLost s).evq = (s.lossBegun.rollBackAll true).evq := by rw [doHostLost_eq hdue, modTim_evq]
  have hhost : (doHostLost s).host = s.host.loseHost := by
    rw [doHostLost_eq hdue, modTim_host, rollBackAll_only]
    exact lossBegun_host s
  have hset : (doHostLost s).setup = s.setup := by
    have honly := doHostLost_boundary hdue
    unfold BoundaryOnly SafeOnly at honly
    rw [honly]
  have hrecord : s.lossBegun.rolledBackEvent k = State.rolledBackEvent { s with tim := s.atBoundary.tim } k :=
    rolledBackEvent_congr (s := { s with tim := s.atBoundary.tim }) (lossBegun_tim s) (lossBegun_txn s) k
  rw [← hrecord]
  refine logs_finish (s := s.modHost HostIf.loseHost) hhost hset (fun _ => ?_) (fun hnone => ?_)
  · rw [hevq]
    exact mem_rollBackAll_evq s.lossBegun (by rw [slot_congr (lossBegun_txn s)]; exact hends)
  · have hstart : s.evq.length = 0 := congrArg List.length hnone
    have hlen := rollBackAll_evq_length s.lossBegun true
    rw [lossBegun_evq_length, hstart] at hlen
    rw [hevq]
    omega

/-- Settles O49: the rollback comes to each slot once and ends it exactly where it is OPEN, DOOMED or PENDING; its record carries the tide
that starts at the boundary (log 28). -/
theorem hostLossRollsBack : Obligations.HostLossRollsBack := by
  unfold Obligations.HostLossRollsBack
  intro k s hlive hdue
  have hends := endsOnLoss_due_iff (s.slot k)
  have hslot : (doHostLost s).finish.slot k = if (s.slot k).endsOnLoss true then {} else s.slot k :=
    (slot_congr (finish_txn _) k).trans (doHostLost_slot hdue k)
  have hkept (hstate : ¬ (s.slot k).endsOnLoss true = true) : (doHostLost s).finish.slot k = s.slot k := by rw [hslot, if_neg hstate]
  refine completes_hostLost hlive hdue ⟨fun hstate => ⟨?closed, doHostLost_logs hdue (hends.mpr hstate)⟩, fun hprep => ?prepared,
    fun hclosed => ?stays⟩
  case closed => rw [hslot, if_pos (hends.mpr hstate)]
  case prepared => exact hkept (by rw [hends, hprep]; decide)
  case stays =>
    rw [hkept (by rw [hends, hclosed]; decide)]
    exact hclosed

end Sys2Proof.Machine
